-- ==== Sys2Proof/Word.lean ====
section
/-! DEFINITION. The word types of the LCM-88 model and their plainest arithmetic (spec/00_scope.md R5, R6). -/

namespace Sys2Proof

/-- A system word or an instruction word: 32 bits (R6, R79). -/
abbrev Word := BitVec 32
/-- A word accumulator (R66). -/
abbrev Word64 := BitVec 64
/-- A byte of memory. -/
abbrev Byte := BitVec 8

/-- A bit as a Nat. -/
def bitNat (b : Bool) : Nat := if b then 1 else 0

/-- `x` held between `lo` and `hi`. -/
def clampInt (lo hi x : Int) : Int := if x < lo then lo else if hi < x then hi else x

/-- `a + b` held at `lim` (a saturating counter). -/
def satAdd (lim a b : Nat) : Nat := if a + b ≤ lim then a + b else lim

end Sys2Proof
end

