-- ==== Sys2Proof/Types.lean ====
section
/-! DEFINITION. The data the commands carry: program images, frames, pass reports (operands of `Instr`). -/

namespace Sys2Proof.Machine

/-- The operand of an Ebgen instruction with a memory operand: AREA and OPERAND of the first word and the word that
follows it in the code (spec/03 R79, R82); the second word is read only by an extended form. (DESIGN CHOICE: log entry 6) -/
structure Opnd where
  area : BitVec 4
  opd : BitVec 22
  w2 : Word
  deriving DecidableEq, Repr

/-- The operand of an OP 0x13 function: AREA, OPERAND bits [21:8] and the condition code (spec/03 R89). -/
structure FnOpnd where
  area : BitVec 4
  rest : BitVec 14
  cond : BitVec 4
  deriving DecidableEq, Repr

/-- The operand of an OP 0x19 or OP 0x2B function: AREA and the 16-bit argument (spec/04 R114, R129). -/
structure ArgOpnd where
  area : BitVec 4
  arg : BitVec 16
  deriving DecidableEq, Repr

/-- The registers of one task (spec/03 Table 3-1); `ns` holds the nest stack, innermost entry first. -/
structure Regs where
  ba : Bool
  wa : Word64
  wb : Word64
  sov : Bool
  nf : Bool
  zf : Bool
  cf : Bool
  ns : List (BitVec 4)
  dsel : BitVec 16
  ip : BitVec 22
  deriving DecidableEq, Repr

/-- Why a compare window closed (spec/06 R174). -/
inductive Close where
  | full | taken | psync | fault | buffer | breakpoint
  deriving DecidableEq, Repr

/-- A location of program data: area code, selector (block of D, task of L, else 0), byte offset (spec/03 R70). -/
structure Loc where
  area : Nat
  sel : Nat
  off : Nat
  deriving DecidableEq, Repr

/-- One logical entry of the write log (spec/06 Table 6-2): program data, system word, loop field, trigger or descriptor. -/
inductive LogEntry where
  | memBit (l : Loc) (bit : Nat) (v : Bool)
  | mem (l : Loc) (width : Nat) (v : Word64)
  | sysBit (idx bit : Nat) (v : Bool)
  | sysWord (idx : Nat) (v : Word)
  | lpwr (loop field : Nat) (v : Word)
  | trig (task : Nat)
  | rpost (ring : Nat) (l : Loc) (bytes : List Byte)
  deriving DecidableEq, Repr

/-- The outcome of one pass of a window (spec/06 Table 6-2), in true values. -/
structure Outcome where
  close : Close
  count : Nat
  path : List Nat
  sig : BitVec 64
  regs : Regs
  calls : List (Nat × BitVec 16)
  log : List LogEntry
  fault : Option (Nat × Nat)
  deriving DecidableEq, Repr

/-- The registers of a task as one pass holds them (spec/06 R170, Table 6-1): a bit as 3 bits, a word as 67 bits. -/
structure Bank where
  ba : BitVec 3
  wa : BitVec 67
  wb : BitVec 67
  sov : BitVec 3
  nf : BitVec 3
  zf : BitVec 3
  cf : BitVec 3
  ns : List (List (BitVec 3))
  dsel : BitVec 67
  ip : BitVec 22
  calls : List (Nat × BitVec 67)
  deriving DecidableEq, Repr

/-- What one pass delivered: the outcome computed from the true values, another outcome (a transient struck it), a code error, which
pass C alone can meet (spec/06 R171), or an outcome whose registers and logged values stand as the pass holds them. -/
inductive PassResult where
  | same
  | other (o : Outcome)
  | codeError
  | held (o : Outcome) (bank : Bank) (data : List (BitVec 67))
  deriving DecidableEq, Repr

/-- The results of the three passes of a window (spec/06 R180); pass C counts only where it runs. (DEDUCED: log entry 7) -/
structure PassReport where
  a : PassResult
  b : PassResult
  c : PassResult
  deriving DecidableEq, Repr

/-- A task the program image declares (spec/05 R139). -/
structure TaskDecl where
  id : Nat
  entry : Nat
  locals : Nat
  noncrit : Bool
  deriving DecidableEq, Repr

/-- An identity-table entry (spec/04 Table 4-14). -/
structure IdEntry where
  id : Word64
  area : Nat
  kind : Nat
  retain : Bool
  type : Nat
  bit : Nat
  block : Nat
  off : Nat
  size : Nat
  deriving DecidableEq, Repr

/-- What a segment carries (spec/05 R155). -/
inductive SegKind where
  | field
  | station (n : Nat)
  | view (v : Nat)
  deriving DecidableEq, Repr

/-- A segment of the I or Q image: its kind, direction, owners as the image names them, offset and length (spec/05 R155). -/
structure SegDecl where
  kind : SegKind
  out : Bool
  owners : List Nat
  off : Nat
  len : Nat
  deriving DecidableEq, Repr

/-- A station-table entry (spec/12, before R356). -/
structure StationDecl where
  n : Nat
  tag : Nat
  gen : Nat
  signals : Nat
  inSize : Nat
  outSize : Nat
  deriving DecidableEq, Repr

/-- A loop-table entry: the loop number and the fields that do not take their Reset value (spec/08 R216, R247). -/
structure LoopDecl where
  n : Nat
  fields : List (Nat × Word)
  deriving DecidableEq, Repr

/-- A declared timer (area 5) or counter (area 6) instance: number, KIND and ID (spec/04 R117, R122). -/
structure InstDecl where
  area : Nat
  n : Nat
  kind : Nat
  id : Word64
  deriving DecidableEq, Repr

/-- A delivered ring as the image declares it (spec/16 R464). -/
structure RingDecl where
  ring : Nat
  block : Nat
  base : Nat
  depth : Nat
  deriving DecidableEq, Repr

/-- A program image (spec/05 R139, R155; spec/07 Table 7-1): code, task table, identity table, initial data and declarations.
`intact` is the result of its own CRC-32 and structure check (spec/07 Table 7-4, IMAGE). -/
structure Image where
  version : Nat
  lineage : Nat
  format : Nat
  intact : Bool
  code : List Word
  tasks : List TaskDecl
  blocks : List (Nat × Nat)
  insts : List InstDecl
  ids : List IdEntry
  init : List (Loc × Byte)
  segs : List SegDecl
  stations : List StationDecl
  loops : List LoopDecl
  rings : List RingDecl
  dataBytes : Nat
  deriving DecidableEq, Repr

/-- How the engine's two runs of an evaluation compared (spec/08 R234, R235). -/
inductive LoopReport where
  | agree | repeatAgrees | disagree
  deriving DecidableEq, Repr

/-- The header of a received Dovetail frame (spec/09 Table 9-3). -/
structure DtHdr where
  seq : Nat
  epoch : Nat
  ack : Nat
  replay : Bool
  deriving DecidableEq, Repr

/-- A received NAK (spec/09 R256): its header, and the SEQ from which it asks for frames again. -/
structure NakFrame where
  h : DtHdr
  seq : Nat
  deriving DecidableEq, Repr

/-- What a CTRL frame tells of the end of a trial (spec/07 R214): its result, and the standby's counts of equal and of differing hashes. -/
structure TrialReport where
  result : Nat
  same : Nat
  diff : Nat
  deriving DecidableEq, Repr

/-- What the LP checker reports with its error (spec/06 R185, R186): how many passes had begun, the fault indicator of each, and whether pass C had met
a code error. -/
structure CheckerReport where
  ran : Nat
  passFlt : BitVec 3
  codeErr : Bool
  deriving DecidableEq, Repr

/-- What the Mortise's start finds (spec/10 R298, R317): whether its firmware is intact, and what a power loss has changed in the check of each FRAM copy. -/
structure MrtFound where
  fwOk : Bool
  damage : List Word
  deriving DecidableEq, Repr

/-- The place of a datagram in its session (spec/12 R372): its sequence number, and whether it came by plant port 2. -/
structure DatagramSeq where
  seq : Nat
  port2 : Bool
  deriving DecidableEq, Repr

/-- What is reported of the field supply (spec/01 R25; spec/11 R350): its voltage in mV, and whether the output ALV_EXT, which runs from it, is in
current limit. -/
structure FldReport where
  mv : Nat
  alvLimit : Bool
  deriving DecidableEq, Repr

/-- The payload of HB (spec/09 Table 9-4). -/
structure HbData where
  epoch : Nat
  ack : Nat
  role : Nat
  tick : Nat
  tt : Nat
  proto : Nat
  protoMin : Nat
  version : Nat
  phase : Nat
  linkA : Bool
  linkB : Bool
  setId : Word
  glue : Nat
  schState : Nat
  witnessSeen : Bool
  deriving DecidableEq, Repr

/-- The point at which an EXTWRITE was applied: before the latch of a task cycle, or after a named release (spec/09 R257). -/
inductive ExtPoint where
  | beforeLatch (task cycle : Nat)
  | afterRelease (task cycle : Nat)
  deriving DecidableEq, Repr

/-- The content of a BULK frame (spec/09 R264, R280; spec/17 R483). -/
inductive BulkData where
  | memory (cells : List (Loc × Byte))
  | loopFields (loop j grid : Nat) (fields : List (Nat × Word))
  | settings (words : List (Nat × Word)) (bufs : List (Nat × List Nat)) (rules : List (Nat × Word))
  | program (img : Image)
  | ocImage (img : Image)
  | cloneManifest (bytes : List Byte)
  | cloneSlot (part : Nat) (length : Nat) (digest : BitVec 256)
  | cloneEnd
  deriving DecidableEq, Repr

/-- The content of MARK (spec/09 Table 9-4, R280): the tick, TT and the enabled tasks at the point, or an online-change switch mark. -/
structure MarkData where
  tick : Nat
  tt : Nat
  enabled : List Nat
  switchMark : Bool
  deriving DecidableEq, Repr

/-- A ring frame's header as received (spec/12 Table 12-1). -/
structure RingHdr where
  src : Nat
  slot : Bool
  dir : Bool
  epoch : Nat
  cycle : Nat
  seq : Nat
  hops : Nat
  fcsOk : Bool
  rcrcOk : Bool
  ver : Nat
  kind : Nat
  lenOk : Bool
  deriving DecidableEq, Repr

/-- The body of a WITNESS frame that a receiver uses (spec/12 Table 12-3). -/
structure WitnessBody where
  tick : Nat
  time : Word64
  rc : Nat
  deriving DecidableEq, Repr

/-- The body of an INPUT frame (spec/12 Table 12-3). -/
structure InputBody where
  safe : Bool
  diag : Bool
  sampleAge : Nat
  diagCode : Word
  data : List Byte
  deriving DecidableEq, Repr

/-- The body of a HELLO frame (spec/12 Table 12-2). -/
structure HelloBody where
  tag : Nat
  mac : BitVec 48
  gen : Nat
  signals : Nat
  inSize : Nat
  outSize : Nat
  deriving DecidableEq, Repr

/-- Rights a session's certificate names (spec/12 Table 12-7). -/
inductive Rights where
  | read | operate | engineer | metrology
  deriving DecidableEq, Repr

/-- What a plant datagram asks for (spec/12 R372, R373; spec/16 R468); readBank reads the inactive bank (spec/07 R211). -/
inductive PlantOp where
  | readData (l : Loc) (len : Nat)
  | readBank (l : Loc) (len : Nat)
  | writeData (l : Loc) (bytes : List Byte)
  | readWord (idx : Nat)
  | writeWord (idx : Nat) (v : Word)
  | message (bytes : List Byte)
  | post (ring : Nat) (desc : List Byte)
  | ackMessage
  deriving DecidableEq, Repr

/-- The clock data set of an Announce message (spec/12 R378). -/
structure GmData where
  identity : Word64
  priority1 : Nat
  clockClass : Nat
  accuracy : Nat
  variance : Nat
  priority2 : Nat
  stepsRemoved : Nat
  utcOffset : BitVec 16
  utcValid : Bool
  leap61 : Bool
  leap59 : Bool
  deriving DecidableEq, Repr

/-- An edge report of the isolation link (spec/11 R332, Table 11-8): channel, direction, capture time [ns, REF time], and whether a frame's DI bits have shown it (R333). -/
structure EdgeReport where
  ch : Nat
  rising : Bool
  timeNs : Nat
  shown : Bool := false
  deriving DecidableEq, Repr

/-- A CAN frame on the bus (spec/13 R394, R396). -/
structure CanFrame where
  id : BitVec 29
  ide : Bool
  fdf : Bool
  brs : Bool
  esi : Bool
  rtr : Bool
  dlc : BitVec 4
  data : List Byte
  deriving DecidableEq, Repr

/-- The measurements of one Mortise computation cycle (spec/10 R291, R292): mean MA currents [nA], and per run the mean delay
of train B after A as an angle [0.01°] and whether B led A. -/
structure CycleMeas where
  ma : List Int
  phase : List Int
  reverse : List Bool
  deriving DecidableEq, Repr

/-- The sealed parameters of one meter run (spec/10 R291–R301). Units: kf [0.001 pulse/m³]; mf, ctl, cpl, csp [10^-9]; nomPhase, phaseTol
[0.01°]; lfCut [mL/s]; P [Pa], T [0.001 °C], D [g/m³]; bpv [mL]. -/
structure RunParams where
  configured : Bool
  twin : Bool
  trainB : Bool
  kf : Nat
  mf : Nat
  errLim : Nat
  nomPhase : Int
  phaseTol : Int
  lfCut : Nat
  fixedP : Int
  fixedT : Int
  fixedD : Int
  fallP : Int
  fallT : Int
  fallD : Int
  ctlT : List Int
  ctlD : List Int
  ctl : List (List Int)
  cplP : List Int
  cplD : List Int
  cpl : List (List Int)
  total1 : Nat
  total2 : Nat
  bpv : Nat
  csp : Nat
  deriving DecidableEq, Repr

/-- The sealed parameters of one MA channel (spec/10 R292, R295): quantity 0 none, 1 pressure, 2 temperature, 3 density. -/
structure MaParams where
  quantity : Nat
  run0 : Bool
  run1 : Bool
  lo : Int
  hi : Int
  hart : Bool
  hartDev : Int
  deriving DecidableEq, Repr

/-- A sealed parameter set (spec/10 R305). -/
structure MrtParams where
  runs : List RunParams
  ma : List MaParams
  repeatLim : Nat
  detTimeoutS : Nat
  singleDet : Bool
  allow : List Bool
  deriving DecidableEq, Repr

/-- A part entry of a firmware manifest (spec/17 Table 17-2). -/
structure ManifestEntry where
  part : Nat
  version : Word
  length : Nat
  digest : BitVec 256
  deriving DecidableEq, Repr

/-- A firmware manifest (spec/17 Table 17-2). -/
structure Manifest where
  magic : Word
  format : Nat
  count : Nat
  setSeq : Word
  proto : Nat
  protoMin : Nat
  dataVer : Nat
  dataMin : Nat
  zeros : Bool
  entries : List ManifestEntry
  keyId : Nat
  sigR : BitVec 256
  sigS : BitVec 256
  deriving DecidableEq, Repr

/-- Who writes a system word: a task of the LP, a plant session, the bench port, or the module itself (spec/15 R427, R456). -/
inductive Writer where
  | task (n : Nat)
  | session (n : Nat)
  | bench
  deriving DecidableEq, Repr

end Sys2Proof.Machine
end

