-- ==== Sys2Proof/Syntax.lean ====
section
/-! DEFINITION. The commands of the block: one constructor per row of spec/opcode_table.json, in its order. An operand is what the
row's rule says the command carries. A command that stands for an event carries what the event brings in from outside; the instant of
an event is the instant at which the command is taken. -/

namespace Sys2Proof

open Machine

/-- A command (spec/opcode_table.json; spec/95_what_each_step_holds.md). (DESIGN CHOICE: log entry 74) -/
inductive Instr where
  /-- MODULE_INSERTION (R36): The pins of X1 mate as the cassette is inserted; the feeds enter through the inrush limiter and the module holds itself in reset. -/
  | moduleInsertion (slotId : Nat) (feedA : Nat) (feedB : Nat)
  /-- RESET_RELEASE (R36): The slot identity has been valid and unchanged for 100 ms, a feed is at 19.2 V or more and precharge has ended, so the module leaves reset and starts up. -/
  | resetRelease
  /-- SLOT_ID_INVALID_LOADER (R18): SLOT_ID[3:1] has read neither 0b101 nor 0b111 for 100 ms with the feeds in range, so the module starts in the LOADER role and originates no frames. -/
  | slotIdInvalidLoader (id : Nat)
  /-- EXTRACTION_NOTICE (R38): A running module has read an invalid slot identity for 1 ms; it sends the notice on Dovetail, ends its control work and starts the power-fail sequence. -/
  | extractionNotice (id : Nat)
  /-- HOLDUP_CHARGED (R32): The hold-up storage has finished charging, which allows the first task to start. -/
  | holdupCharged
  /-- FEED_OVERVOLTAGE_DISCONNECT (R34): A feed above 30 V is disconnected internally until it returns below 30 V. -/
  | feedOvervoltageDisconnect (feedB : Bool) (mv : Nat)
  /-- DOMAIN_START_REQUEST (R43): A wake comparator fires, ahead of a slice by the domain's start bound, and starts a gated or parked clock domain. -/
  | domainStartRequest (d : Nat)
  /-- DOMAIN_FIRST_EDGE (R46): A started domain delivers its first clock edge, and the work of its slice begins. -/
  | domainFirstEdge (d : Nat) (ns : Nat)
  /-- DOMAIN_START_FAILED (R45): A domain has not started within four times its bound; DOM_FAIL is set and FS02 is raised. -/
  | domainStartFailed (d : Nat)
  /-- PLL_LOCK_LOSS (R45): The PLL of a running domain loses lock, so the domain has failed and FS02 is raised. -/
  | pllLockLoss (d : Nat)
  /-- DOMAIN_STOP (R44): Once every access a domain has issued has completed, the scheduler gates or parks it. -/
  | domainStop (d : Nat) (gapNs : Nat)
  /-- DOMAIN_ACCESS_START (R44): An access from another block that targets a stopped domain starts that domain and waits for it. -/
  | domainAccessStart (d : Nat)
  /-- AON_CRYSTAL_STOP (R49): The AON crystal stops; AON continues on the RC oscillator, the time backup becomes invalid and FS00 is raised. -/
  | aonCrystalStop
  /-- TIME_BACKUP_ALIGN (R48): Once per second the 64-bit time backup is aligned to the PTP time base. -/
  | timeBackupAlign
  /-- REF_DEVIATION_CHECK (R50): At the end of each 1 s measurement REF is compared with the AON crystal; a deviation above 100 ppm raises FS03. -/
  | refDeviationCheck (ppm : Int)
  /-- FEED_OUT_OF_RANGE (R50): Feed A or feed B has been outside 19.2–30.0 V for 10 ms, which raises FS04 or FS05. -/
  | feedOutOfRange (feedB : Bool) (mv : Nat)
  /-- BOARD_LIMIT_EXCEEDED (R50): The board temperature goes above 95 °C or an internal rail leaves ±5 %, which raises FS07. -/
  | boardLimitExceeded (temp : Int) (railOut : Bool)
  /-- HOLDUP_ENERGY_TEST (R51): The supervisor measures the usable hold-up energy at start and every 24 h, and raises FS06 if it is below 1.5 J. -/
  | holdupEnergyTest (mj : Option Nat)
  /-- HOLDUP_RECHARGE_TIMEOUT (R50): The storage has not recharged within 1.5 s, which raises FS06. -/
  | holdupRechargeTimeout
  /-- POWER_FAIL_DETECT (R52): The higher feed has stayed below the power-fail threshold for 50 µs; this is t0, and step 1 of the power-fail sequence runs. -/
  | powerFailDetect
  /-- PF_STEP_COMPLETE (R53): A step of the power-fail sequence reports complete; the record is rewritten and the supervisor starts the next step. -/
  | pfStepComplete
  /-- PF_STEP_TIMEOUT (R53): A step has not completed within its bound of Table 2-3; it is abandoned and the supervisor goes on with the next step. -/
  | pfStepTimeout
  /-- COMMAND_RESET (R59): Fjoly commands a reset of kind 4 through a plant session or the bench port. -/
  | commandReset (bench : Bool) (session : Nat)
  /-- BOOT_CHECK (R480): The loader checks the Glue-up record, the manifest, its signature and the part hashes, and continues at t3 or stays in LOADER. -/
  | bootCheck
  /-- FIRMWARE_START (R57): DRAM has been trained and the firmware parts have started; the restart mode is decided and the data areas are prepared. -/
  | firmwareStart
  /-- START_TASK_BEGIN (R162): Once the role is decided and the hold-up is charged, STARTC or STARTW runs as one DUAL cycle, or a HOT start resumes. -/
  | startTaskBegin
  /-- START_TASK_TIMEOUT (R163): A start task has not ended within 1 s; the start is abandoned, STATE is set to 3 and FS19 is raised. -/
  | startTaskTimeout
  /-- RESTART_CFG_WRITE (R61): A write of RESTART_CFG that selects HOT in AFTER_POWER starts the full MRAM copy of the program data areas. -/
  | restartCfgWrite (v : Word)
  /-- MRAM_COPY_COMPLETE (R212): The MRAM copy or rewrite of the program data areas ends, and MRAM_SYNC is set. -/
  | mramCopyComplete
  /-- LD (R84): Load a bit operand into BA. -/
  | ld (o : Opnd)
  /-- LDN (R84): Load the complement of a bit operand into BA. -/
  | ldn (o : Opnd)
  /-- AND (R84): AND a bit operand into BA. -/
  | and (o : Opnd)
  /-- ANDN (R84): AND the complement of a bit operand into BA. -/
  | andn (o : Opnd)
  /-- OR (R84): OR a bit operand into BA. -/
  | or (o : Opnd)
  /-- ORN (R84): OR the complement of a bit operand into BA. -/
  | orn (o : Opnd)
  /-- XOR (R84): XOR a bit operand into BA. -/
  | xor (o : Opnd)
  /-- XORN (R84): XOR the complement of a bit operand into BA. -/
  | xorn (o : Opnd)
  /-- AND_NEST (R85): AND( pushes (BA, 0, AND) onto the nest stack and loads the operand. -/
  | andNest (o : Opnd)
  /-- ANDN_NEST (R85): ANDN( pushes (BA, 1, AND) onto the nest stack and loads the operand. -/
  | andnNest (o : Opnd)
  /-- OR_NEST (R85): OR( pushes (BA, 0, OR) onto the nest stack and loads the operand. -/
  | orNest (o : Opnd)
  /-- ORN_NEST (R85): ORN( pushes (BA, 1, OR) onto the nest stack and loads the operand. -/
  | ornNest (o : Opnd)
  /-- XOR_NEST (R85): XOR( pushes (BA, 0, XOR) onto the nest stack and loads the operand. -/
  | xorNest (o : Opnd)
  /-- XORN_NEST (R85): XORN( pushes (BA, 1, XOR) onto the nest stack and loads the operand. -/
  | xornNest (o : Opnd)
  /-- CLOSE_BRACKET (R85): The close bracket pops the innermost entry and combines the saved BA with the, possibly negated, bracket result. -/
  | closeBracket (o : FnOpnd)
  /-- NOT (R89): Invert BA. -/
  | not (o : FnOpnd)
  /-- ONE (R89): Set BA to 1. -/
  | one (o : FnOpnd)
  /-- ZERO (R89): Set BA to 0. -/
  | zero (o : FnOpnd)
  /-- LDC (R90): Load a flag condition into BA. -/
  | ldc (o : FnOpnd)
  /-- ANDC (R90): AND a flag condition into BA. -/
  | andc (o : FnOpnd)
  /-- ORC (R90): OR a flag condition into BA. -/
  | orc (o : FnOpnd)
  /-- ST (R91): Store BA to a bit operand. -/
  | st (o : Opnd)
  /-- STN (R91): Store the complement of BA to a bit operand. -/
  | stn (o : Opnd)
  /-- SET (R92): Write 1 to a bit operand if BA = 1, and write nothing otherwise. -/
  | set (o : Opnd)
  /-- RST (R92): Write 0 to a bit operand if BA = 1, and write nothing otherwise. -/
  | rst (o : Opnd)
  /-- JMP (R93): Jump to an absolute instruction index. -/
  | jmp (area : BitVec 4) (t : BitVec 22)
  /-- JC (R93): Jump if BA = 1. -/
  | jc (area : BitVec 4) (t : BitVec 22)
  /-- JCN (R93): Jump if BA = 0. -/
  | jcn (area : BitVec 4) (t : BitVec 22)
  /-- LDA (R110): Load a word operand into WA. -/
  | lda (o : Opnd)
  /-- LDB (R110): Load a word operand into WB. -/
  | ldb (o : Opnd)
  /-- STA (R110): Store the low bytes of WA to a word operand. -/
  | sta (o : Opnd)
  /-- STAS (R112): Store WA saturated to the width of the operand. -/
  | stas (o : Opnd)
  /-- STB (R110): Store the low bytes of WB to a word operand. -/
  | stb (o : Opnd)
  /-- ADD (R111): Add an operand to WA with wrap. -/
  | add (o : Opnd)
  /-- ADDS (R111): Add an operand to WA with saturation. -/
  | adds (o : Opnd)
  /-- SUB (R111): Subtract an operand from WA with wrap. -/
  | sub (o : Opnd)
  /-- SUBS (R111): Subtract an operand from WA with saturation. -/
  | subs (o : Opnd)
  /-- MUL (R111): Multiply WA by an operand with wrap. -/
  | mul (o : Opnd)
  /-- MULS (R111): Multiply WA by an operand with saturation. -/
  | muls (o : Opnd)
  /-- DIV (R113): Divide WA by an operand with wrap, leaving the quotient in WA and the remainder in WB. -/
  | div (o : Opnd)
  /-- DIVS (R113): Divide WA by an operand with saturation, leaving the quotient in WA and the remainder in WB. -/
  | divs (o : Opnd)
  /-- CMP (R111): Compare WA with an operand and set ZF, NF and CF. -/
  | cmp (o : Opnd)
  /-- WAND (R110): Bitwise AND of an operand into WA. -/
  | wand (o : Opnd)
  /-- WOR (R110): Bitwise OR of an operand into WA. -/
  | wor (o : Opnd)
  /-- WXOR (R110): Bitwise XOR of an operand into WA. -/
  | wxor (o : Opnd)
  /-- SWAP (R114): Exchange WA and WB. -/
  | swap (o : ArgOpnd)
  /-- MAB (R114): Copy WA to WB. -/
  | mab (o : ArgOpnd)
  /-- MBA (R114): Copy WB to WA. -/
  | mba (o : ArgOpnd)
  /-- ADDB (R114): Add WB to WA with wrap. -/
  | addb (o : ArgOpnd)
  /-- ADDBS (R114): Add WB to WA with saturation. -/
  | addbs (o : ArgOpnd)
  /-- SUBB (R114): Subtract WB from WA with wrap. -/
  | subb (o : ArgOpnd)
  /-- SUBBS (R114): Subtract WB from WA with saturation. -/
  | subbs (o : ArgOpnd)
  /-- MULB (R114): Multiply WA by WB with wrap. -/
  | mulb (o : ArgOpnd)
  /-- MULBS (R114): Multiply WA by WB with saturation. -/
  | mulbs (o : ArgOpnd)
  /-- DIVB (R114): Divide WA by WB with wrap, leaving the remainder in WB. -/
  | divb (o : ArgOpnd)
  /-- DIVBS (R114): Divide WA by WB with saturation, leaving the remainder in WB. -/
  | divbs (o : ArgOpnd)
  /-- CMPB (R114): Compare WA with WB. -/
  | cmpb (o : ArgOpnd)
  /-- NEG (R114): Negate WA with wrap. -/
  | neg (o : ArgOpnd)
  /-- NEGS (R114): Negate WA with saturation. -/
  | negs (o : ArgOpnd)
  /-- ABS (R114): Absolute value of WA with wrap. -/
  | abs (o : ArgOpnd)
  /-- ABSS (R114): Absolute value of WA with saturation. -/
  | abss (o : ArgOpnd)
  /-- NOTW (R114): Bitwise complement of WA. -/
  | notw (o : ArgOpnd)
  /-- SHL (R114): Shift WA left by n bits. -/
  | shl (o : ArgOpnd)
  /-- SHR (R114): Shift WA right by n bits, logical. -/
  | shr (o : ArgOpnd)
  /-- SAR (R114): Shift WA right by n bits, arithmetic. -/
  | sar (o : ArgOpnd)
  /-- SEXT (R114): Sign-extend the low bits of WA. -/
  | sext (o : ArgOpnd)
  /-- ZEXT (R114): Zero-extend the low bits of WA. -/
  | zext (o : ArgOpnd)
  /-- SAT (R114): Clamp WA to a signed width. -/
  | sat (o : ArgOpnd)
  /-- USAT (R114): Clamp WA to an unsigned width. -/
  | usat (o : ArgOpnd)
  /-- I2Q (R115): Convert an integer in WA to Q8.24. -/
  | i2q (o : ArgOpnd)
  /-- Q2I (R115): Convert a Q8.24 value in WA to an integer, rounded. -/
  | q2i (o : ArgOpnd)
  /-- MULQ (R115): Form the rounded Q8.24 product of WA and WB. -/
  | mulq (o : ArgOpnd)
  /-- BTW (R114): Copy BA into WA as 0 or 1. -/
  | btw (o : ArgOpnd)
  /-- WTB (R114): Set BA to 1 if WA is non-zero, else to 0. -/
  | wtb (o : ArgOpnd)
  /-- CLRS (R114): Clear SOV. -/
  | clrs (o : ArgOpnd)
  /-- CLRF (R114): Clear all flags. -/
  | clrf (o : ArgOpnd)
  /-- MAX (R114): Load WA with the signed larger of WA and WB. -/
  | max (o : ArgOpnd)
  /-- MIN (R114): Load WA with the signed smaller of WA and WB. -/
  | min (o : ArgOpnd)
  /-- TON (R118): Evaluate an on-delay timer instance. -/
  | ton (area : BitVec 4) (opd : BitVec 22)
  /-- TOF (R118): Evaluate an off-delay timer instance. -/
  | tof (area : BitVec 4) (opd : BitVec 22)
  /-- TP (R118): Evaluate a pulse timer instance. -/
  | tp (area : BitVec 4) (opd : BitVec 22)
  /-- TRST (R119): Reset a timer instance if BA = 1. -/
  | trst (area : BitVec 4) (opd : BitVec 22)
  /-- CTU (R123): Count up on a rising BA. -/
  | ctu (area : BitVec 4) (opd : BitVec 22)
  /-- CTD (R123): Count down on a rising BA. -/
  | ctd (area : BitVec 4) (opd : BitVec 22)
  /-- CRS (R123): Reset the count to 0 if BA = 1. -/
  | crs (area : BitVec 4) (opd : BitVec 22)
  /-- CLD (R123): Load the count from WA if BA = 1. -/
  | cld (area : BitVec 4) (opd : BitVec 22)
  /-- RE (R124): Rising-edge detector on BA, using its own memory bit. -/
  | re (o : Opnd)
  /-- FE (R124): Falling-edge detector on BA, using its own memory bit. -/
  | fe (o : Opnd)
  /-- CALL (R127): Push the return index and DSEL, then jump to the target. -/
  | call (area : BitVec 4) (t : BitVec 22)
  /-- CALLD (R127): Call with DSEL set to the named block. -/
  | calld (area : BitVec 4) (t : BitVec 22) (w2 : Word)
  /-- RET (R127): Pop the return index and DSEL. -/
  | ret (o : ArgOpnd)
  /-- RETC (R127): Return if BA = 1. -/
  | retc (o : ArgOpnd)
  /-- END (R130): End the task cycle; the window is compared and committed and the output update point follows. -/
  | endCycle (o : ArgOpnd) (rep : PassReport)
  /-- ENDC (R130): End the task cycle if BA = 1. -/
  | endc (o : ArgOpnd) (rep : PassReport)
  /-- ENDCN (R130): End the task cycle if BA = 0. -/
  | endcn (o : ArgOpnd) (rep : PassReport)
  /-- PSYNC (R132): Force a compare point, activate the staged protection rules and wait for the earlier rule epochs to drain. -/
  | psync (o : ArgOpnd) (rep : PassReport)
  /-- TRIG (R131): Trigger an event task when the window commits. -/
  | trig (o : ArgOpnd)
  /-- TRIGC (R131): Trigger an event task if BA = 1. -/
  | trigc (o : ArgOpnd)
  /-- OPN (R128): Set DSEL to a block number. -/
  | opn (o : ArgOpnd)
  /-- OPNW (R128): Set DSEL from WA. -/
  | opnw (o : ArgOpnd)
  /-- NOP (R129): No effect. -/
  | nop (o : ArgOpnd)
  /-- LPRD (R134): Read a field of the published copy of a loop context into WA, swapping the loop in if needed. -/
  | lprd (area : BitVec 4) (opd : BitVec 22)
  /-- LPWR (R134): Write WA to a loop field; the write reaches the engine when the window commits. -/
  | lpwr (area : BitVec 4) (opd : BitVec 22)
  /-- RPOST (R136): Reserve a ring slot and post a 32-byte descriptor to it when the window commits. -/
  | rpost (o : Opnd)
  /-- WINDOW_COMPARE (R180): The passes of a compare window have completed; their outcomes are compared and the window is committed or discarded. -/
  | windowCompare (rep : PassReport)
  /-- LP_CHECKER_ERROR (R186): The LP checker finds an uncorrectable error; the window ends as a task fault and FS11 is raised. -/
  | lpCheckerError (found : CheckerReport)
  /-- XMODE_MODE_WRITE (R187): A write of MODE in XMODE is accepted for the next release or refused, which sets REFUSED and raises FS13. -/
  | xmodeModeWrite (task : Nat) (v : Word)
  /-- MM_CLR (R187): Writing 1 to MM_CLR clears MM_CNT of the task. -/
  | mmClr (task : Nat)
  /-- CAP_CLR (R185): Writing 1 to CLR of CAP_CTRL clears the fault capture and re-arms it. -/
  | capClr
  /-- CLR_PERSIST (R188): Writing 1 to CLR_PERSIST clears PERSIST and PERSIST_TASK. -/
  | clrPersist
  /-- TICK (R141): A 50 µs grid tick begins; cyclic tasks are released, the ring cycle and the forwarding work of the tick begin. -/
  | tick
  /-- TASK_START (R142): A ready task starts its cycle when the LP and its domains are free; the input update point latches its segments and TT. -/
  | taskStart
  /-- TASK_PREEMPT (R144): A task of higher priority preempts the running task at its next compare-window boundary. -/
  | taskPreempt
  /-- WATCHDOG_EXPIRY (R147): A task's watchdog limit expires; the cycle is aborted, LAST_CAUSE is set to 1, FS17 is raised and FAULT_ACT applies. -/
  | watchdogExpiry (task : Nat)
  /-- EVENT_TRIGGER (R152): A trigger source selected by TTRIG fires; the event task is released, made ready again or merged, or the event is dropped. -/
  | eventTrigger (src : Nat) (a : Nat)
  /-- EVENT_TIMER_EXPIRY (R154): An armed event timer falls due at tick a + D, releases its task and disarms. -/
  | eventTimerExpiry (task : Nat)
  /-- TIMER_ARM (R154): A write to TIMER_ARM arms, or rearms, the timer of the named event task. -/
  | timerArm (task : Nat)
  /-- TASK_SETTING_WRITE (R167): A write to TCFG, TPER, TTRIG or TWDOG applies at the next release or is refused, which sets CFG_ERR and raises FS19. -/
  | taskSettingWrite (idx : Nat) (v : Word)
  /-- STAT_SEL_WRITE (R169): A write to STAT_SEL selects a task and restarts its SEL_MAX_NS and SEL_DELAY_NS. -/
  | statSelWrite (v : Word)
  /-- CLR_MAX (R150): Writing 1 to CLR_MAX sets FAST_MAX_NS to 0. -/
  | clrMax
  /-- OVR_CLEAR (R169): Writing 1 to OVR clears it and OVR_CNT. -/
  | ovrClear (task : Nat)
  /-- LOAD (R197): Fjoly starts an online change and writes the new image into the inactive code area. -/
  | load (img : Image)
  /-- OC_TRANSFER_END (R213): The image transfer ends and CHECKING runs the rejection checks of Table 7-4. -/
  | ocTransferEnd
  /-- OC_CHECKS_COMPLETE (R198): The checks have passed and the inactive bank is filled; the change enters PREPARED. -/
  | ocChecksComplete
  /-- ARM (R200): Fjoly arms a prepared change, or the command is refused with RESULT 9 while ALLOW is 0. -/
  | arm
  /-- ABORT (R197): Abort a change before SWITCHING and return to IDLE. -/
  | abort
  /-- REVERT (R197): Start CHECKING again with the previous version held in the inactive area. -/
  | revert
  /-- RESUME (R197): Continue an abandoned change from CHECKING without a new transfer. -/
  | resume
  /-- OC_SWITCH_POINT (R200): While ARMED, every condition of a switch point holds, and the switch of Table 7-3 begins. -/
  | ocSwitchPoint
  /-- OC_SWITCH_COMPLETE (R201): The code area and bank are exchanged, AREA toggles, the FIRST bits are set and the held triggers are released. -/
  | ocSwitchComplete (ns : Nat)
  /-- OC_WAIT_TIMEOUT (R200): No switch point was found within WAIT_S; the change returns to PREPARED with RESULT 10. -/
  | ocWaitTimeout
  /-- OC_TRIAL_END (R214): TRIAL_S has elapsed without a failure; the active switches at its next switch point. -/
  | ocTrialEnd
  /-- LOOP_EVALUATION (R228): The engine takes the next queued request, swapping the context in if needed, and evaluates the law in both forms. -/
  | loopEvaluation
  /-- LOOP_EVAL_COMPLETE (R234): The two runs are compared; the result is staged, repeated after a mismatch, or a loop fault is declared. -/
  | loopEvalComplete (rep : LoopReport)
  /-- CLR_LAST (R248): Writing 1 to CLR_LAST of LE_CTRL sets LE_LAST to 0. -/
  | clrLast
  /-- CLR_STATS (R248): Writing 1 to CLR_STATS of LE_CTRL clears the engine totals and the loop statistics. -/
  | clrStats
  /-- ALV_OUT_TOGGLE (R250): Every 100 µs the AON domain toggles ALV_OUT while the module is live. -/
  | alvOutToggle
  /-- LIVENESS_LAPSE (R250): The pair firmware has not confirmed its liveness for 500 µs; ALV_OUT stops and ROLE_OUT is released. -/
  | livenessLapse
  /-- ALV_EDGE (R251): A stable edge on ALV_IN is seen, so ALV_OK holds. -/
  | alvEdge
  /-- ALV_DEAD (R251): 1 ms has passed without an edge on ALV_IN; a dead ALV while HB_OK holds sets ALV_FAULT and raises FS29. -/
  | alvDead
  /-- SEATED_CHANGE (R251): PAIR_PRES has held a new level for 1 ms, so SEATED begins or ends. -/
  | seatedChange (seated : Bool)
  /-- CLAIM_CHANGE (R251): ROLE_IN has held a new level for 1 ms, so CLAIM begins or ends. -/
  | claimChange (claim : Bool)
  /-- HB_SEND (R255): A module sends a heartbeat at each tick start and every 10 µs after it. -/
  | hbSend
  /-- HB (R251): A valid heartbeat is received and counts towards HB_OK; one while not SEATED sets PRES_FAULT. -/
  | hb (d : HbData)
  /-- HB_LOST (R251): No valid heartbeat for 25 µs. -/
  | hbLost
  /-- DOVETAIL_LINK_UP (R253): Training completes and the Dovetail lane reaches block lock. -/
  | dovetailLinkUp
  /-- DOVETAIL_LINK_DOWN (R253): Block lock has been lost for 1 µs, so the link is down and in fault. -/
  | dovetailLinkDown
  /-- DOVETAIL_FRAME_DROP (R254): A received frame fails its CRC, LEN or TYPE check; it is dropped, DT_ERR is increased and a NAK is sent. -/
  | dovetailFrameDrop (seq : Nat)
  /-- NAK (R256): The sender replays its frames from the named SEQ, or declares a link fault. -/
  | nak (f : NakFrame)
  /-- TICK_RECORD (R259): The standby aligns its tick grid and TT offset to a forwarded TICK. -/
  | tickRecord (h : DtHdr) (k : Nat) (tt : Nat)
  /-- RELEASE_RECORD (R258): The standby releases the named task from a forwarded RELEASE. -/
  | releaseRecord (h : DtHdr) (task : Nat) (cycle : Nat) (cause : Nat)
  /-- INPUT_RECORD (R258): The standby takes the cycle's input bytes and TT, which let the waiting cycle start. -/
  | inputRecord (h : DtHdr) (task : Nat) (cycle : Nat) (tt : Nat) (cells : List (Nat × Byte))
  /-- SERVICE_RECORD (R258): The standby receives the pass-A results of S reads, LPRD and RPOST of a window, which a waiting pass uses. -/
  | serviceRecord (h : DtHdr) (task : Nat) (window : Nat) (vals : List Nat)
  /-- PREEMPT_RECORD (R258): The standby preempts the named task at the named window count. -/
  | preemptRecord (h : DtHdr) (task : Nat) (count : Nat) (byTask : Nat)
  /-- HASH_RECORD (R260): The standby receives the active's output hash of a cycle and compares it once its own is present. -/
  | hashRecord (h : DtHdr) (task : Nat) (cycle : Nat) (endIdx : Nat) (hash : BitVec 64)
  /-- EXTWRITE_RECORD (R258): The standby applies writes from outside the program at the point that the record names. -/
  | extwriteRecord (h : DtHdr) (cells : List (Loc × Byte)) (point : ExtPoint)
  /-- MREC (R319): The active's host writes the partner Mortise words from the standby's MREC. -/
  | mrec (h : DtHdr) (frame : List Word)
  /-- CTRL_HANDOVER (R274): A CTRL frame names handover tick h; the standby takes the role at the start of tick h. -/
  | ctrlHandover (h : DtHdr) (tick : Nat)
  /-- CTRL_SYNC_DROPPED (R262): The standby reports a loss of synchronisation; the active stops forwarding and raises FS27. -/
  | ctrlSyncDropped (h : DtHdr) (cause : Nat)
  /-- CTRL_DETACH (R282): A CTRL detach command takes the standby out of the pair. -/
  | ctrlDetach (h : DtHdr)
  /-- CTRL_RESYNC (R282): A CTRL resynchronise command starts the resynchronisation phases from HELLO. -/
  | ctrlResync (h : DtHdr)
  /-- CTRL_TRIAL_RESULT (R214): A CTRL frame carries the result of an online-change trial to the active. -/
  | ctrlTrialResult (h : DtHdr) (result : TrialReport)
  /-- DEPART (R274): A received DEPART makes the standby take over within 25 µs, or makes the active stop forwarding. -/
  | depart (h : DtHdr) (cause : Nat)
  /-- BULK (R264): A bulk frame brings resynchronisation data, an online-change image or cloned firmware data. -/
  | bulk (h : DtHdr) (d : BulkData)
  /-- MARK (R280): The standby takes the scheduler state, tick and TT from MARK and starts shadowing from it. -/
  | mark (h : DtHdr) (d : MarkData)
  /-- LAG_TIMEOUT (R261): The standby has not ended a cycle 500 µs after its HASH arrived; synchronisation drops with cause LAG. -/
  | lagTimeout (task : Nat) (cycle : Nat)
  /-- ROLE_DECISION_START (R265): At t4 the module begins the start decision of Table 9-6 and checks for an active partner, a claim or a witness. -/
  | roleDecisionStart
  /-- START_RECORD_EXCHANGE (R265): At t4 + 200 ms with the link up, the modules rank their start records and the higher-ranked wins. -/
  | startRecordExchange (mode : Nat) (epoch : Nat)
  /-- ROLE_CLAIM_INSTANT (R265): With the link down, a slot checks ROLE_IN at its instant and pulls ROLE_OUT low if unclaimed. -/
  | roleClaimInstant (roleInLow : Bool) (witness : Bool)
  /-- ROLE_CLAIM_CHECK (R265): 1 ms after claiming, the slot checks ROLE_IN and the witness again and wins, or resolves the conflict. -/
  | roleClaimCheck (roleInLow : Bool) (witness : Bool)
  /-- WITNESS_WINDOW_CLOSE (R269): At tick k + 20 µs the standby judges whether the witness of tick k was present. -/
  | witnessWindowClose
  /-- TAKEOVER_VERDICT (R273): 1 ms after a takeover the ALV verdict sets VERDICT, and a dead partner leads to SOLO. -/
  | takeoverVerdict (alvDead : Bool)
  /-- HANDOVER (R274): Writing 1 to HANDOVER of PAIR_CTRL requests a planned handover, which is refused unless the partner is STANDBY-SYNC. -/
  | handover
  /-- DETACH (R282): Writing 1 to DETACH of PAIR_CTRL detaches the standby. -/
  | detach
  /-- RESYNC (R282): Writing 1 to RESYNC of PAIR_CTRL clears DETACHED and starts resynchronisation. -/
  | resync
  /-- PAIR_CLR_STATS (R287): Writing 1 to CLR_STATS of PAIR_CTRL clears the pair statistics. -/
  | pairClrStats
  /-- RINGDOWN_TIMEOUT (R274): Both ring ports of the active have been without link for 1 ms with RINGDOWN_HO = 1; it hands over. -/
  | ringdownTimeout
  /-- FENCE (R276): A frame with a higher epoch, or an equal-epoch witness from slot 1 seen in slot 2, makes the module FENCED. -/
  | fence (epoch : Nat)
  /-- FENCE_TIMEOUT (R276): After 1 ms in FENCED the module enters STANDBY-UNSYNC. -/
  | fenceTimeout
  /-- EPOCH_RESET (R278): Fjoly resets the epochs with the pair and every station stopped. -/
  | epochReset
  /-- ORPHAN_TIMEOUT (R281): The partner is gone, or HB_LOST, ALV_DEAD and a missing witness have held for 1 ms; the module is orphaned. -/
  | orphanTimeout
  /-- RESYNC_PHASE_COMPLETE (R280): A resynchronisation phase ends and the next begins; the end of TRACK makes the module STANDBY-SYNC. -/
  | resyncPhaseComplete
  /-- RESYNC_PHASE_FAIL (R280): A phase fails or exceeds its bound; FAILS is increased and FS31 is raised. -/
  | resyncPhaseFail
  /-- RESYNC_RETRY (R280): 10 s after a failed phase, resynchronisation restarts from HELLO. -/
  | resyncRetry
  /-- RESYNC_CUTOVER_POINT (R280): The active finds a cutover point and sends MARK and the lines still marked. -/
  | resyncCutoverPoint
  /-- MP_PULSE_EDGE (R290): A meter pulse edge is counted and time-stamped by hardware, or rejected below 8 µs. -/
  | mpPulseEdge (input : Nat) (tNs : Nat) (highNs : Nat) (lowNs : Nat)
  /-- MORTISE_CYCLE_END (R296): Every 100 ms the Mortise books the cycle's pulses, updates the totalisers, writes FRAM and sends a mailbox frame. -/
  | mortiseCycleEnd (m : CycleMeas)
  /-- MAILBOX_FRAME (R307): The host checks a mailbox frame and writes its words into the mailbox at one instant, or drops it and raises FS33. -/
  | mailboxFrame (crcOk : Bool)
  /-- MAILBOX_LINK_TIMEOUT (R307): No valid mailbox frame has arrived for 250 ms; LINK_OK clears and FS32 is raised. -/
  | mailboxLinkTimeout
  /-- MORTISE_RECORD (R310): The host inserts a Mortise record into the record ring, sets REC_HEAD and writes the recorder. -/
  | mortiseRecord
  /-- MORTISE_HART_POLL (R294): Once per second the Mortise polls each transmitter for its primary variable. -/
  | mortiseHartPoll (replies : List (Option (Word × Nat)))
  /-- PROVER_DETECTOR_EDGE (R299): An active prover detector edge begins or ends a proving pass; the pass is interpolated and proving may complete. -/
  | proverDetectorEdge (det : Nat) (tNs : Nat)
  /-- DET_TIMEOUT (R301): No detector edge within DET_TIMEOUT; proving is aborted with reason 3. -/
  | detTimeout
  /-- SEAL_OPEN (R302): The seal switch opens; the seal counter is increased and MSTATE becomes 3. -/
  | sealOpen
  /-- SEAL_CLOSE (R305): The seal switch closes and an unactivated staged parameter set is discarded. -/
  | sealClose
  /-- STAGE_PARAMETERS (R305): A sealed-path frame stages a parameter set while the seal is open. -/
  | stageParameters (p : MrtParams)
  /-- ACTIVATE_PARAMETERS (R305): An activation writes the audit entries and puts the staged set in force at the next cycle. -/
  | activateParameters
  /-- SEALED_READ (R305): A sealed-path read of parameters, the audit trail or tickets. -/
  | sealedRead (what : Nat) (first : Nat)
  /-- AUDIT_ARCHIVE (R304): Fjoly confirms an archive up to an entry number, which frees audit entries. -/
  | auditArchive (upTo : Nat)
  /-- START_PROVE (R300): Request code 1 starts proving a run with Np passes. -/
  | startProve
  /-- ABORT_PROVE (R301): Request code 2 aborts proving. -/
  | abortProve
  /-- ACCEPT_MF (R311): Request code 3 puts the proposed meter factor in force with one audit entry. -/
  | acceptMf
  /-- ISSUE_TICKET (R311): Request code 4 closes the run's batch, sends a ticket record and opens the next batch. -/
  | issueTicket
  /-- REQUEST_TIMEOUT (R311): No answer within 300 ms; STATE becomes 5 and the request is void. -/
  | requestTimeout
  /-- TIME_OFFER (R313): Every 100 ms with the time base synchronised, the host offers TAI time; the Mortise slews, steps, or sets TIME_DEV. -/
  | timeOffer
  /-- LEGAL_DISPLAY_OFFER (R314): The Mortise offers new legal-area content once per second, or within 100 ms of a seal event. -/
  | legalDisplayOffer
  /-- MORTISE_SUPPLY_WARNING (R316): The Mortise books the partial cycle, writes FRAM and records the time before losing its supply. -/
  | mortiseSupplyWarning
  /-- MORTISE_START (R317): The Mortise's supply returns; it checks its firmware and FRAM, offers the display and reaches MSTATE 2. -/
  | mortiseStart (found : MrtFound)
  /-- MRT_ANSWER (R481): The Mortise accepts or refuses the offered part; a refusal fails the set or sets MRT_MISMATCH. -/
  | mrtAnswer (accept : Bool)
  /-- MRT_INSTALL_COMPLETE (R318): The Mortise has installed its new firmware into the spare bank and restarts into it. -/
  | mrtInstallComplete
  /-- PARTNER_MREC_TIMEOUT (R319): No MREC for 500 ms; PTN_VALID clears. -/
  | partnerMrecTimeout
  /-- ISOLATION_FRAME (R325): A valid isolation-link frame updates the field image, including edge reports and the rotation slot. -/
  | isolationFrame
  /-- ISOLATION_FRAME_MISSED (R347): A frame is missed; after three in a row the link is lost and FS36 is raised. -/
  | isolationFrameMissed
  /-- FIELD_HOLD_EXPIRY (R348): The field side has had no valid frame for HOLD_US and applies the fail values. -/
  | fieldHoldExpiry
  /-- HOST_HOLD_EXPIRY (R348): The host-side link loss reaches HOLD_US; FAILSAFE is set and FS37 is raised. -/
  | hostHoldExpiry
  /-- DI_FILTERED_CHANGE (R330): The filtered input changes; chatter is counted, the edge is captured and counting may overrun. -/
  | diFilteredChange (ch : Nat) (level : Bool) (tNs : Nat)
  /-- DI_DEBOUNCE_COMPLETE (R329): The filtered input has held its level for DEB_US and the debounced value changes. -/
  | diDebounceComplete (ch : Nat)
  /-- DI_WIRE_BREAK (R328): The input current has been below the wire-break threshold for 10 ms, or above it again for 10 ms. -/
  | diWireBreak (ch : Nat) (broken : Bool)
  /-- DI_STUCK_TIMEOUT (R331): The debounced value has been 1 for the stuck timeout; STUCK is set and FS38 is raised. -/
  | diStuckTimeout (ch : Nat)
  /-- CNT_CLR (R334): Writing 1 to CLR of CNT_STAT sets the count to 0 at the field side. -/
  | cntClr (ch : Nat)
  /-- OVERRUN_CLEAR (R334): Writing 1 to OVERRUN clears it and lets CNT_VALID return. -/
  | overrunClear (ch : Nat)
  /-- DO_SHORT_OFF (R336): An output in current limit beyond its time switches off; SHORT is set and FS40 is raised. -/
  | doShortOff (ch : Nat)
  /-- DO_THERMAL_OFF (R336): An overheated output switches off; THERM is set and FS40 is raised. -/
  | doThermalOff (ch : Nat)
  /-- DO_FAULT_CLEAR (R336): Writing 1 to SHORT or THERM lets the output follow its command again. -/
  | doFaultClear (ch : Nat)
  /-- DO_OPEN_LOAD (R337): An on output carries less than the open-load threshold for 10 ms; OPEN is set and FS40 is raised. -/
  | doOpenLoad (ch : Nat) (holds : Bool)
  /-- DO_READBACK_MISMATCH (R337): DO_RB differs from the command for 1 ms; MISMATCH is set and FS40 is raised. -/
  | doReadbackMismatch (ch : Nat) (holds : Bool)
  /-- FLD_OUT_OF_RANGE (R350): FLD has been outside 19.2–30.0 V for 10 ms; FLD_OK clears and FS43 is raised. -/
  | fldOutOfRange (fld : FldReport)
  /-- UC_SETTLE_COMPLETE (R339): A universal channel ends SETTLING and its new mode applies. -/
  | ucSettleComplete (ch : Nat)
  /-- UC_CONVERSION (R340): A conversion completes, with range, NE 43 and compliance classification. -/
  | ucConversion (ch : Nat) (val : Int) (reached : Bool) (short : Bool)
  /-- UC_OPEN_SENSOR_TEST (R341): Once per second the field side tests an RTD or thermocouple sensor for an open circuit. -/
  | ucOpenSensorTest (ch : Nat) (isOpen : Bool)
  /-- COLD_JUNCTION_FAIL (R341): The cold-junction sensor fails; CJ_FAIL is set in mode-13 channels and FS42 is raised. -/
  | coldJunctionFail (reading : Option Int)
  /-- LIO_SETTING_WRITE (R352): A write of a field I/O setting is accepted and sent to the field side, or refused, which sets CFG_ERR and raises FS43. -/
  | lioSettingWrite (idx : Nat) (v : Word)
  /-- HART_TRANSACTION (R345): A HART descriptor is taken and its command is framed and sent on the channel. -/
  | hartTransaction (ch : Nat)
  /-- HART_REPLY (R345): A HART reply arrives and the descriptor result is written; a burst frame is discarded. -/
  | hartReply (ch : Nat) (burst : Bool) (bytes : List Byte)
  /-- HART_REPLY_TIMEOUT (R345): No reply within 305 ms; the command is repeated or the transaction ends TIMEOUT. -/
  | hartReplyTimeout (ch : Nat)
  /-- RING_FRAME_FORWARD (R354): A valid ring frame is passed cut-through to the other port with HOPS decremented, or removed. -/
  | ringFrameForward (portB : Bool) (h : RingHdr)
  /-- WITNESS (R267): A received witness frame counts for the witness window and may fence the module. -/
  | witness (portB : Bool) (h : RingHdr) (b : WitnessBody)
  /-- INPUT (R363): A station's INPUT frame is kept if newest, flagged late or returning, and ONE_DIR is judged. -/
  | input (portB : Bool) (h : RingHdr) (b : InputBody)
  /-- EVENT (R366): A station's EVENT frame is a ring event. -/
  | event (portB : Bool) (h : RingHdr) (code : Nat)
  /-- HELLO (R356): A station's HELLO is checked by Table 12-4 and admitted with ADMIT or placed in the reserve table. -/
  | hello (portB : Bool) (h : RingHdr) (b : HelloBody)
  /-- ACYC_RSP (R367): A station's reply ends an acyclic transaction and its result is written. -/
  | acycRsp (portB : Bool) (h : RingHdr) (tx : Nat) (result : Nat) (bytes : List Byte)
  /-- DISCOVER_SEND (R356): Every 100 ms a SOLO or ACTIVE module sends DISCOVER and rechecks the reserve table. -/
  | discoverSend
  /-- RING_PORT_LINK_CHANGE (R365): A ring port's link goes up or down, which may open or close the ring. -/
  | ringPortLinkChange (portB : Bool) (rate : Nat)
  /-- ACYC_TRANSACTION_START (R367): A ring-transaction descriptor finds capacity and its ACYC_REQ is sent. -/
  | acycTransactionStart (ring : Nat)
  /-- ACYC_TIMEOUT (R367): No reply within ACYC_TMO; the request is resent, or the transaction ends TIMEOUT with FS53. -/
  | acycTimeout (tx : Nat)
  /-- RING_SETTING_WRITE (R384): A write to RING_CFG, STN_CFG or the plant and PTP settings is scheduled by R382, or refused with FS53. -/
  | ringSettingWrite (idx : Nat) (v : Word)
  /-- SESSION_HANDSHAKE (R371): A client handshake opens a session, or is refused with BUSY or failed with FS54. -/
  | sessionHandshake (rights : Rights) (valid : Bool) (port2 : Bool)
  /-- PLANT_DATAGRAM (R373): An authenticated session datagram is acted on; its writes are queued for the next application point. -/
  | plantDatagram (session : Nat) (seq : DatagramSeq) (authOk : Bool) (ops : List PlantOp)
  /-- SESSION_CLOSE (R371): A CLOSE message closes the session. -/
  | sessionClose (session : Nat)
  /-- SESSION_IDLE_TIMEOUT (R371): 30 s without a valid datagram closes the session. -/
  | sessionIdleTimeout (session : Nat)
  /-- PAIR_ADDRESS_ANNOUNCE (R370): On entering SOLO or ACTIVE, the module sends a gratuitous ARP and a neighbour advertisement, repeated twice at 100 ms. -/
  | pairAddressAnnounce
  /-- PTP_SYNC (R376): A Sync message updates the offset and the servo; the first after reset steps the time base. -/
  | ptpSync (offset : Int) (delay : Int) (port2 : Bool)
  /-- PTP_ANNOUNCE (R378): An Announce message is fed to the best master clock algorithm. -/
  | ptpAnnounce (port2 : Bool) (g : GmData)
  /-- ANNOUNCE_TIMEOUT (R377): No master on either plant port for the announce receipt timeout; the time base enters HOLDOVER. -/
  | announceTimeout (port2 : Bool)
  /-- PTP_TRANSIT (R379): A PTP event message passing between the ring ports has its residence time added to correctionField. -/
  | ptpTransit (toB : Bool) (residNs : Nat)
  /-- CAN_CHANNEL_ENABLE (R392): Writing EN = 1 starts domain 11 and the channel integrates for 11 recessive bits. -/
  | canChannelEnable (ch : Nat)
  /-- CAN_CHANNEL_DISABLE (R392): Writing EN = 0 clears pending requests and leaves the bus at the next frame boundary. -/
  | canChannelDisable (ch : Nat)
  /-- CAN_INTEGRATION_COMPLETE (R392): 11 recessive bits have passed and the channel takes part in normal or listen-only mode. -/
  | canIntegrationComplete (ch : Nat)
  /-- CAN_FRAME_RECEIVE (R396): A received frame is stored in the lowest matching buffer or the receive ring, or discarded. -/
  | canFrameReceive (ch : Nat) (f : CanFrame)
  /-- CAN_FRAME_SENT (R399): A pending frame has been sent without error; PEND clears and SEQ advances. -/
  | canFrameSent (ch : Nat)
  /-- CAN_BUS_ERROR (R401): A bus error updates TEC and REC, which may enter error-passive or bus-off. -/
  | canBusError (ch : Nat) (code : Nat) (data : Bool) (tx : Bool) (dominantAfterFlag : Bool)
  /-- CAN_RECOVERY_START (R402): BOFF_HOLD has passed with AUTO_REC or REC_REQ set, and bus-off recovery begins. -/
  | canRecoveryStart (ch : Nat)
  /-- CAN_RECOVERY_COMPLETE (R402): 128 occurrences of 11 recessive bits end the recovery. -/
  | canRecoveryComplete (ch : Nat)
  /-- ACK (R398): A BUF_CMD ACK clears NEW and LOST if its SEQ matches. -/
  | ack (ch : Nat) (win : Nat) (seq : Nat)
  /-- TX (R399): A BUF_CMD TX requests transmission of the buffer, or is refused. -/
  | tx (ch : Nat) (win : Nat)
  /-- ABORT_REQUEST (R399): A BUF_CMD ABORT clears PEND and sets ABORTED, unless arbitration was already won. -/
  | abortRequest (ch : Nat) (win : Nat)
  /-- ABORT_ALL (R405): CH_CTRL ABORT_ALL aborts every pending request of the channel. -/
  | abortAll (ch : Nat)
  /-- REC_REQ (R402): CH_CTRL REC_REQ requests bus-off recovery. -/
  | recReq (ch : Nat)
  /-- WIN_SEL_WRITE (R395): A write of WIN_SEL makes a buffer window show another buffer. -/
  | winSelWrite (ch : Nat) (win : Nat) (v : Word)
  /-- CAN_SETTING_WRITE (R405): A write of a CAN setting or buffer configuration is accepted or refused with CFG_ERR and FS57. -/
  | canSettingWrite (idx : Nat) (v : Word)
  /-- REGION_RENDER (R408): A change of a region's source is rendered into TGT within 1 ms, or staged during an update. -/
  | regionRender (region : Nat)
  /-- VENEER_UPDATE_START (R411): Every start condition holds; the update fixes its row mask, latches the band and writes the state record. -/
  | veneerUpdateStart
  /-- PHASE_PAIR_COMPLETE (R413): A phase pair ends; the next begins, or the update completes, or it is ended by temperature. -/
  | phasePairComplete
  /-- PANEL_TEMP_SAMPLE (R416): Every 100 ms the panel temperature is measured; the cold message and COLD are updated. -/
  | panelTempSample (t : Option Int)
  /-- FRAMEBUFFER_CHECK (R417): The CRC of both buffers is recomputed; a mismatch sets CRC_ERR, raises FS58 and forces a full refresh. -/
  | framebufferCheck (crcCur : Word) (crcTgt : Word)
  /-- FULL_REFRESH_TIMER (R418): Every FULL_EVERY hours all rows enter the rewrite mask. -/
  | fullRefreshTimer
  /-- REFRESH (R425): Writing 1 to REFRESH of VN_CTRL puts all rows into the rewrite mask. -/
  | refresh
  /-- VENEER_START (R422): The Veneer reads its state record at t3, or at t1 in LOADER, and restores CUR or begins a full clearing refresh. -/
  | veneerStart
  /-- LEGAL_OFFER_TIMEOUT (R422): No Mortise offer within 2 s of the Veneer start, so the rows 0–209 update runs first. -/
  | legalOfferTimeout
  /-- VENEER_UPDATE_OVERTIME (R424): An update has not ended 1 s after its computed duration; it is ended and FS59 is raised. -/
  | veneerUpdateOvertime
  /-- VENEER_DRIVE_FAULT (R424): A drive supply is out of range; no update starts and FS59 is raised. -/
  | veneerDriveFault
  /-- PROTECTION_RULE_WRITE (R437): A write to a staged rule word is accepted or refused with CFG_ERR and FS47. -/
  | protectionRuleWrite (idx : Nat) (v : Word)
  /-- PR_MSEL_WRITE (R435): A write of PR_MSEL selects the master whose rules the window shows. -/
  | prMselWrite (v : Word)
  /-- FIRST_VIOL_CLEAR (R432): Writing 1 to FIRST_VIOL clears the denial capture and re-arms it. -/
  | firstViolClear
  /-- PSYNC_DRAIN_COMPLETE (R433): Every access of an earlier rule epoch has completed, and the waiting task continues. -/
  | psyncDrainComplete (task : Nat)
  /-- FAULT_FIRE (R438): A fault source fires; pending bit, count, FC_LAST and a record are set and its reaction is applied, stacked or queued. -/
  | faultFire (n : Nat) (agent : Nat) (d1 : Nat) (d2 : Nat)
  /-- FAULT_HANDLING_END (R445): A handling leaves the stack and the oldest queued firing is applied. -/
  | faultHandlingEnd (cls : Nat)
  /-- BLOCK_RESET_COMPLETE (R442): A block reset ends, which ends its BLOCK_RESET handling. -/
  | blockResetComplete
  /-- TICK_CONFIRM_LAPSE (R444): The scheduler has not confirmed its tick grid to AON for 1 ms, so ALV_EXT stops. -/
  | tickConfirmLapse
  /-- FC_CFG_WRITE (R441): A write of FAULT_TASK and TRAP_TASK is accepted or refused with CFG_ERR. -/
  | fcCfgWrite (v : Word)
  /-- FC_REACT_WRITE (R439): A write of a reaction nibble is accepted or refused for codes 6–7 or a refused block reset. -/
  | fcReactWrite (idx : Nat) (v : Word)
  /-- CLR_FIRST (R460): FC_CTRL CLR_FIRST clears FC_FIRST. -/
  | clrFirst
  /-- CLR_QOVF (R460): FC_CTRL CLR_QOVF clears FC_QOVF. -/
  | clrQovf
  /-- CLR_CNT (R460): FC_CTRL CLR_CNT sets every FC_CNT to 0. -/
  | clrCnt
  /-- FC_JIG (R450): A write of FC_JIG arms the Jig on a checker for COUNT checks, or is refused. -/
  | fcJig (v : Word)
  /-- RECORDER_FLUSH (R452): Every unflushed record is copied in SEQ order into the MRAM history. -/
  | recorderFlush
  /-- RECORDER_FLUSH_TIMER (R452): Every 10 s a flush takes place. -/
  | recorderFlushTimer
  /-- RATE_INTERVAL_END (R454): At each whole second of TT the rate counts end and suppression records are written. -/
  | rateIntervalEnd
  /-- FREEZE (R455): REC_CTRL FREEZE stops flushes into the history. -/
  | freeze
  /-- UNFREEZE (R455): REC_CTRL UNFREEZE ends a freeze. -/
  | unfreeze
  /-- FLUSH (R455): REC_CTRL FLUSH requests a flush. -/
  | flush
  /-- FREEZE_EXPIRY (R455): FREEZE_S seconds after it began, the freeze ends. -/
  | freezeExpiry
  /-- USER_RECORD (R456): A write of REC_UCODE makes a user record, or is refused below 0x8000. -/
  | userRecord (writer : Writer) (v : Word)
  /-- DESCRIPTOR_TAKE (R463): The system cores take the next descriptor of a posted ring and advance CI. -/
  | descriptorTake (ring : Nat)
  /-- RING_CI_WRITE (R464): A write of CI to a delivered ring frees slots, or is refused with CFG_ERR. -/
  | ringCiWrite (ring : Nat) (v : Word)
  /-- CRC_IN8 (R471): Feed bits [7:0] into a CRC context when the window commits. -/
  | crcIn8 (ctx : Nat) (v : Word)
  /-- CRC_IN16 (R471): Feed bits [15:0] into a CRC context when the window commits. -/
  | crcIn16 (ctx : Nat) (v : Word)
  /-- CRC_IN32 (R471): Feed bits [31:0] into a CRC context when the window commits. -/
  | crcIn32 (ctx : Nat) (v : Word)
  /-- CRC_FEED_PROCESS (R471): The shared datapath takes the next queued feed or context write. -/
  | crcFeedProcess
  /-- CRC_VALUE_READ (R472): A read of VAL or RESULT waits for the committed feeds of its context and returns the value. -/
  | crcValueRead (ctx : Nat) (result : Bool)
  /-- UPDATE (R478): An UPDATE command resets the module to LOADER to write a new set, or is refused with FS61. -/
  | update (m : Manifest) (force : Bool)
  /-- FIRMWARE_PART (R478): A firmware part is written over its slot and hashed; the last part leads to the manifest and Glue-up GLUED. -/
  | firmwarePart (part : Nat) (length : Nat) (digest : BitVec 256)
  /-- CLONE_START (R483): A LOADER module after a failed check begins cloning a qualifying partner's set. -/
  | cloneStart
  /-- LOAD_STOP (R488): A program is loaded with a stop, checked and started COLD, or the command is refused with FS61. -/
  | loadStop
  /-- LOAD_STOP_TRANSFER_END (R488): The image written under LOAD_STOP is checked, and the module resets into the new or old program. -/
  | loadStopTransferEnd (img : Image)
  /-- DEBUG_SESSION_OPEN (R489): TRST_N rises and a DBG_CMD handshake succeeds; a debug session opens and FS63 is raised. -/
  | debugSessionOpen
  /-- DEBUG_SESSION_END (R489): TRST_N falls and the debug session ends. -/
  | debugSessionEnd
  /-- DEBUG_READ (R490): A bench-port read of a space, or denied with 0. -/
  | debugRead (space : Nat) (addr : Nat)
  /-- DEBUG_WRITE (R490): A bench-port write to a space, or denied and dropped. -/
  | debugWrite (space : Nat) (addr : Nat) (data : Word)
  /-- DEBUG_BREAKPOINT (R490): A bench-port command sets a breakpoint on an instruction index. -/
  | debugBreakpoint (idx : Nat)
  /-- DEBUG_HALT (R493): A halt request is allowed by role or refused with its reason. -/
  | debugHalt
  /-- DEBUG_STEP (R191): A single step executes one instruction as a window of its own. -/
  | debugStep
  /-- DEBUG_RESUME (R192): The halted LP resumes and releases follow from the next tick. -/
  | debugResume
  /-- LOCK_LEVEL_CHANGE (R491): The bench-port lock level is raised or lowered, and FS63 is raised. -/
  | lockLevelChange (level : Nat) (fromBench : Bool)
  /-- REGISTER_WRITE (R8): A write to a system word that has no row of its own acts on each field by its access code. -/
  | registerWrite (writer : Writer) (idx : Nat) (mask : Word) (v : Word)
  /-- HOST_TO_FIELD_FRAME (R346): Every 2 µs the host side sends its isolation-link frame with DO and UC commands, settings or HART bytes; the field side applies a valid one or counts it missed, and leaves its fail values after eight valid frames. -/
  | hostToFieldFrame (valid : Bool)
  /-- ALV_EXT_TOGGLE (R24): While the module is healthy, ALV_EXT changes level every 500 µs to form its 1 ms square wave. -/
  | alvExtToggle
  /-- PLANT_MESSAGE_TIMEOUT (R469): A plant message posted in ring 6 that no session has acknowledged within 1 s ends with result TIMEOUT and its result record is written. -/
  | plantMessageTimeout
  /-- BACKUP_CAPACITOR_SPENT (R47): With the feeds and hold-up storage gone, the backup capacitor runs out and the AON domain and the time backup stop. -/
  | backupCapacitorSpent
  /-- CAN_PROTOCOL_EXCEPTION (R387): An FD frame on the bus while FD_EN = 0 sets PEX, and the channel stops taking part until it has seen 11 recessive bits. -/
  | canProtocolException (ch : Nat)
  deriving DecidableEq, Repr

end Sys2Proof
end

