-- ==== Sys2Proof/Decode.lean ====
section
/-! DEFINITION. The decoder over the rows of spec/opcode_table.json that give bits: no row does, so no word spells a command. -/

namespace Sys2Proof

/-- The command that a word spells by the table's bits: none. (DESIGN CHOICE: log entry 3) -/
def decodeTableWord (_nbits _w : Nat) : Option Instr := none

end Sys2Proof
end

