-- ==== Sys2Proof/Machine/Flags.lean ====
section
/-! DEFINITION. Word arithmetic and the flags (spec/04 R110–R115), and the conditions (spec/03 R90): exact results first, narrowed at the
end. -/

namespace Sys2Proof.Machine

/-- 2^63. -/
def two63 : Int := 9223372036854775808

/-- What a word operation leaves: the result, CF if it writes it, and whether SOV is set; ZF and NF follow the result (R110). -/
structure Alu where
  res : Word64
  cf : Option Bool
  sov : Bool
  deriving DecidableEq, Repr

/-- An exact result narrowed by wrapping; SOV if it does not fit (R111). -/
def wrap64 (x : Int) (cf : Option Bool) : Alu := ⟨BitVec.ofInt 64 x, cf, decide (x < -two63) || decide (two63 ≤ x)⟩

/-- An exact result narrowed by saturation to [lo, hi]; SOV if it was clipped (R111). -/
def sat (lo hi x : Int) (cf : Option Bool) : Alu := ⟨BitVec.ofInt 64 (clampInt lo hi x), cf, clampInt lo hi x != x⟩

/-- Saturation to the signed 64-bit range. -/
def sat64 (x : Int) (cf : Option Bool) : Alu := sat (-two63) (two63 - 1) x cf

/-- Unsigned carry out of a sum, unsigned borrow of a difference (R111). -/
def carryAdd (a b : Word64) : Bool := decide (2 ^ 64 ≤ a.toNat + b.toNat)
def borrowSub (a b : Word64) : Bool := decide (a.toNat < b.toNat)

/-- ADD, ADDS (R111). -/
def aluAdd (a b : Word64) : Alu := wrap64 (a.toInt + b.toInt) (some (carryAdd a b))
def aluAdds (a b : Word64) : Alu := sat64 (a.toInt + b.toInt) (some (carryAdd a b))
/-- SUB, SUBS (R111). -/
def aluSub (a b : Word64) : Alu := wrap64 (a.toInt - b.toInt) (some (borrowSub a b))
def aluSubs (a b : Word64) : Alu := sat64 (a.toInt - b.toInt) (some (borrowSub a b))
/-- MUL, MULS (R111): CF keeps its value. -/
def aluMul (a b : Word64) : Alu := wrap64 (a.toInt * b.toInt) none
def aluMuls (a b : Word64) : Alu := sat64 (a.toInt * b.toInt) none

/-- Quotient and remainder of DIV (`s` false) and DIVS (R113): truncated towards zero, with the two fixed cases. -/
def divide (s : Bool) (a b : Word64) : Alu × Word64 :=
  if b = 0 then
    (⟨if a.toInt > 0 then BitVec.ofInt 64 (two63 - 1) else if a.toInt < 0 then BitVec.ofInt 64 (-two63) else 0, none, true⟩, 0)
  else if a.toInt = -two63 ∧ b.toInt = -1 then
    (⟨if s then BitVec.ofInt 64 (two63 - 1) else BitVec.ofInt 64 (-two63), none, true⟩, 0)
  else (⟨BitVec.ofInt 64 (a.toInt.tdiv b.toInt), none, false⟩, BitVec.ofInt 64 (a.toInt.tmod b.toInt))

/-- Bitwise operations (R110). -/
def aluBits (r : Word64) : Alu := ⟨r, none, false⟩

/-- NEG, NEGS, ABS, ABSS (R114). -/
def aluNeg (a : Word64) : Alu := wrap64 (-a.toInt) none
def aluNegs (a : Word64) : Alu := sat64 (-a.toInt) none
def aluAbs (a : Word64) : Alu := wrap64 (if a.toInt < 0 then -a.toInt else a.toInt) none
def aluAbss (a : Word64) : Alu := sat64 (if a.toInt < 0 then -a.toInt else a.toInt) none

/-- SHL, SHR, SAR by n = 0–63: CF is the last bit out, 0 if n = 0 (R114). -/
def aluShl (a : Word64) (n : Nat) : Alu := ⟨a <<< n, some (decide (n ≠ 0) && a.getLsbD (64 - n)), false⟩
def aluShr (a : Word64) (n : Nat) : Alu := ⟨a >>> n, some (decide (n ≠ 0) && a.getLsbD (n - 1)), false⟩
def aluSar (a : Word64) (n : Nat) : Alu := ⟨a.sshiftRight n, some (decide (n ≠ 0) && a.getLsbD (n - 1)), false⟩

/-- Bits of width code w: 8·2^w (R114). -/
def bitsOf (w : Nat) : Nat := 8 * 2 ^ w

/-- SEXT, ZEXT, SAT, USAT with w = 0–2 (R114). -/
def aluSext (a : Word64) (w : Nat) : Alu := ⟨(a.setWidth (bitsOf w)).signExtend 64, none, false⟩
def aluZext (a : Word64) (w : Nat) : Alu := ⟨(a.setWidth (bitsOf w)).setWidth 64, none, false⟩
def aluSat (a : Word64) (w : Nat) : Alu := sat (-(2 ^ (bitsOf w - 1))) (2 ^ (bitsOf w - 1) - 1) a.toInt none
def aluUsat (a : Word64) (w : Nat) : Alu := sat 0 (2 ^ bitsOf w - 1) a.toInt none

/-- Division by 2^24, rounded half away from zero (R115). -/
def roundQ (x : Int) : Int := if 0 ≤ x then (x + 2 ^ 23) / 2 ^ 24 else -((-x + 2 ^ 23) / 2 ^ 24)

/-- I2Q, Q2I, MULQ (R115). -/
def aluI2q (a : Word64) : Alu := sat (-(2 ^ 31)) (2 ^ 31 - 1) (a.toInt * 2 ^ 24) none
def aluQ2i (a : Word64) : Alu := ⟨BitVec.ofInt 64 (roundQ a.toInt), none, false⟩
def aluMulq (a b : Word64) : Alu := sat (-(2 ^ 31)) (2 ^ 31 - 1) (roundQ (a.toInt * b.toInt)) none

/-- MAX, MIN, signed (R114). -/
def aluMax (a b : Word64) : Alu := aluBits (if a.toInt < b.toInt then b else a)
def aluMin (a b : Word64) : Alu := aluBits (if b.toInt < a.toInt then b else a)

/-- The registers with a word operation's result in WA and its flags: ZF, NF of the result, CF if written, SOV sticky (R110, R111). -/
def Regs.alu (r : Regs) (x : Alu) : Regs :=
  { r with wa := x.res, zf := x.res == 0, nf := x.res.msb, cf := x.cf.getD r.cf, sov := r.sov || x.sov }

/-- CMP of WA with m: ZF, NF of the exact difference, CF unsigned below; SOV and WA stay (R111). -/
def Regs.cmp (r : Regs) (m : Word64) : Regs :=
  { r with zf := r.wa == m, nf := decide (r.wa.toInt < m.toInt), cf := borrowSub r.wa m }

/-- The flags as the byte FL: [3] SOV, [2] NF, [1] ZF, [0] CF (spec/03 Table 3-1). -/
def Regs.fl (r : Regs) : Nat := 8 * bitNat r.sov + 4 * bitNat r.nf + 2 * bitNat r.zf + bitNat r.cf

/-- The condition codes 0–9 (spec/03 Table 3-9). -/
def Regs.cond (r : Regs) (c : Nat) : Bool :=
  if c = 0 then r.zf else if c = 1 then !r.zf else if c = 2 then r.nf else if c = 3 then !r.nf
  else if c = 4 then !r.nf && !r.zf else if c = 5 then r.nf || r.zf else if c = 6 then r.cf else if c = 7 then !r.cf
  else if c = 8 then r.sov else !r.sov

end Sys2Proof.Machine
end

