-- ==== Sys2Proof/Config.lean ====
section
/-! DEFINITION. What differs from unit to unit and what the spec leaves open: constants without a body, so that no proof can see a
value of them (the assumption log names each). -/

namespace Sys2Proof

/-- Hardware revision of the unit (spec/02 Table 2-8, "Per unit"). (DESIGN CHOICE: log entry 13) -/
opaque Config.hwRev : BitVec 8
/-- Serial number of the unit (spec/02 R64). (DESIGN CHOICE: log entry 13) -/
opaque Config.serial : BitVec 64
/-- MAC addresses of ports 0 PLANT-1, 1 PLANT-2, 2 RING-A, 3 RING-B (spec/12 R385). (DESIGN CHOICE: log entry 13) -/
opaque Config.mac : Nat → BitVec 48
/-- Identity of the waveform tables (spec/14 R425). (DESIGN CHOICE: log entry 13) -/
opaque Config.waveformId : Word
/-- The state that writing 1 to a reserved field leaves (spec/00 R10: not defined); applied to `State.freeCtr`. (DESIGN CHOICE: log entry 12) -/
opaque Config.reservedEffect : Nat → Word

/-- Whether an inexact quotient `a / b` whose rounding the spec does not state is rounded up. (DESIGN CHOICE: log entry 16) -/
opaque Config.roundUp : Int → Int → Bool
/-- Serial number of the Mortise (spec/10 Table 10-6 MRT_ID). (DESIGN CHOICE: log entry 18) -/
opaque Config.mrtId : Word
/-- Legal checksum of the Mortise firmware, by its installations so far (spec/10 R317, R318). (DESIGN CHOICE: log entry 18) -/
opaque Config.mrtFwCrc : Nat → Word
/-- CRC-32 of a sealed parameter set (spec/10 R305: the set's layout is not given). (DESIGN CHOICE: log entry 18) -/
opaque Config.paramCrc : List Int → Word
/-- CRC-32 of a copy that the Mortise keeps in FRAM (spec/10 R298: the copy's layout is not given). (DESIGN CHOICE: log entry 18) -/
opaque Config.framCrc : List Int → Word
/-- A HART primary variable, IEEE 754, in the unit of its quantity (spec/10 R295: the conversion is not given). (DESIGN CHOICE: log entry 19) -/
opaque Config.hartValue : Word → Int
/-- CSP evaluated at P and T (spec/10 R300: the method is not given) [10^-9]. (DESIGN CHOICE: log entry 19) -/
opaque Config.steelCorrection : Nat → Int → Int → Nat
/-- RATE_ADJ that the servo takes after a Sync message (spec/12 R377, Table 12-8: the servo's law is not given); applied to `State.freeCtr`. (DESIGN CHOICE: log entry 20) -/
opaque Config.servo : Nat → Int
/-- Whether a pending CAN frame has already won arbitration when its abort arrives (spec/13 R399); applied to `State.freeCtr`. (DESIGN CHOICE: log entry 21) -/
opaque Config.arbitrationWon : Nat → Bool
/-- REC after a good reception above 127 (spec/13 R401, ISO 11898-1: a value from 119 to 127); applied to `State.freeCtr`. (DESIGN CHOICE: log entry 21) -/
opaque Config.recAfter : Nat → Nat
/-- Pixels of a row that shows a content (spec/14 R406, R408: the fonts and layouts are not given): 100 bytes. (DESIGN CHOICE: log entry 22) -/
opaque Config.rowImage : Nat → List Nat → List (BitVec 8)
/-- Phase pairs of the longest waveform of an update (spec/14 R412: the tables are not given); applied to `State.freeCtr`. (DESIGN CHOICE: log entry 22) -/
opaque Config.wavePairs : Nat → Nat
/-- Whether a manifest's signature verifies under the key it names (spec/17 R476): bytes 0–383, KEY_ID, SIG_R, SIG_S. (DESIGN CHOICE: log entry 17) -/
opaque Config.signatureOk : List (BitVec 8) → Nat → BitVec 256 → BitVec 256 → Bool
/-- What the spec does not state of the capture of a bench access that the lock level denies (spec/17 R492; the fields of PR_CAP_INFO but
MASTER and WRITE, and PR_CAP_ADDR); applied to `State.freeCtr`. (DESIGN CHOICE: log entry 23) -/
opaque Config.benchCapture : Nat → Word × Word
/-- A word of DRAM by its physical address (spec/17 R489: what lies where is not given); applied to `State.freeCtr`. (DESIGN CHOICE: log entry 23) -/
opaque Config.physical : Nat → Nat → Word
/-- Version of the resident loader (spec/17 Table 17-10). (DESIGN CHOICE: log entry 13) -/
opaque Config.loaderVersion : BitVec 32
/-- Whether the running firmware supports an image format (spec/07 Table 7-4, FORMAT: the formats are not given). (DESIGN CHOICE: log entry 24) -/
opaque Config.formatSupported : Nat → Bool
/-- Whether the retentive ranges had been rewritten when a rewrite after a switch was cut short (spec/07 R212); applied to `State.freeCtr`. (DESIGN CHOICE: log entry 24) -/
opaque Config.retentiveWritten : Nat → Bool

end Sys2Proof
end

