-- ==== Sys2Proof/Machine/SysMap.lean ====
section
/-! DEFINITION. The system-word map (spec/00_scope.md R6–R10 and the map of every block's chapter): one row per word or
array of words, with the masks of its access codes (Table 0-6) and its reset value; the index and the fields by name. -/

namespace Sys2Proof.Machine

/-- A word, or an array of `count` words `stride` apart: the bits of each access code, the reset value, and whether the map
marks it as a setting (spec/02 R63). A bit in none of the masks is reserved (R10). -/
structure Row where
  base : Nat
  count : Nat
  stride : Nat
  ro : Word
  rw : Word
  w1c : Word
  wo : Word
  reset : Word
  setting : Bool
  deriving DecidableEq, Repr

/-- A field of a system word: the word's index and the bits [hi:lo] (R5). -/
structure Fld where
  idx : Nat
  hi : Nat
  lo : Nat
  deriving DecidableEq, Repr

/-- Rows of block idn, part 0. -/
def rows_idn0 : List Row := [
  ⟨0x0, 1, 1, 0xFFFFFF00#32, 0x0#32, 0x0#32, 0x0#32, 0x880000#32, false⟩,
  ⟨0x1, 1, 1, 0xFFFFFFFF#32, 0x0#32, 0x0#32, 0x0#32, 0x0#32, false⟩,
  ⟨0x2, 1, 1, 0xFFFFFFFF#32, 0x0#32, 0x0#32, 0x0#32, 0x0#32, false⟩,
  ⟨0x3, 1, 1, 0x3F#32, 0x0#32, 0x0#32, 0x0#32, 0xF#32, false⟩,
  ⟨0x4, 1, 1, 0x3F#32, 0x0#32, 0x0#32, 0x0#32, 0x0#32, false⟩,
  ⟨0x5, 1, 1, 0xF#32, 0x0#32, 0x0#32, 0x0#32, 0x0#32, false⟩,
  ⟨0x6, 1, 1, 0xF33#32, 0x0#32, 0x0#32, 0x0#32, 0x0#32, false⟩,
  ⟨0x7, 1, 1, 0xFFFFFFFF#32, 0x0#32, 0x0#32, 0x0#32, 0x0#32, false⟩,
  ⟨0x8, 1, 1, 0xFFFFFFFF#32, 0x0#32, 0x0#32, 0x0#32, 0x0#32, false⟩,
  ⟨0x9, 1, 1, 0xFFFFFFFF#32, 0x0#32, 0x0#32, 0x0#32, 0xFFFFFFFF#32, false⟩]

/-- The map of block idn. -/
def rows_idn : List Row := rows_idn0

/-- Rows of block clk, part 0. -/
def rows_clk0 : List Row := [
  ⟨0x100, 1, 1, 0x0#32, 0xFFFF000F#32, 0x0#32, 0x0#32, 0x5#32, true⟩,
  ⟨0x101, 1, 1, 0x3FFF#32, 0x0#32, 0x0#32, 0x0#32, 0x0#32, false⟩,
  ⟨0x102, 1, 1, 0x0#32, 0x203E#32, 0x0#32, 0x0#32, 0x203E#32, true⟩,
  ⟨0x103, 1, 1, 0x0#32, 0x0#32, 0x3FFF#32, 0x0#32, 0x0#32, false⟩,
  ⟨0x104, 1, 1, 0x0#32, 0x0#32, 0x3FFF#32, 0x0#32, 0x0#32, false⟩,
  ⟨0x105, 1, 1, 0xFFFFFFFF#32, 0x0#32, 0x0#32, 0x0#32, 0x0#32, false⟩,
  ⟨0x106, 1, 1, 0xFFFFFFFF#32, 0x0#32, 0x0#32, 0x0#32, 0x0#32, false⟩,
  ⟨0x107, 1, 1, 0xFFFFFFFF#32, 0x0#32, 0x0#32, 0x0#32, 0x0#32, false⟩,
  ⟨0x108, 1, 1, 0x3FFFF#32, 0x0#32, 0x0#32, 0x0#32, 0x0#32, false⟩,
  ⟨0x109, 1, 1, 0xFFFF#32, 0x0#32, 0x0#32, 0x0#32, 0x0#32, false⟩,
  ⟨0x10A, 1, 1, 0x11E#32, 0x0#32, 0x0#32, 0x0#32, 0x0#32, false⟩,
  ⟨0x10B, 1, 1, 0xF#32, 0x0#32, 0x0#32, 0x0#32, 0x0#32, false⟩,
  ⟨0x10C, 1, 1, 0x80007FFF#32, 0x0#32, 0x0#32, 0x0#32, 0x0#32, false⟩]

/-- The map of block clk. -/
def rows_clk : List Row := rows_clk0

/-- Rows of block sch, part 0. -/
def rows_sch0 : List Row := [
  ⟨0x200, 1, 1, 0x3FF#32, 0x0#32, 0x0#32, 0x0#32, 0x80#32, false⟩,
  ⟨0x201, 1, 1, 0xFFFFFFFF#32, 0x0#32, 0x0#32, 0x0#32, 0x0#32, false⟩,
  ⟨0x202, 1, 1, 0xFFFFFFFF#32, 0x0#32, 0x0#32, 0x0#32, 0x0#32, false⟩,
  ⟨0x203, 1, 1, 0xFFFFFFFF#32, 0x0#32, 0x0#32, 0x0#32, 0x0#32, false⟩,
  ⟨0x204, 1, 1, 0xFFFFFF#32, 0x0#32, 0x80000000#32, 0x40000000#32, 0x0#32, false⟩,
  ⟨0x205, 1, 1, 0xFFFFFFFF#32, 0x0#32, 0x0#32, 0x0#32, 0x0#32, false⟩,
  ⟨0x206, 1, 1, 0x0#32, 0x0#32, 0x0#32, 0x7F#32, 0x0#32, false⟩,
  ⟨0x210, 1, 1, 0x0#32, 0x7F#32, 0x0#32, 0x0#32, 0x0#32, true⟩,
  ⟨0x211, 1, 1, 0xFFFFFFFF#32, 0x0#32, 0x0#32, 0x0#32, 0x0#32, false⟩,
  ⟨0x212, 1, 1, 0xFFFFFFFF#32, 0x0#32, 0x0#32, 0x0#32, 0x0#32, false⟩,
  ⟨0x213, 1, 1, 0xFFFFFFFF#32, 0x0#32, 0x0#32, 0x0#32, 0x0#32, false⟩,
  ⟨0x214, 1, 1, 0xFFFFFFFF#32, 0x0#32, 0x0#32, 0x0#32, 0x0#32, false⟩,
  ⟨0x215, 1, 1, 0xFFFFFFFF#32, 0x0#32, 0x0#32, 0x0#32, 0x0#32, false⟩,
  ⟨0x240, 96, 4, 0x0#32, 0xFF03FFFF#32, 0x0#32, 0x0#32, 0x0#32, true⟩,
  ⟨0x241, 32, 4, 0x0#32, 0x3FFFF#32, 0x0#32, 0x0#32, 0x1#32, true⟩,
  ⟨0x2C1, 64, 4, 0x0#32, 0xFFFFFFFF#32, 0x0#32, 0x0#32, 0x0#32, true⟩]

/-- Rows of block sch, part 1. -/
def rows_sch1 : List Row := [
  ⟨0x242, 96, 4, 0x0#32, 0xFFFFFF#32, 0x0#32, 0x0#32, 0x0#32, true⟩,
  ⟨0x243, 98, 4, 0xFFFFF07C#32, 0x0#32, 0x3#32, 0x0#32, 0x0#32, false⟩]

/-- The map of block sch. -/
def rows_sch : List Row := rows_sch0 ++ rows_sch1

/-- Rows of block rx, part 0. -/
def rows_rx0 : List Row := [
  ⟨0x400, 1, 1, 0x7FFFFF#32, 0x0#32, 0x0#32, 0x0#32, 0x0#32, false⟩,
  ⟨0x401, 1, 1, 0x0#32, 0xFFFF#32, 0x0#32, 0x0#32, 0x10#32, true⟩,
  ⟨0x402, 1, 1, 0xFFFFFFFF#32, 0x0#32, 0x0#32, 0x0#32, 0x0#32, false⟩,
  ⟨0x403, 1, 1, 0xFFFFFFFF#32, 0x0#32, 0x0#32, 0x0#32, 0x0#32, false⟩,
  ⟨0x404, 1, 1, 0xFFFFFFFF#32, 0x0#32, 0x0#32, 0x0#32, 0x0#32, false⟩,
  ⟨0x408, 1, 1, 0xFF0F037F#32, 0x0#32, 0x0#32, 0x0#32, 0x0#32, false⟩,
  ⟨0x409, 1, 1, 0x3FFFFF#32, 0x0#32, 0x0#32, 0x0#32, 0x0#32, false⟩,
  ⟨0x40C, 1, 1, 0x37F#32, 0x0#32, 0x0#32, 0x0#32, 0x0#32, false⟩,
  ⟨0x40D, 1, 1, 0x3FFFFF#32, 0x0#32, 0x0#32, 0x0#32, 0x0#32, false⟩,
  ⟨0x40E, 1, 1, 0x0#32, 0x0#32, 0x0#32, 0x3#32, 0x0#32, false⟩,
  ⟨0x410, 98, 1, 0xFFFF0300#32, 0x3#32, 0x0#32, 0x8000#32, 0x2#32, true⟩]

/-- The map of block rx. -/
def rows_rx : List Row := rows_rx0

/-- Rows of block oc, part 0. -/
def rows_oc0 : List Row := [
  ⟨0x500, 1, 1, 0xF0F0F#32, 0x0#32, 0x0#32, 0x0#32, 0x80000#32, false⟩,
  ⟨0x501, 1, 1, 0x0#32, 0xFFFFFF03#32, 0x0#32, 0x0#32, 0x1#32, true⟩,
  ⟨0x502, 1, 1, 0xFFFFFFFF#32, 0x0#32, 0x0#32, 0x0#32, 0x0#32, false⟩,
  ⟨0x503, 1, 1, 0xFFFFFFFF#32, 0x0#32, 0x0#32, 0x0#32, 0x0#32, false⟩,
  ⟨0x504, 1, 1, 0xFFFFFFFF#32, 0x0#32, 0x0#32, 0x0#32, 0x0#32, false⟩,
  ⟨0x505, 1, 1, 0xFFFFFFFF#32, 0x0#32, 0x0#32, 0x0#32, 0x0#32, false⟩,
  ⟨0x506, 1, 1, 0xFFFFFFFF#32, 0x0#32, 0x0#32, 0x0#32, 0x0#32, false⟩,
  ⟨0x507, 1, 1, 0xFFFFFFFF#32, 0x0#32, 0x0#32, 0x0#32, 0x0#32, false⟩,
  ⟨0x508, 1, 1, 0xFFFFFFFF#32, 0x0#32, 0x0#32, 0x0#32, 0x0#32, false⟩,
  ⟨0x509, 1, 1, 0xFFFFFFFF#32, 0x0#32, 0x0#32, 0x0#32, 0x0#32, false⟩,
  ⟨0x50A, 1, 1, 0xFFFFFFFF#32, 0x0#32, 0x0#32, 0x0#32, 0x0#32, false⟩,
  ⟨0x50B, 1, 1, 0xFFFFFFFF#32, 0x0#32, 0x0#32, 0x0#32, 0x0#32, false⟩,
  ⟨0x50C, 1, 1, 0xFFFFFFFF#32, 0x0#32, 0x0#32, 0x0#32, 0xFFFFFFFF#32, false⟩,
  ⟨0x510, 4, 1, 0xFFFFFFFF#32, 0x0#32, 0x0#32, 0x0#32, 0x0#32, false⟩]

/-- The map of block oc. -/
def rows_oc : List Row := rows_oc0

/-- Rows of block le, part 0. -/
def rows_le0 : List Row := [
  ⟨0x600, 1, 1, 0x1FFF01FF#32, 0x0#32, 0x0#32, 0x0#32, 0x0#32, false⟩,
  ⟨0x601, 1, 1, 0xFFFFFFFF#32, 0x0#32, 0x0#32, 0x0#32, 0x0#32, false⟩,
  ⟨0x602, 1, 1, 0xFFFFFFFF#32, 0x0#32, 0x0#32, 0x0#32, 0x0#32, false⟩,
  ⟨0x603, 1, 1, 0xFFFFFFFF#32, 0x0#32, 0x0#32, 0x0#32, 0x0#32, false⟩,
  ⟨0x604, 1, 1, 0xFFFFFFFF#32, 0x0#32, 0x0#32, 0x0#32, 0x0#32, false⟩,
  ⟨0x605, 1, 1, 0xFFFFFFFF#32, 0x0#32, 0x0#32, 0x0#32, 0x0#32, false⟩,
  ⟨0x606, 1, 1, 0xF0000FFF#32, 0x0#32, 0x0#32, 0x0#32, 0x0#32, false⟩,
  ⟨0x607, 1, 1, 0x0#32, 0x0#32, 0x0#32, 0x3#32, 0x0#32, false⟩,
  ⟨0x700, 128, 1, 0xFFFFFFFF#32, 0x0#32, 0x0#32, 0x0#32, 0x0#32, false⟩,
  ⟨0x780, 128, 1, 0xFFFFFFFF#32, 0x0#32, 0x0#32, 0x0#32, 0x0#32, false⟩]

/-- The map of block le. -/
def rows_le : List Row := rows_le0

/-- Rows of block pair, part 0. -/
def rows_pair0 : List Row := [
  ⟨0x1000, 1, 1, 0xFF00007F#32, 0x0#32, 0x0#32, 0x0#32, 0xF0000000#32, false⟩,
  ⟨0x1001, 1, 1, 0x0#32, 0xF00F#32, 0x0#32, 0x0#32, 0x3009#32, true⟩,
  ⟨0x1002, 1, 1, 0x0#32, 0x0#32, 0x0#32, 0xF#32, 0x0#32, false⟩,
  ⟨0x1003, 1, 1, 0xFFFFFFFF#32, 0x0#32, 0x0#32, 0x0#32, 0x0#32, false⟩,
  ⟨0x1004, 1, 1, 0xFFFFFFFF#32, 0x0#32, 0x0#32, 0x0#32, 0x0#32, false⟩,
  ⟨0x1005, 1, 1, 0xFFFFFFFF#32, 0x0#32, 0x0#32, 0x0#32, 0x0#32, false⟩,
  ⟨0x1006, 1, 1, 0xFE000000#32, 0x0#32, 0x0#32, 0x0#32, 0x0#32, false⟩,
  ⟨0x1007, 1, 1, 0xFFFFFFFF#32, 0x0#32, 0x0#32, 0x0#32, 0x0#32, false⟩,
  ⟨0x1008, 1, 1, 0xFFFFFF0F#32, 0x0#32, 0x0#32, 0x0#32, 0x0#32, false⟩,
  ⟨0x1009, 1, 1, 0xFFFFFFFF#32, 0x0#32, 0x0#32, 0x0#32, 0x0#32, false⟩,
  ⟨0x100A, 1, 1, 0xFFFFFFFF#32, 0x0#32, 0x0#32, 0x0#32, 0x0#32, false⟩,
  ⟨0x100B, 1, 1, 0xFFFFFFFF#32, 0x0#32, 0x0#32, 0x0#32, 0x0#32, false⟩,
  ⟨0x100C, 1, 1, 0xFFFFFFFF#32, 0x0#32, 0x0#32, 0x0#32, 0x0#32, false⟩,
  ⟨0x100D, 1, 1, 0xFFFF0003#32, 0x0#32, 0x0#32, 0x0#32, 0x0#32, false⟩,
  ⟨0x100E, 1, 1, 0xFFFFFFFF#32, 0x0#32, 0x0#32, 0x0#32, 0x0#32, false⟩,
  ⟨0x100F, 1, 1, 0xFFFFCFFF#32, 0x0#32, 0x0#32, 0x0#32, 0x0#32, false⟩]

/-- Rows of block pair, part 1. -/
def rows_pair1 : List Row := [
  ⟨0x1010, 1, 1, 0xFFFFFFFF#32, 0x0#32, 0x0#32, 0x0#32, 0x0#32, false⟩,
  ⟨0x1011, 1, 1, 0x0#32, 0x0#32, 0x3FF#32, 0x0#32, 0x0#32, false⟩]

/-- The map of block pair. -/
def rows_pair : List Row := rows_pair0 ++ rows_pair1

/-- Rows of block mb, part 0. -/
def rows_mb0 : List Row := [
  ⟨0x1400, 1, 1, 0xFF00FFFF#32, 0x0#32, 0x0#32, 0x0#32, 0x0#32, false⟩,
  ⟨0x1401, 1, 1, 0xFFFFFFFF#32, 0x0#32, 0x0#32, 0x0#32, 0x0#32, false⟩,
  ⟨0x1402, 1, 1, 0xFFFFFFFF#32, 0x0#32, 0x0#32, 0x0#32, 0x0#32, false⟩,
  ⟨0x1403, 1, 1, 0xFFFFFFFF#32, 0x0#32, 0x0#32, 0x0#32, 0x0#32, false⟩,
  ⟨0x1404, 1, 1, 0xFFFFFFFF#32, 0x0#32, 0x0#32, 0x0#32, 0x0#32, false⟩,
  ⟨0x1405, 1, 1, 0xFFFFFFFF#32, 0x0#32, 0x0#32, 0x0#32, 0x0#32, false⟩,
  ⟨0x1406, 1, 1, 0xFFFFFFFF#32, 0x0#32, 0x0#32, 0x0#32, 0x0#32, false⟩,
  ⟨0x1407, 1, 1, 0xFFFFFFFF#32, 0x0#32, 0x0#32, 0x0#32, 0x0#32, false⟩,
  ⟨0x1408, 1, 1, 0xFFFF07FF#32, 0x0#32, 0x0#32, 0x0#32, 0x0#32, false⟩,
  ⟨0x1409, 1, 1, 0xFFFFFFFF#32, 0x0#32, 0x0#32, 0x0#32, 0x0#32, false⟩,
  ⟨0x140A, 1, 1, 0xFFFFFFFF#32, 0x0#32, 0x0#32, 0x0#32, 0x0#32, false⟩,
  ⟨0x140B, 1, 1, 0xFFF0FFFF#32, 0x0#32, 0x0#32, 0x0#32, 0x0#32, false⟩,
  ⟨0x140C, 1, 1, 0xFFFF#32, 0x0#32, 0x0#32, 0x0#32, 0x0#32, false⟩,
  ⟨0x1410, 2, 32, 0xE00003FF#32, 0x0#32, 0x0#32, 0x0#32, 0x0#32, false⟩,
  ⟨0x1411, 2, 32, 0xFFFFFFFF#32, 0x0#32, 0x0#32, 0x0#32, 0x0#32, false⟩,
  ⟨0x1412, 2, 32, 0xFFFF#32, 0x0#32, 0x0#32, 0x0#32, 0x0#32, false⟩]

/-- Rows of block mb, part 1. -/
def rows_mb1 : List Row := [
  ⟨0x1413, 2, 32, 0xFFFFFFFF#32, 0x0#32, 0x0#32, 0x0#32, 0x0#32, false⟩,
  ⟨0x1414, 2, 32, 0xFFFFFFFF#32, 0x0#32, 0x0#32, 0x0#32, 0x0#32, false⟩,
  ⟨0x1415, 2, 32, 0xFFFFFFFF#32, 0x0#32, 0x0#32, 0x0#32, 0x0#32, false⟩,
  ⟨0x1416, 2, 32, 0xFFFFFFFF#32, 0x0#32, 0x0#32, 0x0#32, 0x0#32, false⟩,
  ⟨0x1417, 2, 32, 0xFFFFFFFF#32, 0x0#32, 0x0#32, 0x0#32, 0x0#32, false⟩,
  ⟨0x1418, 2, 32, 0xFFFFFFFF#32, 0x0#32, 0x0#32, 0x0#32, 0x0#32, false⟩,
  ⟨0x1419, 2, 32, 0xFFFFFFFF#32, 0x0#32, 0x0#32, 0x0#32, 0x0#32, false⟩,
  ⟨0x141A, 2, 32, 0xFFFFFFFF#32, 0x0#32, 0x0#32, 0x0#32, 0x0#32, false⟩,
  ⟨0x141B, 2, 32, 0xFFFFFFFF#32, 0x0#32, 0x0#32, 0x0#32, 0x0#32, false⟩,
  ⟨0x141C, 2, 32, 0xFFFFFFFF#32, 0x0#32, 0x0#32, 0x0#32, 0x0#32, false⟩,
  ⟨0x141D, 2, 32, 0xFFFFFFFF#32, 0x0#32, 0x0#32, 0x0#32, 0x0#32, false⟩,
  ⟨0x141E, 2, 32, 0xFFFFFFFF#32, 0x0#32, 0x0#32, 0x0#32, 0x0#32, false⟩,
  ⟨0x141F, 2, 32, 0xFFFFFFFF#32, 0x0#32, 0x0#32, 0x0#32, 0x0#32, false⟩,
  ⟨0x1420, 2, 32, 0xFFFFFFFF#32, 0x0#32, 0x0#32, 0x0#32, 0x0#32, false⟩,
  ⟨0x1421, 2, 32, 0xFFFFFFFF#32, 0x0#32, 0x0#32, 0x0#32, 0x0#32, false⟩,
  ⟨0x1422, 2, 32, 0xFFFFFFFF#32, 0x0#32, 0x0#32, 0x0#32, 0x0#32, false⟩]

/-- Rows of block mb, part 2. -/
def rows_mb2 : List Row := [
  ⟨0x1423, 2, 32, 0xFFFFFFFF#32, 0x0#32, 0x0#32, 0x0#32, 0x0#32, false⟩,
  ⟨0x1424, 2, 32, 0xFFFFFFFF#32, 0x0#32, 0x0#32, 0x0#32, 0x0#32, false⟩,
  ⟨0x1425, 2, 32, 0xFFFFFFFF#32, 0x0#32, 0x0#32, 0x0#32, 0x0#32, false⟩,
  ⟨0x1426, 2, 32, 0xFFFFFFFF#32, 0x0#32, 0x0#32, 0x0#32, 0x0#32, false⟩,
  ⟨0x1427, 2, 32, 0xFFFFFFFF#32, 0x0#32, 0x0#32, 0x0#32, 0x0#32, false⟩,
  ⟨0x1428, 2, 32, 0xFFFFFFFF#32, 0x0#32, 0x0#32, 0x0#32, 0x0#32, false⟩,
  ⟨0x1429, 2, 32, 0xFFFFFFFF#32, 0x0#32, 0x0#32, 0x0#32, 0x0#32, false⟩,
  ⟨0x1450, 1, 1, 0xF8FFFFFF#32, 0x0#32, 0x0#32, 0x0#32, 0x0#32, false⟩,
  ⟨0x1451, 1, 1, 0xFFFFFFFF#32, 0x0#32, 0x0#32, 0x0#32, 0x0#32, false⟩,
  ⟨0x1452, 1, 1, 0xFFFFFFFF#32, 0x0#32, 0x0#32, 0x0#32, 0x0#32, false⟩,
  ⟨0x1453, 1, 1, 0xFFFFFFFF#32, 0x0#32, 0x0#32, 0x0#32, 0x0#32, false⟩,
  ⟨0x1454, 1, 1, 0xFFFFFFFF#32, 0x0#32, 0x0#32, 0x0#32, 0x0#32, false⟩,
  ⟨0x1460, 4, 4, 0xFFFFFFFF#32, 0x0#32, 0x0#32, 0x0#32, 0x0#32, false⟩,
  ⟨0x1461, 4, 4, 0x3F#32, 0x0#32, 0x0#32, 0x0#32, 0x0#32, false⟩,
  ⟨0x1462, 4, 4, 0xFFFFFFFF#32, 0x0#32, 0x0#32, 0x0#32, 0x0#32, false⟩,
  ⟨0x1480, 64, 1, 0xFFFFFFFF#32, 0x0#32, 0x0#32, 0x0#32, 0x0#32, false⟩]

/-- Rows of block mb, part 3. -/
def rows_mb3 : List Row := [
  ⟨0x14C0, 1, 1, 0xF80000FF#32, 0x0#32, 0x0#32, 0x0#32, 0xFF#32, false⟩,
  ⟨0x14C1, 1, 1, 0xFFFFFFFF#32, 0x0#32, 0x0#32, 0x0#32, 0x0#32, false⟩,
  ⟨0x14C2, 1, 1, 0xFFFFFFFF#32, 0x0#32, 0x0#32, 0x0#32, 0x0#32, false⟩,
  ⟨0x14C3, 1, 1, 0xFFFFFFFF#32, 0x0#32, 0x0#32, 0x0#32, 0x0#32, false⟩,
  ⟨0x14C4, 1, 1, 0xFFFFFFFF#32, 0x0#32, 0x0#32, 0x0#32, 0x0#32, false⟩,
  ⟨0x14C5, 1, 1, 0xFFFFFFFF#32, 0x0#32, 0x0#32, 0x0#32, 0x0#32, false⟩,
  ⟨0x14C6, 1, 1, 0xFFFFFFFF#32, 0x0#32, 0x0#32, 0x0#32, 0x0#32, false⟩,
  ⟨0x14C7, 1, 1, 0xFFFFFFFF#32, 0x0#32, 0x0#32, 0x0#32, 0x0#32, false⟩,
  ⟨0x14C8, 1, 1, 0xFFFFFFFF#32, 0x0#32, 0x0#32, 0x0#32, 0x0#32, false⟩,
  ⟨0x14C9, 1, 1, 0xFFFFFFFF#32, 0x0#32, 0x0#32, 0x0#32, 0x0#32, false⟩,
  ⟨0x14CA, 1, 1, 0xFFFFFFFF#32, 0x0#32, 0x0#32, 0x0#32, 0x0#32, false⟩,
  ⟨0x14CB, 1, 1, 0xFFFFFFFF#32, 0x0#32, 0x0#32, 0x0#32, 0x0#32, false⟩,
  ⟨0x14CC, 1, 1, 0xFFFFFFFF#32, 0x0#32, 0x0#32, 0x0#32, 0x0#32, false⟩,
  ⟨0x14F0, 1, 1, 0x0#32, 0x0#32, 0x0#32, 0xFF0000FF#32, 0x0#32, false⟩,
  ⟨0x14F1, 3, 1, 0x0#32, 0xFFFFFFFF#32, 0x0#32, 0x0#32, 0x0#32, false⟩]

/-- The map of block mb. -/
def rows_mb : List Row := rows_mb0 ++ rows_mb1 ++ rows_mb2 ++ rows_mb3

/-- Rows of block lio, part 0. -/
def rows_lio0 : List Row := [
  ⟨0x1500, 1, 1, 0xC000FFFF#32, 0x0#32, 0x30000000#32, 0x0#32, 0x0#32, false⟩,
  ⟨0x1501, 1, 1, 0x0#32, 0xFFFFF#32, 0x0#32, 0x0#32, 0x0#32, true⟩,
  ⟨0x1502, 1, 1, 0xFFFFFFFF#32, 0x0#32, 0x0#32, 0x0#32, 0x0#32, false⟩,
  ⟨0x1503, 1, 1, 0xFFFFFFFF#32, 0x0#32, 0x0#32, 0x0#32, 0x0#32, false⟩,
  ⟨0x1504, 1, 1, 0xFFFF#32, 0x0#32, 0x0#32, 0x0#32, 0x0#32, false⟩,
  ⟨0x1505, 1, 1, 0xFFFFFFFF#32, 0x0#32, 0x0#32, 0x0#32, 0x0#32, false⟩,
  ⟨0x1506, 1, 1, 0xFFFFFFFF#32, 0x0#32, 0x0#32, 0x0#32, 0x0#32, false⟩,
  ⟨0x1507, 1, 1, 0x0#32, 0x0#32, 0xFFFFFFFF#32, 0x0#32, 0x0#32, false⟩,
  ⟨0x1508, 1, 1, 0x0#32, 0x0#32, 0xFFFF#32, 0x0#32, 0x0#32, false⟩,
  ⟨0x1509, 1, 1, 0xFFFF#32, 0x0#32, 0x0#32, 0x0#32, 0x0#32, false⟩,
  ⟨0x150A, 1, 1, 0x0#32, 0x0#32, 0xF#32, 0xF00#32, 0x0#32, false⟩,
  ⟨0x150B, 1, 1, 0x0#32, 0x1F03#32, 0x0#32, 0x0#32, 0x502#32, true⟩,
  ⟨0x1510, 16, 1, 0x0#32, 0xE000FFFF#32, 0x0#32, 0x0#32, 0xBB8#32, true⟩,
  ⟨0x1520, 16, 1, 0x0#32, 0x7FFFFFF#32, 0x0#32, 0x0#32, 0x0#32, true⟩,
  ⟨0x1540, 16, 2, 0xFFFFFFFF#32, 0x0#32, 0x0#32, 0x0#32, 0x0#32, false⟩,
  ⟨0x1541, 16, 2, 0xFFFFFFFF#32, 0x0#32, 0x0#32, 0x0#32, 0x0#32, false⟩]

/-- Rows of block lio, part 1. -/
def rows_lio1 : List Row := [
  ⟨0x1560, 8, 1, 0x0#32, 0xF0000000#32, 0x0#32, 0x0#32, 0x0#32, true⟩,
  ⟨0x1568, 1, 1, 0xFFFFFF#32, 0x0#32, 0x0#32, 0x0#32, 0x0#32, false⟩,
  ⟨0x1569, 1, 1, 0x0#32, 0x0#32, 0xFFFFFFFF#32, 0x0#32, 0x0#32, false⟩,
  ⟨0x1580, 8, 4, 0x0#32, 0x87FEF00F#32, 0x0#32, 0x0#32, 0x5000#32, true⟩,
  ⟨0x1581, 8, 4, 0x0#32, 0xFFFF#32, 0x0#32, 0x0#32, 0x0#32, true⟩,
  ⟨0x1582, 8, 4, 0x0#32, 0xFFFF#32, 0x0#32, 0x0#32, 0x0#32, true⟩,
  ⟨0x1583, 8, 4, 0x0#32, 0x0#32, 0x1FF#32, 0x0#32, 0x0#32, false⟩,
  ⟨0x15A0, 8, 1, 0xFFFFFFFF#32, 0x0#32, 0x0#32, 0x0#32, 0x0#32, false⟩]

/-- The map of block lio. -/
def rows_lio : List Row := rows_lio0 ++ rows_lio1

/-- Rows of block ring, part 0. -/
def rows_ring0 : List Row := [
  ⟨0x1800, 1, 1, 0xFFFFFFFF#32, 0x0#32, 0x0#32, 0x0#32, 0xFF0000#32, false⟩,
  ⟨0x1801, 1, 1, 0x0#32, 0xFFFFFFFF#32, 0x0#32, 0x0#32, 0x81F43014#32, true⟩,
  ⟨0x1802, 1, 1, 0xFFFFFFFF#32, 0x0#32, 0x0#32, 0x0#32, 0x0#32, false⟩,
  ⟨0x1803, 1, 1, 0x1FFFF#32, 0x0#32, 0x0#32, 0x0#32, 0x0#32, false⟩,
  ⟨0x1804, 1, 1, 0xFFFF#32, 0x0#32, 0x0#32, 0x0#32, 0x0#32, false⟩,
  ⟨0x1805, 1, 1, 0xFFFFFFFF#32, 0x0#32, 0x0#32, 0x0#32, 0x0#32, false⟩,
  ⟨0x1806, 1, 1, 0xFFFFFFFF#32, 0x0#32, 0x0#32, 0x0#32, 0x0#32, false⟩,
  ⟨0x1807, 1, 1, 0xFFFF00FF#32, 0x0#32, 0x0#32, 0x0#32, 0x0#32, false⟩,
  ⟨0x1808, 1, 1, 0xFFFFFFFF#32, 0x0#32, 0x0#32, 0x0#32, 0x0#32, false⟩,
  ⟨0x1809, 1, 1, 0x0#32, 0x0#32, 0x7F#32, 0x0#32, 0x0#32, false⟩,
  ⟨0x180A, 1, 1, 0xFFFFFFFF#32, 0x0#32, 0x0#32, 0x0#32, 0x0#32, false⟩,
  ⟨0x180B, 1, 1, 0xFFFFFFFF#32, 0x0#32, 0x0#32, 0x0#32, 0x0#32, false⟩,
  ⟨0x180C, 1, 1, 0xFFFFFFFF#32, 0x0#32, 0x0#32, 0x0#32, 0x0#32, false⟩,
  ⟨0x1820, 1, 1, 0xE07F0000#32, 0x0#32, 0x0#32, 0x0#32, 0x0#32, false⟩,
  ⟨0x1821, 1, 1, 0x0#32, 0xF#32, 0x0#32, 0x0#32, 0x6#32, true⟩,
  ⟨0x1822, 1, 1, 0x0#32, 0xFFFFFFFF#32, 0x0#32, 0x0#32, 0x0#32, true⟩]

/-- Rows of block ring, part 1. -/
def rows_ring1 : List Row := [
  ⟨0x1823, 1, 1, 0x0#32, 0x3F#32, 0x0#32, 0x0#32, 0x0#32, true⟩,
  ⟨0x1824, 1, 1, 0x0#32, 0xFFFFFFFF#32, 0x0#32, 0x0#32, 0x0#32, true⟩,
  ⟨0x1825, 1, 1, 0x0#32, 0xFFFFFFFF#32, 0x0#32, 0x0#32, 0x0#32, true⟩,
  ⟨0x1826, 1, 1, 0x0#32, 0x3F#32, 0x0#32, 0x0#32, 0x0#32, true⟩,
  ⟨0x1827, 1, 1, 0x0#32, 0xFFFFFFFF#32, 0x0#32, 0x0#32, 0x0#32, true⟩,
  ⟨0x1828, 2, 1, 0x0#32, 0xFFFFFFFF#32, 0x0#32, 0x0#32, 0x0#32, true⟩,
  ⟨0x1830, 4, 1, 0x0#32, 0xFFFFFFFF#32, 0x0#32, 0x0#32, 0x0#32, true⟩,
  ⟨0x1834, 1, 1, 0x0#32, 0x7F#32, 0x0#32, 0x0#32, 0x0#32, true⟩,
  ⟨0x1835, 4, 1, 0x0#32, 0xFFFFFFFF#32, 0x0#32, 0x0#32, 0x0#32, true⟩,
  ⟨0x1839, 1, 1, 0x0#32, 0x7F#32, 0x0#32, 0x0#32, 0x0#32, true⟩,
  ⟨0x183A, 8, 1, 0x0#32, 0xFFFFFFFF#32, 0x0#32, 0x0#32, 0x0#32, true⟩,
  ⟨0x1850, 1, 1, 0xFFFFFFFF#32, 0x0#32, 0x0#32, 0x0#32, 0x0#32, false⟩,
  ⟨0x1851, 1, 1, 0xFFFFFFFF#32, 0x0#32, 0x0#32, 0x0#32, 0x0#32, false⟩,
  ⟨0x1852, 1, 1, 0xFFFFFFFF#32, 0x0#32, 0x0#32, 0x0#32, 0x0#32, false⟩,
  ⟨0x1853, 1, 1, 0xFFFFFFFF#32, 0x0#32, 0x0#32, 0x0#32, 0x0#32, false⟩,
  ⟨0x1858, 4, 2, 0xFFFFFFFF#32, 0x0#32, 0x0#32, 0x0#32, 0x0#32, false⟩]

/-- Rows of block ring, part 2. -/
def rows_ring2 : List Row := [
  ⟨0x1859, 4, 2, 0xFFFF#32, 0x0#32, 0x0#32, 0x0#32, 0x0#32, false⟩,
  ⟨0x1860, 16, 4, 0x80FCFFFF#32, 0x0#32, 0x0#32, 0x0#32, 0x0#32, false⟩,
  ⟨0x1861, 16, 4, 0xFFFFFFFF#32, 0x0#32, 0x0#32, 0x0#32, 0x0#32, false⟩,
  ⟨0x1862, 16, 4, 0xFFFF#32, 0x0#32, 0x0#32, 0x0#32, 0x0#32, false⟩,
  ⟨0x1863, 16, 4, 0x3FF#32, 0x0#32, 0x0#32, 0x0#32, 0x0#32, false⟩,
  ⟨0x1900, 240, 2, 0x0#32, 0xFFFFFFFF#32, 0x0#32, 0x0#32, 0xBE800400#32, true⟩,
  ⟨0x1901, 240, 2, 0xFF000000#32, 0x0#32, 0xF000#32, 0x0#32, 0x0#32, false⟩,
  ⟨0x1B00, 8, 1, 0xFFFFFFFF#32, 0x0#32, 0x0#32, 0x0#32, 0x0#32, false⟩,
  ⟨0x1B08, 8, 1, 0xFFFFFFFF#32, 0x0#32, 0x0#32, 0x0#32, 0x0#32, false⟩]

/-- The map of block ring. -/
def rows_ring : List Row := rows_ring0 ++ rows_ring1 ++ rows_ring2

/-- Rows of block tim, part 0. -/
def rows_tim0 : List Row := [
  ⟨0x1C00, 1, 1, 0x71F#32, 0x0#32, 0x0#32, 0x0#32, 0x0#32, false⟩,
  ⟨0x1C01, 1, 1, 0x0#32, 0xFF0000FF#32, 0x0#32, 0x0#32, 0x83000000#32, true⟩,
  ⟨0x1C02, 1, 1, 0xFFFFFFFF#32, 0x0#32, 0x0#32, 0x0#32, 0x0#32, false⟩,
  ⟨0x1C03, 1, 1, 0xFFFFFFFF#32, 0x0#32, 0x0#32, 0x0#32, 0x0#32, false⟩,
  ⟨0x1C04, 1, 1, 0xFFFFFFFF#32, 0x0#32, 0x0#32, 0x0#32, 0x0#32, false⟩,
  ⟨0x1C05, 1, 1, 0xFFFFFFFF#32, 0x0#32, 0x0#32, 0x0#32, 0x0#32, false⟩,
  ⟨0x1C06, 1, 1, 0xFFFFFFFF#32, 0x0#32, 0x0#32, 0x0#32, 0x0#32, false⟩,
  ⟨0x1C07, 1, 1, 0xFFFFFFFF#32, 0x0#32, 0x0#32, 0x0#32, 0x0#32, false⟩,
  ⟨0x1C08, 1, 1, 0xFFFFFFFF#32, 0x0#32, 0x0#32, 0x0#32, 0x0#32, false⟩,
  ⟨0x1C09, 1, 1, 0x3FFFF#32, 0x0#32, 0x0#32, 0x0#32, 0x0#32, false⟩,
  ⟨0x1C0A, 1, 1, 0xFFFFFFFF#32, 0x0#32, 0x0#32, 0x0#32, 0x0#32, false⟩,
  ⟨0x1C0B, 1, 1, 0xFFFFFFFF#32, 0x0#32, 0x0#32, 0x0#32, 0x0#32, false⟩,
  ⟨0x1C0C, 1, 1, 0xFFFFFFFF#32, 0x0#32, 0x0#32, 0x0#32, 0x0#32, false⟩,
  ⟨0x1C0D, 1, 1, 0xFFFFFFFF#32, 0x0#32, 0x0#32, 0x0#32, 0x0#32, false⟩]

/-- The map of block tim. -/
def rows_tim : List Row := rows_tim0

/-- Rows of block can, part 0. -/
def rows_can0 : List Row := [
  ⟨0x1D00, 2, 128, 0x0#32, 0xF80003FF#32, 0x0#32, 0x0#32, 0x10000064#32, true⟩,
  ⟨0x1D01, 2, 128, 0x0#32, 0xFFFF7F7F#32, 0x0#32, 0x0#32, 0x13E0F0F#32, true⟩,
  ⟨0x1D02, 2, 128, 0x0#32, 0x1F1F0F0F#32, 0x0#32, 0x0#32, 0x1E0707#32, true⟩,
  ⟨0x1D03, 2, 128, 0x0#32, 0x7F#32, 0x0#32, 0x0#32, 0x0#32, true⟩,
  ⟨0x1D04, 2, 128, 0x33#32, 0x0#32, 0x0#32, 0x0#32, 0x0#32, false⟩,
  ⟨0x1D05, 2, 128, 0x1FF00FF#32, 0x0#32, 0x0#32, 0x0#32, 0x0#32, false⟩,
  ⟨0x1D06, 2, 128, 0x77#32, 0x0#32, 0x0#32, 0x0#32, 0x0#32, false⟩,
  ⟨0x1D07, 2, 128, 0x0#32, 0x0#32, 0x3F#32, 0x0#32, 0x0#32, false⟩,
  ⟨0x1D08, 2, 128, 0x0#32, 0x0#32, 0x0#32, 0x3#32, 0x0#32, false⟩,
  ⟨0x1D09, 2, 128, 0xFFFFFFFF#32, 0x0#32, 0x0#32, 0x0#32, 0x0#32, false⟩,
  ⟨0x1D0A, 2, 128, 0xFFFFFFFF#32, 0x0#32, 0x0#32, 0x0#32, 0x0#32, false⟩,
  ⟨0x1D0B, 2, 128, 0xFFFFFFFF#32, 0x0#32, 0x0#32, 0x0#32, 0x0#32, false⟩,
  ⟨0x1D0C, 2, 128, 0xFFFFFFFF#32, 0x0#32, 0x0#32, 0x0#32, 0x0#32, false⟩,
  ⟨0x1D10, 2, 128, 0xFFFFFFFF#32, 0x0#32, 0x0#32, 0x0#32, 0x0#32, false⟩,
  ⟨0x1D11, 2, 128, 0xFFFFFFFF#32, 0x0#32, 0x0#32, 0x0#32, 0x0#32, false⟩,
  ⟨0x1D12, 2, 128, 0xFFFFFFFF#32, 0x0#32, 0x0#32, 0x0#32, 0x0#32, false⟩]

/-- Rows of block can, part 1. -/
def rows_can1 : List Row := [
  ⟨0x1D13, 2, 128, 0xFFFFFFFF#32, 0x0#32, 0x0#32, 0x0#32, 0x0#32, false⟩,
  ⟨0x1D20, 1, 1, 0x0#32, 0x3F#32, 0x0#32, 0x0#32, 0x0#32, true⟩,
  ⟨0x1D38, 1, 1, 0x0#32, 0x3F#32, 0x0#32, 0x0#32, 0x0#32, true⟩,
  ⟨0x1D50, 1, 1, 0x0#32, 0x3F#32, 0x0#32, 0x0#32, 0x0#32, true⟩,
  ⟨0x1D68, 1, 1, 0x0#32, 0x3F#32, 0x0#32, 0x0#32, 0x0#32, true⟩,
  ⟨0x1DA0, 1, 1, 0x0#32, 0x3F#32, 0x0#32, 0x0#32, 0x0#32, true⟩,
  ⟨0x1DB8, 1, 1, 0x0#32, 0x3F#32, 0x0#32, 0x0#32, 0x0#32, true⟩,
  ⟨0x1DD0, 1, 1, 0x0#32, 0x3F#32, 0x0#32, 0x0#32, 0x0#32, true⟩,
  ⟨0x1DE8, 1, 1, 0x0#32, 0x3F#32, 0x0#32, 0x0#32, 0x0#32, true⟩,
  ⟨0x1D21, 1, 1, 0x0#32, 0xFC00000F#32, 0x0#32, 0x0#32, 0x0#32, false⟩,
  ⟨0x1D39, 1, 1, 0x0#32, 0xFC00000F#32, 0x0#32, 0x0#32, 0x0#32, false⟩,
  ⟨0x1D51, 1, 1, 0x0#32, 0xFC00000F#32, 0x0#32, 0x0#32, 0x0#32, false⟩,
  ⟨0x1D69, 1, 1, 0x0#32, 0xFC00000F#32, 0x0#32, 0x0#32, 0x0#32, false⟩,
  ⟨0x1DA1, 1, 1, 0x0#32, 0xFC00000F#32, 0x0#32, 0x0#32, 0x0#32, false⟩,
  ⟨0x1DB9, 1, 1, 0x0#32, 0xFC00000F#32, 0x0#32, 0x0#32, 0x0#32, false⟩,
  ⟨0x1DD1, 1, 1, 0x0#32, 0xFC00000F#32, 0x0#32, 0x0#32, 0x0#32, false⟩]

/-- Rows of block can, part 2. -/
def rows_can2 : List Row := [
  ⟨0x1DE9, 1, 1, 0x0#32, 0xFC00000F#32, 0x0#32, 0x0#32, 0x0#32, false⟩,
  ⟨0x1D22, 1, 1, 0x0#32, 0x1FFFFFFF#32, 0x0#32, 0x0#32, 0x0#32, false⟩,
  ⟨0x1D3A, 1, 1, 0x0#32, 0x1FFFFFFF#32, 0x0#32, 0x0#32, 0x0#32, false⟩,
  ⟨0x1D52, 1, 1, 0x0#32, 0x1FFFFFFF#32, 0x0#32, 0x0#32, 0x0#32, false⟩,
  ⟨0x1D6A, 1, 1, 0x0#32, 0x1FFFFFFF#32, 0x0#32, 0x0#32, 0x0#32, false⟩,
  ⟨0x1DA2, 1, 1, 0x0#32, 0x1FFFFFFF#32, 0x0#32, 0x0#32, 0x0#32, false⟩,
  ⟨0x1DBA, 1, 1, 0x0#32, 0x1FFFFFFF#32, 0x0#32, 0x0#32, 0x0#32, false⟩,
  ⟨0x1DD2, 1, 1, 0x0#32, 0x1FFFFFFF#32, 0x0#32, 0x0#32, 0x0#32, false⟩,
  ⟨0x1DEA, 1, 1, 0x0#32, 0x1FFFFFFF#32, 0x0#32, 0x0#32, 0x0#32, false⟩,
  ⟨0x1D23, 1, 1, 0x0#32, 0x1FFFFFFF#32, 0x0#32, 0x0#32, 0x1FFFFFFF#32, false⟩,
  ⟨0x1D3B, 1, 1, 0x0#32, 0x1FFFFFFF#32, 0x0#32, 0x0#32, 0x1FFFFFFF#32, false⟩,
  ⟨0x1D53, 1, 1, 0x0#32, 0x1FFFFFFF#32, 0x0#32, 0x0#32, 0x1FFFFFFF#32, false⟩,
  ⟨0x1D6B, 1, 1, 0x0#32, 0x1FFFFFFF#32, 0x0#32, 0x0#32, 0x1FFFFFFF#32, false⟩,
  ⟨0x1DA3, 1, 1, 0x0#32, 0x1FFFFFFF#32, 0x0#32, 0x0#32, 0x1FFFFFFF#32, false⟩,
  ⟨0x1DBB, 1, 1, 0x0#32, 0x1FFFFFFF#32, 0x0#32, 0x0#32, 0x1FFFFFFF#32, false⟩,
  ⟨0x1DD3, 1, 1, 0x0#32, 0x1FFFFFFF#32, 0x0#32, 0x0#32, 0x1FFFFFFF#32, false⟩]

/-- Rows of block can, part 3. -/
def rows_can3 : List Row := [
  ⟨0x1DEB, 1, 1, 0x0#32, 0x1FFFFFFF#32, 0x0#32, 0x0#32, 0x1FFFFFFF#32, false⟩,
  ⟨0x1D24, 1, 1, 0xFFF0FF00#32, 0x0#32, 0x0#32, 0x0#32, 0x0#32, false⟩,
  ⟨0x1D3C, 1, 1, 0xFFF0FF00#32, 0x0#32, 0x0#32, 0x0#32, 0x0#32, false⟩,
  ⟨0x1D54, 1, 1, 0xFFF0FF00#32, 0x0#32, 0x0#32, 0x0#32, 0x0#32, false⟩,
  ⟨0x1D6C, 1, 1, 0xFFF0FF00#32, 0x0#32, 0x0#32, 0x0#32, 0x0#32, false⟩,
  ⟨0x1DA4, 1, 1, 0xFFF0FF00#32, 0x0#32, 0x0#32, 0x0#32, 0x0#32, false⟩,
  ⟨0x1DBC, 1, 1, 0xFFF0FF00#32, 0x0#32, 0x0#32, 0x0#32, 0x0#32, false⟩,
  ⟨0x1DD4, 1, 1, 0xFFF0FF00#32, 0x0#32, 0x0#32, 0x0#32, 0x0#32, false⟩,
  ⟨0x1DEC, 1, 1, 0xFFF0FF00#32, 0x0#32, 0x0#32, 0x0#32, 0x0#32, false⟩,
  ⟨0x1D25, 1, 1, 0x0#32, 0x0#32, 0x0#32, 0x7FF#32, 0x0#32, false⟩,
  ⟨0x1D3D, 1, 1, 0x0#32, 0x0#32, 0x0#32, 0x7FF#32, 0x0#32, false⟩,
  ⟨0x1D55, 1, 1, 0x0#32, 0x0#32, 0x0#32, 0x7FF#32, 0x0#32, false⟩,
  ⟨0x1D6D, 1, 1, 0x0#32, 0x0#32, 0x0#32, 0x7FF#32, 0x0#32, false⟩,
  ⟨0x1DA5, 1, 1, 0x0#32, 0x0#32, 0x0#32, 0x7FF#32, 0x0#32, false⟩,
  ⟨0x1DBD, 1, 1, 0x0#32, 0x0#32, 0x0#32, 0x7FF#32, 0x0#32, false⟩,
  ⟨0x1DD5, 1, 1, 0x0#32, 0x0#32, 0x0#32, 0x7FF#32, 0x0#32, false⟩]

/-- Rows of block can, part 4. -/
def rows_can4 : List Row := [
  ⟨0x1DED, 1, 1, 0x0#32, 0x0#32, 0x0#32, 0x7FF#32, 0x0#32, false⟩,
  ⟨0x1D28, 16, 1, 0x0#32, 0xFFFFFFFF#32, 0x0#32, 0x0#32, 0x0#32, false⟩,
  ⟨0x1D40, 16, 1, 0x0#32, 0xFFFFFFFF#32, 0x0#32, 0x0#32, 0x0#32, false⟩,
  ⟨0x1D58, 16, 1, 0x0#32, 0xFFFFFFFF#32, 0x0#32, 0x0#32, 0x0#32, false⟩,
  ⟨0x1D70, 16, 1, 0x0#32, 0xFFFFFFFF#32, 0x0#32, 0x0#32, 0x0#32, false⟩,
  ⟨0x1DA8, 16, 1, 0x0#32, 0xFFFFFFFF#32, 0x0#32, 0x0#32, 0x0#32, false⟩,
  ⟨0x1DC0, 16, 1, 0x0#32, 0xFFFFFFFF#32, 0x0#32, 0x0#32, 0x0#32, false⟩,
  ⟨0x1DD8, 16, 1, 0x0#32, 0xFFFFFFFF#32, 0x0#32, 0x0#32, 0x0#32, false⟩,
  ⟨0x1DF0, 16, 1, 0x0#32, 0xFFFFFFFF#32, 0x0#32, 0x0#32, 0x0#32, false⟩]

/-- The map of block can. -/
def rows_can : List Row := rows_can0 ++ rows_can1 ++ rows_can2 ++ rows_can3 ++ rows_can4

/-- Rows of block vn, part 0. -/
def rows_vn0 : List Row := [
  ⟨0x1E00, 1, 1, 0x3EF#32, 0x0#32, 0x0#32, 0x0#32, 0x0#32, false⟩,
  ⟨0x1E01, 1, 1, 0x0#32, 0xFF00FFFF#32, 0x0#32, 0x0#32, 0x180003E8#32, true⟩,
  ⟨0x1E02, 1, 1, 0x0#32, 0x0#32, 0x0#32, 0x1#32, 0x0#32, false⟩,
  ⟨0x1E03, 1, 1, 0xFFFF#32, 0x0#32, 0x0#32, 0x0#32, 0x0#32, false⟩,
  ⟨0x1E04, 1, 1, 0x0#32, 0x0#32, 0x3F#32, 0x0#32, 0x0#32, false⟩,
  ⟨0x1E05, 1, 1, 0xFFFFFFFF#32, 0x0#32, 0x0#32, 0x0#32, 0x0#32, false⟩,
  ⟨0x1E06, 1, 1, 0xFFFFFFFF#32, 0x0#32, 0x0#32, 0x0#32, 0x0#32, false⟩,
  ⟨0x1E07, 1, 1, 0xFFFFFFE0#32, 0x0#32, 0x0#32, 0x0#32, 0x0#32, false⟩,
  ⟨0x1E08, 1, 1, 0xFFFFFFFF#32, 0x0#32, 0x0#32, 0x0#32, 0x0#32, false⟩,
  ⟨0x1E09, 1, 1, 0xFFFFFFFF#32, 0x0#32, 0x0#32, 0x0#32, 0x0#32, false⟩,
  ⟨0x1E0A, 1, 1, 0xFFFFFFFF#32, 0x0#32, 0x0#32, 0x0#32, 0x0#32, false⟩,
  ⟨0x1E10, 6, 1, 0x0#32, 0xFFFFFFFF#32, 0x0#32, 0x0#32, 0x0#32, true⟩,
  ⟨0x1E18, 10, 1, 0x0#32, 0xFFFFFFFF#32, 0x0#32, 0x0#32, 0x0#32, true⟩]

/-- The map of block vn. -/
def rows_vn : List Row := rows_vn0

/-- Rows of block prot, part 0. -/
def rows_prot0 : List Row := [
  ⟨0x1F00, 1, 1, 0x60000000#32, 0x0#32, 0x90000000#32, 0x0#32, 0x0#32, false⟩,
  ⟨0x1F01, 1, 1, 0xFFFFFFFF#32, 0x0#32, 0x0#32, 0x0#32, 0x0#32, false⟩,
  ⟨0x1F02, 5, 1, 0xFFFFFFFF#32, 0x0#32, 0x0#32, 0x0#32, 0x0#32, false⟩,
  ⟨0x1F08, 1, 1, 0xFFDFFFFF#32, 0x0#32, 0x0#32, 0x0#32, 0x0#32, false⟩,
  ⟨0x1F09, 1, 1, 0x7FFFFFF#32, 0x0#32, 0x0#32, 0x0#32, 0x0#32, false⟩,
  ⟨0x1F0A, 1, 1, 0xFFFFFFFF#32, 0x0#32, 0x0#32, 0x0#32, 0x0#32, false⟩,
  ⟨0x1F0B, 1, 1, 0xFFFF#32, 0x0#32, 0x0#32, 0x0#32, 0x0#32, false⟩,
  ⟨0x1F10, 1, 1, 0x0#32, 0x7#32, 0x0#32, 0x0#32, 0x0#32, false⟩,
  ⟨0x1F40, 32, 2, 0x0#32, 0xFE00FFFF#32, 0x0#32, 0x0#32, 0x0#32, false⟩,
  ⟨0x1F41, 32, 2, 0x0#32, 0xFFFFFFFF#32, 0x0#32, 0x0#32, 0x0#32, false⟩]

/-- The map of block prot. -/
def rows_prot : List Row := rows_prot0

/-- Rows of block fc, part 0. -/
def rows_fc0 : List Row := [
  ⟨0x2000, 1, 1, 0xC07F0000#32, 0x0#32, 0x20000000#32, 0x0#32, 0x0#32, false⟩,
  ⟨0x2001, 1, 1, 0x0#32, 0x7F007F#32, 0x0#32, 0x0#32, 0x7F007F#32, true⟩,
  ⟨0x2002, 2, 1, 0x0#32, 0x0#32, 0xFFFFFFFF#32, 0x0#32, 0x0#32, false⟩,
  ⟨0x2004, 1, 1, 0x8000003F#32, 0x0#32, 0x0#32, 0x0#32, 0x0#32, false⟩,
  ⟨0x2005, 1, 1, 0xFFFFFFFF#32, 0x0#32, 0x0#32, 0x0#32, 0x0#32, false⟩,
  ⟨0x2006, 1, 1, 0xFFFFFFFF#32, 0x0#32, 0x0#32, 0x0#32, 0x0#32, false⟩,
  ⟨0x2007, 1, 1, 0x8000003F#32, 0x0#32, 0x0#32, 0x0#32, 0x0#32, false⟩,
  ⟨0x2008, 1, 1, 0xFFFFFFFF#32, 0x0#32, 0x0#32, 0x0#32, 0x0#32, false⟩,
  ⟨0x2009, 1, 1, 0xFFFFFFFF#32, 0x0#32, 0x0#32, 0x0#32, 0x0#32, false⟩,
  ⟨0x200A, 1, 1, 0xFFFFFFFF#32, 0x0#32, 0x0#32, 0x0#32, 0x0#32, false⟩,
  ⟨0x200B, 1, 1, 0x0#32, 0x0#32, 0x0#32, 0x7#32, 0x0#32, false⟩,
  ⟨0x2010, 8, 1, 0x0#32, 0x77777777#32, 0x0#32, 0x0#32, 0x11111111#32, true⟩,
  ⟨0x2020, 1, 1, 0x0#32, 0x0#32, 0x0#32, 0x800700FF#32, 0x0#32, false⟩,
  ⟨0x2021, 1, 1, 0xC007FFFF#32, 0x0#32, 0x0#32, 0x0#32, 0x0#32, false⟩,
  ⟨0x2030, 64, 1, 0xFFFFFFFF#32, 0x0#32, 0x0#32, 0x0#32, 0x0#32, false⟩]

/-- The map of block fc. -/
def rows_fc : List Row := rows_fc0

/-- Rows of block rec, part 0. -/
def rows_rec0 : List Row := [
  ⟨0x2100, 1, 1, 0xC0007FFF#32, 0x0#32, 0x20000000#32, 0x0#32, 0x0#32, false⟩,
  ⟨0x2101, 1, 1, 0x0#32, 0xFF00FFFF#32, 0x0#32, 0x0#32, 0x3C000014#32, true⟩,
  ⟨0x2102, 1, 1, 0x0#32, 0x0#32, 0x0#32, 0x7#32, 0x0#32, false⟩,
  ⟨0x2103, 1, 1, 0xFFFFFFFF#32, 0x0#32, 0x0#32, 0x0#32, 0x0#32, false⟩,
  ⟨0x2104, 1, 1, 0xFFFFFFFF#32, 0x0#32, 0x0#32, 0x0#32, 0x0#32, false⟩,
  ⟨0x2105, 1, 1, 0xFFFFFFFF#32, 0x0#32, 0x0#32, 0x0#32, 0x0#32, false⟩,
  ⟨0x2106, 1, 1, 0xFFFFFFFF#32, 0x0#32, 0x0#32, 0x0#32, 0x0#32, false⟩,
  ⟨0x2107, 1, 1, 0xFFFFFFFF#32, 0x0#32, 0x0#32, 0x0#32, 0x0#32, false⟩,
  ⟨0x2110, 8, 1, 0x0#32, 0xFFFFFFFF#32, 0x0#32, 0x0#32, 0x0#32, true⟩,
  ⟨0x2120, 1, 1, 0x0#32, 0x0#32, 0x0#32, 0xFFFF#32, 0x0#32, false⟩,
  ⟨0x2121, 3, 1, 0x0#32, 0xFFFFFFFF#32, 0x0#32, 0x0#32, 0x0#32, false⟩]

/-- The map of block rec. -/
def rows_rec : List Row := rows_rec0

/-- Rows of block sr, part 0. -/
def rows_sr0 : List Row := [
  ⟨0x2200, 1, 1, 0xFFFF#32, 0x0#32, 0x80000000#32, 0x0#32, 0x0#32, false⟩,
  ⟨0x2201, 1, 1, 0xFFFFFFFF#32, 0x0#32, 0x0#32, 0x0#32, 0x0#32, false⟩,
  ⟨0x2210, 32, 4, 0xC0FFFFFF#32, 0x0#32, 0x0#32, 0x0#32, 0x0#32, false⟩,
  ⟨0x2211, 32, 4, 0xFFFF#32, 0x0#32, 0x0#32, 0x0#32, 0x0#32, false⟩,
  ⟨0x2212, 32, 4, 0x0#32, 0xFFFF#32, 0x0#32, 0x0#32, 0x0#32, false⟩,
  ⟨0x2213, 32, 4, 0xFFFFFFFF#32, 0x0#32, 0x0#32, 0x0#32, 0x0#32, false⟩,
  ⟨0x2290, 8, 8, 0x0#32, 0x73#32, 0x0#32, 0x0#32, 0x0#32, true⟩,
  ⟨0x2291, 8, 8, 0x0#32, 0xFFFFFFFF#32, 0x0#32, 0x0#32, 0x0#32, false⟩,
  ⟨0x2292, 8, 8, 0xFFFFFFFF#32, 0x0#32, 0x0#32, 0x0#32, 0x0#32, false⟩,
  ⟨0x2293, 8, 8, 0x0#32, 0x0#32, 0x0#32, 0xFF#32, 0x0#32, false⟩,
  ⟨0x2294, 8, 8, 0x0#32, 0x0#32, 0x0#32, 0xFFFF#32, 0x0#32, false⟩,
  ⟨0x2295, 8, 8, 0x0#32, 0x0#32, 0x0#32, 0xFFFFFFFF#32, 0x0#32, false⟩]

/-- The map of block sr. -/
def rows_sr : List Row := rows_sr0

/-- Rows of block upd, part 0. -/
def rows_upd0 : List Row := [
  ⟨0x2300, 1, 1, 0xFE0FF000#32, 0x0#32, 0x0#32, 0x0#32, 0x0#32, false⟩,
  ⟨0x2301, 1, 1, 0xFFFFFFFF#32, 0x0#32, 0x0#32, 0x0#32, 0x0#32, false⟩,
  ⟨0x2302, 1, 1, 0xFFFFFFFF#32, 0x0#32, 0x0#32, 0x0#32, 0x0#32, false⟩,
  ⟨0x2303, 1, 1, 0xFFFFFFFF#32, 0x0#32, 0x0#32, 0x0#32, 0x0#32, false⟩,
  ⟨0x2304, 1, 1, 0xFFFFFFFF#32, 0x0#32, 0x0#32, 0x0#32, 0x0#32, false⟩,
  ⟨0x2310, 8, 1, 0xFFFFFFFF#32, 0x0#32, 0x0#32, 0x0#32, 0x0#32, false⟩,
  ⟨0x2320, 1, 1, 0xF0000000#32, 0x0#32, 0xF#32, 0x0#32, 0x0#32, false⟩,
  ⟨0x2321, 1, 1, 0x0#32, 0x1#32, 0x0#32, 0x0#32, 0x1#32, true⟩,
  ⟨0x2322, 1, 1, 0xFFFFFFFF#32, 0x0#32, 0x0#32, 0x0#32, 0x0#32, false⟩]

/-- The map of block upd. -/
def rows_upd : List Row := rows_upd0

/-- The rows of the block an index lies in (spec/00 Table 0-5). -/
def blockRows (i : Nat) : List Row :=
  if i < 0x100 then rows_idn else
  if i < 0x200 then rows_clk else
  if i < 0x400 then rows_sch else
  if i < 0x500 then rows_rx else
  if i < 0x600 then rows_oc else
  if i < 0x1000 then rows_le else
  if i < 0x1400 then rows_pair else
  if i < 0x1500 then rows_mb else
  if i < 0x1800 then rows_lio else
  if i < 0x1C00 then rows_ring else
  if i < 0x1D00 then rows_tim else
  if i < 0x1E00 then rows_can else
  if i < 0x1F00 then rows_vn else
  if i < 0x2000 then rows_prot else
  if i < 0x2100 then rows_fc else
  if i < 0x2200 then rows_rec else
  if i < 0x2300 then rows_sr else
  if i < 0x2400 then rows_upd else
  []

/-- Whether the index is one of the row's words. -/
def Row.has (r : Row) (i : Nat) : Bool := r.base ≤ i && (i - r.base) % r.stride == 0 && (i - r.base) / r.stride < r.count

/-- The row of a listed word; none for a reserved index (R9). -/
def rowOf (i : Nat) : Option Row := (blockRows i).find? (·.has i)

/-- The value of a word at reset: the map's, and for the words that differ by unit the unit's (spec/02 Table 2-8, R64; spec/12 R385;
spec/14 R425). -/
def resetOf (i : Nat) : Word :=
  if i = 0x0000 then 0x00880000#32 ||| (BitVec.ofNat 32 (Config.hwRev.toNat * 256))
  else if i = 0x0001 then Config.serial.setWidth 32
  else if i = 0x0002 then (Config.serial >>> 32).setWidth 32
  else if i = 0x1E0A then Config.waveformId
  else if 0x1858 ≤ i && i < 0x1860 then
    (if i % 2 = 0 then (Config.mac ((i - 0x1858) / 2)).setWidth 32 else ((Config.mac ((i - 0x1858) / 2)) >>> 32).setWidth 32)
  else match rowOf i with
    | some r => r.reset
    | none => 0#32

/-- MOD_ID (spec/02 R64). -/
abbrev W.MOD_ID : Nat := 0x0
/-- SERIAL_LO (spec/02 R64). -/
abbrev W.SERIAL_LO : Nat := 0x1
/-- SERIAL_HI (spec/02 R64). -/
abbrev W.SERIAL_HI : Nat := 0x2
/-- SLOT_STAT (spec/02 R64). -/
abbrev W.SLOT_STAT : Nat := 0x3
/-- MOD_STAT (spec/02 R64). -/
abbrev W.MOD_STAT : Nat := 0x4
/-- RESET_CAUSE (spec/02 R64). -/
abbrev W.RESET_CAUSE : Nat := 0x5
/-- START_INFO (spec/02 R64). -/
abbrev W.START_INFO : Nat := 0x6
/-- BOOT_COUNT (spec/02 R64). -/
abbrev W.BOOT_COUNT : Nat := 0x7
/-- UPTIME_S (spec/02 R64). -/
abbrev W.UPTIME_S : Nat := 0x8
/-- OUTAGE_MS (spec/02 R64). -/
abbrev W.OUTAGE_MS : Nat := 0x9
/-- RESTART_CFG (spec/02 R65). -/
abbrev W.RESTART_CFG : Nat := 0x100
/-- DOM_RUN (spec/02 R65). -/
abbrev W.DOM_RUN : Nat := 0x101
/-- DOM_PARK (spec/02 R65). -/
abbrev W.DOM_PARK : Nat := 0x102
/-- DOM_LATE (spec/02 R65). -/
abbrev W.DOM_LATE : Nat := 0x103
/-- DOM_FAIL (spec/02 R65). -/
abbrev W.DOM_FAIL : Nat := 0x104
/-- LAST_LATE (spec/02 R65). -/
abbrev W.LAST_LATE : Nat := 0x105
/-- FEED_A_MV (spec/02 R65). -/
abbrev W.FEED_A_MV : Nat := 0x106
/-- FEED_B_MV (spec/02 R65). -/
abbrev W.FEED_B_MV : Nat := 0x107
/-- HOLDUP (spec/02 R65). -/
abbrev W.HOLDUP : Nat := 0x108
/-- BOARD_TEMP (spec/02 R65). -/
abbrev W.BOARD_TEMP : Nat := 0x109
/-- PWR_STAT (spec/02 R65). -/
abbrev W.PWR_STAT : Nat := 0x10A
/-- AON_STAT (spec/02 R65). -/
abbrev W.AON_STAT : Nat := 0x10B
/-- JOURNAL_STAT (spec/02 R65). -/
abbrev W.JOURNAL_STAT : Nat := 0x10C
/-- SCH_STAT (spec/05 R169). -/
abbrev W.SCH_STAT : Nat := 0x200
/-- TICK_LO (spec/05 R169). -/
abbrev W.TICK_LO : Nat := 0x201
/-- TICK_HI (spec/05 R169). -/
abbrev W.TICK_HI : Nat := 0x202
/-- LP_LOAD (spec/05 R169). -/
abbrev W.LP_LOAD : Nat := 0x203
/-- BUDGET_STAT (spec/05 R169). -/
abbrev W.BUDGET_STAT : Nat := 0x204
/-- EVT_DROP (spec/05 R169). -/
abbrev W.EVT_DROP : Nat := 0x205
/-- TIMER_ARM (spec/05 R169). -/
abbrev W.TIMER_ARM : Nat := 0x206
/-- STAT_SEL (spec/05 R169). -/
abbrev W.STAT_SEL : Nat := 0x210
/-- SEL_LAST_NS (spec/05 R169). -/
abbrev W.SEL_LAST_NS : Nat := 0x211
/-- SEL_MAX_NS (spec/05 R169). -/
abbrev W.SEL_MAX_NS : Nat := 0x212
/-- SEL_LP_NS (spec/05 R169). -/
abbrev W.SEL_LP_NS : Nat := 0x213
/-- SEL_DELAY_NS (spec/05 R169). -/
abbrev W.SEL_DELAY_NS : Nat := 0x214
/-- SEL_CYCLES (spec/05 R169). -/
abbrev W.SEL_CYCLES : Nat := 0x215
/-- TCFG (spec/05 R169). -/
abbrev W.TCFG (n : Nat) : Nat := (0x240 + 4 * n)
/-- TPER (spec/05 R169). -/
abbrev W.TPER (n : Nat) : Nat := (0x241 + 4 * n)
/-- TTRIG (spec/05 R169). -/
abbrev W.TTRIG (n : Nat) : Nat := (0x241 + 4 * n)
/-- TWDOG (spec/05 R169). -/
abbrev W.TWDOG (n : Nat) : Nat := (0x242 + 4 * n)
/-- TSTAT (spec/05 R169). -/
abbrev W.TSTAT (n : Nat) : Nat := (0x243 + 4 * n)
/-- RX_STAT (spec/06 R195). -/
abbrev W.RX_STAT : Nat := 0x400
/-- RX_CFG (spec/06 R195). -/
abbrev W.RX_CFG : Nat := 0x401
/-- MM_TOTAL (spec/06 R195). -/
abbrev W.MM_TOTAL : Nat := 0x402
/-- TF_TOTAL (spec/06 R195). -/
abbrev W.TF_TOTAL : Nat := 0x403
/-- PF_TOTAL (spec/06 R195). -/
abbrev W.PF_TOTAL : Nat := 0x404
/-- CAP_INFO (spec/06 R195). -/
abbrev W.CAP_INFO : Nat := 0x408
/-- CAP_INDEX (spec/06 R195). -/
abbrev W.CAP_INDEX : Nat := 0x409
/-- LAST_MM_INFO (spec/06 R195). -/
abbrev W.LAST_MM_INFO : Nat := 0x40C
/-- LAST_MM_INDEX (spec/06 R195). -/
abbrev W.LAST_MM_INDEX : Nat := 0x40D
/-- CAP_CTRL (spec/06 R195). -/
abbrev W.CAP_CTRL : Nat := 0x40E
/-- XMODE (spec/06 R195). -/
abbrev W.XMODE (n : Nat) : Nat := (0x410 + 1 * n)
/-- OC_STAT (spec/07 R215). -/
abbrev W.OC_STAT : Nat := 0x500
/-- OC_CFG (spec/07 R215). -/
abbrev W.OC_CFG : Nat := 0x501
/-- OC_VER_RUN (spec/07 R215). -/
abbrev W.OC_VER_RUN : Nat := 0x502
/-- OC_VER_NEW (spec/07 R215). -/
abbrev W.OC_VER_NEW : Nat := 0x503
/-- OC_COUNT (spec/07 R215). -/
abbrev W.OC_COUNT : Nat := 0x504
/-- OC_CARRIED (spec/07 R215). -/
abbrev W.OC_CARRIED : Nat := 0x505
/-- OC_INIT (spec/07 R215). -/
abbrev W.OC_INIT : Nat := 0x506
/-- OC_DROPPED (spec/07 R215). -/
abbrev W.OC_DROPPED : Nat := 0x507
/-- OC_CONV (spec/07 R215). -/
abbrev W.OC_CONV : Nat := 0x508
/-- OC_SW_NS (spec/07 R215). -/
abbrev W.OC_SW_NS : Nat := 0x509
/-- OC_TRIAL_DIFF (spec/07 R215). -/
abbrev W.OC_TRIAL_DIFF : Nat := 0x50A
/-- OC_TRIAL_SAME (spec/07 R215). -/
abbrev W.OC_TRIAL_SAME : Nat := 0x50B
/-- OC_REJ_INDEX (spec/07 R215). -/
abbrev W.OC_REJ_INDEX : Nat := 0x50C
/-- OC_FIRST (spec/07 R215). -/
abbrev W.OC_FIRST (n : Nat) : Nat := (0x510 + 1 * n)
/-- LE_STAT (spec/08 R248). -/
abbrev W.LE_STAT : Nat := 0x600
/-- LE_LOAD (spec/08 R248). -/
abbrev W.LE_LOAD : Nat := 0x601
/-- LE_MM_TOTAL (spec/08 R248). -/
abbrev W.LE_MM_TOTAL : Nat := 0x602
/-- LE_FLT_TOTAL (spec/08 R248). -/
abbrev W.LE_FLT_TOTAL : Nat := 0x603
/-- LE_LATE_TOTAL (spec/08 R248). -/
abbrev W.LE_LATE_TOTAL : Nat := 0x604
/-- LE_SWAPS_1S (spec/08 R248). -/
abbrev W.LE_SWAPS_1S : Nat := 0x605
/-- LE_LAST (spec/08 R248). -/
abbrev W.LE_LAST : Nat := 0x606
/-- LE_CTRL (spec/08 R248). -/
abbrev W.LE_CTRL : Nat := 0x607
/-- LE_ALM (spec/08 R248). -/
abbrev W.LE_ALM (n : Nat) : Nat := (0x700 + 1 * n)
/-- LE_FLT (spec/08 R248). -/
abbrev W.LE_FLT (n : Nat) : Nat := (0x780 + 1 * n)
/-- PAIR_STAT (spec/09 R286). -/
abbrev W.PAIR_STAT : Nat := 0x1000
/-- PAIR_CFG (spec/09 R286). -/
abbrev W.PAIR_CFG : Nat := 0x1001
/-- PAIR_CTRL (spec/09 R286). -/
abbrev W.PAIR_CTRL : Nat := 0x1002
/-- EPOCH (spec/09 R286). -/
abbrev W.EPOCH : Nat := 0x1003
/-- EPOCH_SEEN (spec/09 R286). -/
abbrev W.EPOCH_SEEN : Nat := 0x1004
/-- TAKEOVER_CNT (spec/09 R286). -/
abbrev W.TAKEOVER_CNT : Nat := 0x1005
/-- LAST_TAKEOVER (spec/09 R286). -/
abbrev W.LAST_TAKEOVER : Nat := 0x1006
/-- LAST_KERF_NS (spec/09 R286). -/
abbrev W.LAST_KERF_NS : Nat := 0x1007
/-- SYNC_INFO (spec/09 R286). -/
abbrev W.SYNC_INFO : Nat := 0x1008
/-- HASH_SAME (spec/09 R286). -/
abbrev W.HASH_SAME : Nat := 0x1009
/-- HASH_DIFF (spec/09 R286). -/
abbrev W.HASH_DIFF : Nat := 0x100A
/-- FWD_TICK_MAX (spec/09 R286). -/
abbrev W.FWD_TICK_MAX : Nat := 0x100B
/-- FWD_1MS_MAX (spec/09 R286). -/
abbrev W.FWD_1MS_MAX : Nat := 0x100C
/-- DT_STAT (spec/09 R286). -/
abbrev W.DT_STAT : Nat := 0x100D
/-- DT_ERR (spec/09 R286). -/
abbrev W.DT_ERR : Nat := 0x100E
/-- RESYNC_STAT (spec/09 R286). -/
abbrev W.RESYNC_STAT : Nat := 0x100F
/-- KERF_DROPS (spec/09 R286). -/
abbrev W.KERF_DROPS : Nat := 0x1010
/-- PAIR_EVT (spec/09 R286). -/
abbrev W.PAIR_EVT : Nat := 0x1011
/-- MB_STAT (spec/10 R323). -/
abbrev W.MB_STAT : Nat := 0x1400
/-- MB_SEQ (spec/10 R323). -/
abbrev W.MB_SEQ : Nat := 0x1401
/-- MB_PTP_LO (spec/10 R323). -/
abbrev W.MB_PTP_LO : Nat := 0x1402
/-- MB_PTP_HI (spec/10 R323). -/
abbrev W.MB_PTP_HI : Nat := 0x1403
/-- MRT_ID (spec/10 R323). -/
abbrev W.MRT_ID : Nat := 0x1404
/-- FW_CRC (spec/10 R323). -/
abbrev W.FW_CRC : Nat := 0x1405
/-- PARAM_CRC (spec/10 R323). -/
abbrev W.PARAM_CRC : Nat := 0x1406
/-- SEAL_CNT (spec/10 R323). -/
abbrev W.SEAL_CNT : Nat := 0x1407
/-- AUDIT_STAT (spec/10 R323). -/
abbrev W.AUDIT_STAT : Nat := 0x1408
/-- MRT_TIME_LO (spec/10 R323). -/
abbrev W.MRT_TIME_LO : Nat := 0x1409
/-- MRT_TIME_HI (spec/10 R323). -/
abbrev W.MRT_TIME_HI : Nat := 0x140A
/-- REQ_RESP (spec/10 R323). -/
abbrev W.REQ_RESP : Nat := 0x140B
/-- REC_HEAD (spec/10 R323). -/
abbrev W.REC_HEAD : Nat := 0x140C
/-- RUN_STAT (spec/10 R323). -/
abbrev W.RUN_STAT (n : Nat) : Nat := (0x1410 + 32 * n)
/-- RUN_FREQ_MHZ (spec/10 R323). -/
abbrev W.RUN_FREQ_MHZ (n : Nat) : Nat := (0x1411 + 32 * n)
/-- RUN_PHASE (spec/10 R323). -/
abbrev W.RUN_PHASE (n : Nat) : Nat := (0x1412 + 32 * n)
/-- RUN_ERR_PULSES (spec/10 R323). -/
abbrev W.RUN_ERR_PULSES (n : Nat) : Nat := (0x1413 + 32 * n)
/-- RUN_PULSES_LO (spec/10 R323). -/
abbrev W.RUN_PULSES_LO (n : Nat) : Nat := (0x1414 + 32 * n)
/-- RUN_PULSES_HI (spec/10 R323). -/
abbrev W.RUN_PULSES_HI (n : Nat) : Nat := (0x1415 + 32 * n)
/-- RUN_IV_LO (spec/10 R323). -/
abbrev W.RUN_IV_LO (n : Nat) : Nat := (0x1416 + 32 * n)
/-- RUN_IV_HI (spec/10 R323). -/
abbrev W.RUN_IV_HI (n : Nat) : Nat := (0x1417 + 32 * n)
/-- RUN_GSV_LO (spec/10 R323). -/
abbrev W.RUN_GSV_LO (n : Nat) : Nat := (0x1418 + 32 * n)
/-- RUN_GSV_HI (spec/10 R323). -/
abbrev W.RUN_GSV_HI (n : Nat) : Nat := (0x1419 + 32 * n)
/-- RUN_MASS_LO (spec/10 R323). -/
abbrev W.RUN_MASS_LO (n : Nat) : Nat := (0x141A + 32 * n)
/-- RUN_MASS_HI (spec/10 R323). -/
abbrev W.RUN_MASS_HI (n : Nat) : Nat := (0x141B + 32 * n)
/-- RUN_ALM_GSV_LO (spec/10 R323). -/
abbrev W.RUN_ALM_GSV_LO (n : Nat) : Nat := (0x141C + 32 * n)
/-- RUN_ALM_GSV_HI (spec/10 R323). -/
abbrev W.RUN_ALM_GSV_HI (n : Nat) : Nat := (0x141D + 32 * n)
/-- RUN_IV_RATE (spec/10 R323). -/
abbrev W.RUN_IV_RATE (n : Nat) : Nat := (0x141E + 32 * n)
/-- RUN_GSV_RATE (spec/10 R323). -/
abbrev W.RUN_GSV_RATE (n : Nat) : Nat := (0x141F + 32 * n)
/-- RUN_MASS_RATE (spec/10 R323). -/
abbrev W.RUN_MASS_RATE (n : Nat) : Nat := (0x1420 + 32 * n)
/-- RUN_PRESS (spec/10 R323). -/
abbrev W.RUN_PRESS (n : Nat) : Nat := (0x1421 + 32 * n)
/-- RUN_TEMP (spec/10 R323). -/
abbrev W.RUN_TEMP (n : Nat) : Nat := (0x1422 + 32 * n)
/-- RUN_DENS (spec/10 R323). -/
abbrev W.RUN_DENS (n : Nat) : Nat := (0x1423 + 32 * n)
/-- RUN_CTL (spec/10 R323). -/
abbrev W.RUN_CTL (n : Nat) : Nat := (0x1424 + 32 * n)
/-- RUN_CPL (spec/10 R323). -/
abbrev W.RUN_CPL (n : Nat) : Nat := (0x1425 + 32 * n)
/-- RUN_MF (spec/10 R323). -/
abbrev W.RUN_MF (n : Nat) : Nat := (0x1426 + 32 * n)
/-- RUN_KF (spec/10 R323). -/
abbrev W.RUN_KF (n : Nat) : Nat := (0x1427 + 32 * n)
/-- RUN_REV_PULSES (spec/10 R323). -/
abbrev W.RUN_REV_PULSES (n : Nat) : Nat := (0x1428 + 32 * n)
/-- RUN_BATCH_NO (spec/10 R323). -/
abbrev W.RUN_BATCH_NO (n : Nat) : Nat := (0x1429 + 32 * n)
/-- PRV_STAT (spec/10 R323). -/
abbrev W.PRV_STAT : Nat := 0x1450
/-- PRV_NI_LAST (spec/10 R323). -/
abbrev W.PRV_NI_LAST : Nat := 0x1451
/-- PRV_NI_MEAN (spec/10 R323). -/
abbrev W.PRV_NI_MEAN : Nat := 0x1452
/-- PRV_REPEAT (spec/10 R323). -/
abbrev W.PRV_REPEAT : Nat := 0x1453
/-- PRV_MF (spec/10 R323). -/
abbrev W.PRV_MF : Nat := 0x1454
/-- MA_UA (spec/10 R323). -/
abbrev W.MA_UA (n : Nat) : Nat := (0x1460 + 4 * n)
/-- MA_STAT (spec/10 R323). -/
abbrev W.MA_STAT (n : Nat) : Nat := (0x1461 + 4 * n)
/-- HART_PV (spec/10 R323). -/
abbrev W.HART_PV (n : Nat) : Nat := (0x1462 + 4 * n)
/-- REC (spec/10 R323). -/
abbrev W.REC (n : Nat) : Nat := (0x1480 + 1 * n)
/-- PTN_STAT (spec/10 R323). -/
abbrev W.PTN_STAT : Nat := 0x14C0
/-- PTN_MRT_ID (spec/10 R323). -/
abbrev W.PTN_MRT_ID : Nat := 0x14C1
/-- PTN_FW_CRC (spec/10 R323). -/
abbrev W.PTN_FW_CRC : Nat := 0x14C2
/-- PTN_SEAL_CNT (spec/10 R323). -/
abbrev W.PTN_SEAL_CNT : Nat := 0x14C3
/-- PTN_GSV0_LO (spec/10 R323). -/
abbrev W.PTN_GSV0_LO : Nat := 0x14C4
/-- PTN_GSV0_HI (spec/10 R323). -/
abbrev W.PTN_GSV0_HI : Nat := 0x14C5
/-- PTN_MASS0_LO (spec/10 R323). -/
abbrev W.PTN_MASS0_LO : Nat := 0x14C6
/-- PTN_MASS0_HI (spec/10 R323). -/
abbrev W.PTN_MASS0_HI : Nat := 0x14C7
/-- PTN_GSV1_LO (spec/10 R323). -/
abbrev W.PTN_GSV1_LO : Nat := 0x14C8
/-- PTN_GSV1_HI (spec/10 R323). -/
abbrev W.PTN_GSV1_HI : Nat := 0x14C9
/-- PTN_MASS1_LO (spec/10 R323). -/
abbrev W.PTN_MASS1_LO : Nat := 0x14CA
/-- PTN_MASS1_HI (spec/10 R323). -/
abbrev W.PTN_MASS1_HI : Nat := 0x14CB
/-- PTN_SEQ (spec/10 R323). -/
abbrev W.PTN_SEQ : Nat := 0x14CC
/-- REQ_CMD (spec/10 R323). -/
abbrev W.REQ_CMD : Nat := 0x14F0
/-- REQ_ARG (spec/10 R323). -/
abbrev W.REQ_ARG (n : Nat) : Nat := (0x14F1 + 1 * n)
/-- LIO_STAT (spec/11 R351). -/
abbrev W.LIO_STAT : Nat := 0x1500
/-- LIO_HOLD (spec/11 R351). -/
abbrev W.LIO_HOLD : Nat := 0x1501
/-- LINK_ERR (spec/11 R351). -/
abbrev W.LINK_ERR : Nat := 0x1502
/-- LINK_LOSS (spec/11 R351). -/
abbrev W.LINK_LOSS : Nat := 0x1503
/-- CJ_TEMP (spec/11 R351). -/
abbrev W.CJ_TEMP : Nat := 0x1504
/-- EDGE_LOST (spec/11 R351). -/
abbrev W.EDGE_LOST : Nat := 0x1505
/-- DI_LIVE (spec/11 R351). -/
abbrev W.DI_LIVE : Nat := 0x1506
/-- DI_EVT (spec/11 R351). -/
abbrev W.DI_EVT : Nat := 0x1507
/-- DI_STUCK_EVT (spec/11 R351). -/
abbrev W.DI_STUCK_EVT : Nat := 0x1508
/-- DI_EDGE_DIR (spec/11 R351). -/
abbrev W.DI_EDGE_DIR : Nat := 0x1509
/-- CNT_STAT (spec/11 R351). -/
abbrev W.CNT_STAT : Nat := 0x150A
/-- HART_CFG (spec/11 R351). -/
abbrev W.HART_CFG : Nat := 0x150B
/-- DI_CFG (spec/11 R351). -/
abbrev W.DI_CFG (n : Nat) : Nat := (0x1510 + 1 * n)
/-- DI_STUCK (spec/11 R351). -/
abbrev W.DI_STUCK (n : Nat) : Nat := (0x1520 + 1 * n)
/-- DI_TS_LO (spec/11 R351). -/
abbrev W.DI_TS_LO (n : Nat) : Nat := (0x1540 + 2 * n)
/-- DI_TS_HI (spec/11 R351). -/
abbrev W.DI_TS_HI (n : Nat) : Nat := (0x1541 + 2 * n)
/-- DO_CFG (spec/11 R351). -/
abbrev W.DO_CFG (n : Nat) : Nat := (0x1560 + 1 * n)
/-- DO_LIVE (spec/11 R351). -/
abbrev W.DO_LIVE : Nat := 0x1568
/-- DO_EVT (spec/11 R351). -/
abbrev W.DO_EVT : Nat := 0x1569
/-- UC_CFG (spec/11 R351). -/
abbrev W.UC_CFG (n : Nat) : Nat := (0x1580 + 4 * n)
/-- UC_PARAM (spec/11 R351). -/
abbrev W.UC_PARAM (n : Nat) : Nat := (0x1581 + 4 * n)
/-- UC_FAILVAL (spec/11 R351). -/
abbrev W.UC_FAILVAL (n : Nat) : Nat := (0x1582 + 4 * n)
/-- UC_EVT (spec/11 R351). -/
abbrev W.UC_EVT (n : Nat) : Nat := (0x1583 + 4 * n)
/-- UC_HART (spec/11 R351). -/
abbrev W.UC_HART (n : Nat) : Nat := (0x15A0 + 1 * n)
/-- RING_STAT (spec/12 R385). -/
abbrev W.RING_STAT : Nat := 0x1800
/-- RING_CFG (spec/12 R385). -/
abbrev W.RING_CFG : Nat := 0x1801
/-- RING_CYCLE (spec/12 R385). -/
abbrev W.RING_CYCLE : Nat := 0x1802
/-- SIGNALS (spec/12 R385). -/
abbrev W.SIGNALS : Nat := 0x1803
/-- RING_LOAD (spec/12 R385). -/
abbrev W.RING_LOAD : Nat := 0x1804
/-- RX_ERR (spec/12 R385). -/
abbrev W.RX_ERR : Nat := 0x1805
/-- LATE_CNT (spec/12 R385). -/
abbrev W.LATE_CNT : Nat := 0x1806
/-- ACYC_STAT (spec/12 R385). -/
abbrev W.ACYC_STAT : Nat := 0x1807
/-- ACYC_FAIL (spec/12 R385). -/
abbrev W.ACYC_FAIL : Nat := 0x1808
/-- RING_EVT (spec/12 R385). -/
abbrev W.RING_EVT : Nat := 0x1809
/-- TC_RESID_MAX (spec/12 R385). -/
abbrev W.TC_RESID_MAX : Nat := 0x180A
/-- STALE_CNT (spec/12 R385). -/
abbrev W.STALE_CNT : Nat := 0x180B
/-- RSV_OVF (spec/12 R385). -/
abbrev W.RSV_OVF : Nat := 0x180C
/-- PLANT_STAT (spec/12 R385). -/
abbrev W.PLANT_STAT : Nat := 0x1820
/-- PLANT_CFG (spec/12 R385). -/
abbrev W.PLANT_CFG : Nat := 0x1821
/-- IP4_ADDR1 (spec/12 R385). -/
abbrev W.IP4_ADDR1 : Nat := 0x1822
/-- IP4_PFX1 (spec/12 R385). -/
abbrev W.IP4_PFX1 : Nat := 0x1823
/-- IP4_GW1 (spec/12 R385). -/
abbrev W.IP4_GW1 : Nat := 0x1824
/-- IP4_ADDR2 (spec/12 R385). -/
abbrev W.IP4_ADDR2 : Nat := 0x1825
/-- IP4_PFX2 (spec/12 R385). -/
abbrev W.IP4_PFX2 : Nat := 0x1826
/-- IP4_GW2 (spec/12 R385). -/
abbrev W.IP4_GW2 : Nat := 0x1827
/-- PAIR4 (spec/12 R385). -/
abbrev W.PAIR4 (n : Nat) : Nat := (0x1828 + 1 * n)
/-- IP6_ADDR1 (spec/12 R385). -/
abbrev W.IP6_ADDR1 (n : Nat) : Nat := (0x1830 + 1 * n)
/-- IP6_PFX1 (spec/12 R385). -/
abbrev W.IP6_PFX1 : Nat := 0x1834
/-- IP6_ADDR2 (spec/12 R385). -/
abbrev W.IP6_ADDR2 (n : Nat) : Nat := (0x1835 + 1 * n)
/-- IP6_PFX2 (spec/12 R385). -/
abbrev W.IP6_PFX2 : Nat := 0x1839
/-- PAIR6 (spec/12 R385). -/
abbrev W.PAIR6 (n : Nat) : Nat := (0x183A + 1 * n)
/-- SES_REFUSED (spec/12 R385). -/
abbrev W.SES_REFUSED : Nat := 0x1850
/-- AUTH_FAIL (spec/12 R385). -/
abbrev W.AUTH_FAIL : Nat := 0x1851
/-- REPLAY_DROP (spec/12 R385). -/
abbrev W.REPLAY_DROP : Nat := 0x1852
/-- NOT_ACTIVE_CNT (spec/12 R385). -/
abbrev W.NOT_ACTIVE_CNT : Nat := 0x1853
/-- MAC_LO (spec/12 R385). -/
abbrev W.MAC_LO (n : Nat) : Nat := (0x1858 + 2 * n)
/-- MAC_HI (spec/12 R385). -/
abbrev W.MAC_HI (n : Nat) : Nat := (0x1859 + 2 * n)
/-- RSV_INFO (spec/12 R385). -/
abbrev W.RSV_INFO (n : Nat) : Nat := (0x1860 + 4 * n)
/-- RSV_MAC_LO (spec/12 R385). -/
abbrev W.RSV_MAC_LO (n : Nat) : Nat := (0x1861 + 4 * n)
/-- RSV_MAC_HI (spec/12 R385). -/
abbrev W.RSV_MAC_HI (n : Nat) : Nat := (0x1862 + 4 * n)
/-- RSV_SIG (spec/12 R385). -/
abbrev W.RSV_SIG (n : Nat) : Nat := (0x1863 + 4 * n)
/-- STN_CFG (spec/12 R385). -/
abbrev W.STN_CFG (n : Nat) : Nat := (0x1900 + 2 * n)
/-- STN_STAT (spec/12 R385). -/
abbrev W.STN_STAT (n : Nat) : Nat := (0x1901 + 2 * n)
/-- ADM_MAP (spec/12 R385). -/
abbrev W.ADM_MAP (n : Nat) : Nat := (0x1B00 + 1 * n)
/-- LOST_MAP (spec/12 R385). -/
abbrev W.LOST_MAP (n : Nat) : Nat := (0x1B08 + 1 * n)
/-- TIME_STAT (spec/12 R386). -/
abbrev W.TIME_STAT : Nat := 0x1C00
/-- PTP_CFG (spec/12 R386). -/
abbrev W.PTP_CFG : Nat := 0x1C01
/-- NOW_LO (spec/12 R386). -/
abbrev W.NOW_LO : Nat := 0x1C02
/-- NOW_HI (spec/12 R386). -/
abbrev W.NOW_HI : Nat := 0x1C03
/-- OFFSET_NS (spec/12 R386). -/
abbrev W.OFFSET_NS : Nat := 0x1C04
/-- RATE_ADJ (spec/12 R386). -/
abbrev W.RATE_ADJ : Nat := 0x1C05
/-- MEAN_DELAY_NS (spec/12 R386). -/
abbrev W.MEAN_DELAY_NS : Nat := 0x1C06
/-- GM_ID_LO (spec/12 R386). -/
abbrev W.GM_ID_LO : Nat := 0x1C07
/-- GM_ID_HI (spec/12 R386). -/
abbrev W.GM_ID_HI : Nat := 0x1C08
/-- UTC_INFO (spec/12 R386). -/
abbrev W.UTC_INFO : Nat := 0x1C09
/-- STEP_LO (spec/12 R386). -/
abbrev W.STEP_LO : Nat := 0x1C0A
/-- STEP_HI (spec/12 R386). -/
abbrev W.STEP_HI : Nat := 0x1C0B
/-- SYNC_LOSS (spec/12 R386). -/
abbrev W.SYNC_LOSS : Nat := 0x1C0C
/-- TC_COUNT (spec/12 R386). -/
abbrev W.TC_COUNT : Nat := 0x1C0D
/-- CH_CFG (spec/13 R405). -/
abbrev W.CH_CFG (n : Nat) : Nat := (0x1D00 + 128 * n)
/-- NBT (spec/13 R405). -/
abbrev W.NBT (n : Nat) : Nat := (0x1D01 + 128 * n)
/-- DBT (spec/13 R405). -/
abbrev W.DBT (n : Nat) : Nat := (0x1D02 + 128 * n)
/-- TDC (spec/13 R405). -/
abbrev W.TDC (n : Nat) : Nat := (0x1D03 + 128 * n)
/-- CH_STAT (spec/13 R405). -/
abbrev W.CH_STAT (n : Nat) : Nat := (0x1D04 + 128 * n)
/-- ERR_CNT (spec/13 R405). -/
abbrev W.ERR_CNT (n : Nat) : Nat := (0x1D05 + 128 * n)
/-- LEC (spec/13 R405). -/
abbrev W.LEC (n : Nat) : Nat := (0x1D06 + 128 * n)
/-- CH_EVT (spec/13 R405). -/
abbrev W.CH_EVT (n : Nat) : Nat := (0x1D07 + 128 * n)
/-- CH_CTRL (spec/13 R405). -/
abbrev W.CH_CTRL (n : Nat) : Nat := (0x1D08 + 128 * n)
/-- NO_MATCH (spec/13 R405). -/
abbrev W.NO_MATCH (n : Nat) : Nat := (0x1D09 + 128 * n)
/-- BOFF_CNT (spec/13 R405). -/
abbrev W.BOFF_CNT (n : Nat) : Nat := (0x1D0A + 128 * n)
/-- RX_CNT (spec/13 R405). -/
abbrev W.RX_CNT (n : Nat) : Nat := (0x1D0B + 128 * n)
/-- TX_CNT (spec/13 R405). -/
abbrev W.TX_CNT (n : Nat) : Nat := (0x1D0C + 128 * n)
/-- NEW_MAP0 (spec/13 R405). -/
abbrev W.NEW_MAP0 (n : Nat) : Nat := (0x1D10 + 128 * n)
/-- NEW_MAP1 (spec/13 R405). -/
abbrev W.NEW_MAP1 (n : Nat) : Nat := (0x1D11 + 128 * n)
/-- PEND_MAP0 (spec/13 R405). -/
abbrev W.PEND_MAP0 (n : Nat) : Nat := (0x1D12 + 128 * n)
/-- PEND_MAP1 (spec/13 R405). -/
abbrev W.PEND_MAP1 (n : Nat) : Nat := (0x1D13 + 128 * n)
/-- VN_STAT (spec/14 R425). -/
abbrev W.VN_STAT : Nat := 0x1E00
/-- VN_CFG (spec/14 R425). -/
abbrev W.VN_CFG : Nat := 0x1E01
/-- VN_CTRL (spec/14 R425). -/
abbrev W.VN_CTRL : Nat := 0x1E02
/-- VN_TEMP (spec/14 R425). -/
abbrev W.VN_TEMP : Nat := 0x1E03
/-- VN_EVT (spec/14 R425). -/
abbrev W.VN_EVT : Nat := 0x1E04
/-- VN_UPD_CNT (spec/14 R425). -/
abbrev W.VN_UPD_CNT : Nat := 0x1E05
/-- VN_ABORT_CNT (spec/14 R425). -/
abbrev W.VN_ABORT_CNT : Nat := 0x1E06
/-- VN_LAST (spec/14 R425). -/
abbrev W.VN_LAST : Nat := 0x1E07
/-- VN_CRC_CUR (spec/14 R425). -/
abbrev W.VN_CRC_CUR : Nat := 0x1E08
/-- VN_CRC_TGT (spec/14 R425). -/
abbrev W.VN_CRC_TGT : Nat := 0x1E09
/-- VN_WF_ID (spec/14 R425). -/
abbrev W.VN_WF_ID : Nat := 0x1E0A
/-- VN_TAG (spec/14 R425). -/
abbrev W.VN_TAG (n : Nat) : Nat := (0x1E10 + 1 * n)
/-- VN_USER (spec/14 R425). -/
abbrev W.VN_USER (n : Nat) : Nat := (0x1E18 + 1 * n)
/-- PR_STAT (spec/15 R459). -/
abbrev W.PR_STAT : Nat := 0x1F00
/-- PR_EPOCH (spec/15 R459). -/
abbrev W.PR_EPOCH : Nat := 0x1F01
/-- PR_VCNT (spec/15 R459). -/
abbrev W.PR_VCNT (n : Nat) : Nat := (0x1F02 + 1 * n)
/-- PR_CAP_INFO (spec/15 R459). -/
abbrev W.PR_CAP_INFO : Nat := 0x1F08
/-- PR_CAP_ADDR (spec/15 R459). -/
abbrev W.PR_CAP_ADDR : Nat := 0x1F09
/-- PR_CAP_EPOCH (spec/15 R459). -/
abbrev W.PR_CAP_EPOCH : Nat := 0x1F0A
/-- PR_CAP_AGENT (spec/15 R459). -/
abbrev W.PR_CAP_AGENT : Nat := 0x1F0B
/-- PR_MSEL (spec/15 R459). -/
abbrev W.PR_MSEL : Nat := 0x1F10
/-- PR_RULE_A (spec/15 R459). -/
abbrev W.PR_RULE_A (n : Nat) : Nat := (0x1F40 + 2 * n)
/-- PR_RULE_B (spec/15 R459). -/
abbrev W.PR_RULE_B (n : Nat) : Nat := (0x1F41 + 2 * n)
/-- FC_STAT (spec/15 R460). -/
abbrev W.FC_STAT : Nat := 0x2000
/-- FC_CFG (spec/15 R460). -/
abbrev W.FC_CFG : Nat := 0x2001
/-- FC_PEND (spec/15 R460). -/
abbrev W.FC_PEND (n : Nat) : Nat := (0x2002 + 1 * n)
/-- FC_FIRST (spec/15 R460). -/
abbrev W.FC_FIRST : Nat := 0x2004
/-- FC_FIRST_TLO (spec/15 R460). -/
abbrev W.FC_FIRST_TLO : Nat := 0x2005
/-- FC_FIRST_THI (spec/15 R460). -/
abbrev W.FC_FIRST_THI : Nat := 0x2006
/-- FC_LAST (spec/15 R460). -/
abbrev W.FC_LAST : Nat := 0x2007
/-- FC_LAST_TLO (spec/15 R460). -/
abbrev W.FC_LAST_TLO : Nat := 0x2008
/-- FC_LAST_THI (spec/15 R460). -/
abbrev W.FC_LAST_THI : Nat := 0x2009
/-- FC_QOVF (spec/15 R460). -/
abbrev W.FC_QOVF : Nat := 0x200A
/-- FC_CTRL (spec/15 R460). -/
abbrev W.FC_CTRL : Nat := 0x200B
/-- FC_REACT (spec/15 R460). -/
abbrev W.FC_REACT (n : Nat) : Nat := (0x2010 + 1 * n)
/-- FC_JIG (spec/15 R460). -/
abbrev W.FC_JIG : Nat := 0x2020
/-- FC_JIG_STAT (spec/15 R460). -/
abbrev W.FC_JIG_STAT : Nat := 0x2021
/-- FC_CNT (spec/15 R460). -/
abbrev W.FC_CNT (n : Nat) : Nat := (0x2030 + 1 * n)
/-- REC_STAT (spec/15 R461). -/
abbrev W.REC_STAT : Nat := 0x2100
/-- REC_CFG (spec/15 R461). -/
abbrev W.REC_CFG : Nat := 0x2101
/-- REC_CTRL (spec/15 R461). -/
abbrev W.REC_CTRL : Nat := 0x2102
/-- REC_SEQ (spec/15 R461). -/
abbrev W.REC_SEQ : Nat := 0x2103
/-- REC_FLUSHED (spec/15 R461). -/
abbrev W.REC_FLUSHED : Nat := 0x2104
/-- REC_SUPP (spec/15 R461). -/
abbrev W.REC_SUPP : Nat := 0x2105
/-- REC_LOST (spec/15 R461). -/
abbrev W.REC_LOST : Nat := 0x2106
/-- REC_BAD (spec/15 R461). -/
abbrev W.REC_BAD : Nat := 0x2107
/-- REC_LIM (spec/15 R461). -/
abbrev W.REC_LIM (n : Nat) : Nat := (0x2110 + 1 * n)
/-- REC_UCODE (spec/15 R461). -/
abbrev W.REC_UCODE : Nat := 0x2120
/-- REC_UDATA (spec/15 R461). -/
abbrev W.REC_UDATA (n : Nat) : Nat := (0x2121 + 1 * n)
/-- RNG_STAT (spec/16 R474). -/
abbrev W.RNG_STAT : Nat := 0x2200
/-- RNG_FULL (spec/16 R474). -/
abbrev W.RNG_FULL : Nat := 0x2201
/-- RNG_INFO (spec/16 R474). -/
abbrev W.RNG_INFO (n : Nat) : Nat := (0x2210 + 4 * n)
/-- RNG_PI (spec/16 R474). -/
abbrev W.RNG_PI (n : Nat) : Nat := (0x2211 + 4 * n)
/-- RNG_CI (spec/16 R474). -/
abbrev W.RNG_CI (n : Nat) : Nat := (0x2212 + 4 * n)
/-- RNG_DONE (spec/16 R474). -/
abbrev W.RNG_DONE (n : Nat) : Nat := (0x2213 + 4 * n)
/-- CRC_CFG (spec/16 R474). -/
abbrev W.CRC_CFG (n : Nat) : Nat := (0x2290 + 8 * n)
/-- CRC_VAL (spec/16 R474). -/
abbrev W.CRC_VAL (n : Nat) : Nat := (0x2291 + 8 * n)
/-- CRC_RESULT (spec/16 R474). -/
abbrev W.CRC_RESULT (n : Nat) : Nat := (0x2292 + 8 * n)
/-- CRC_IN8 (spec/16 R474). -/
abbrev W.CRC_IN8 (n : Nat) : Nat := (0x2293 + 8 * n)
/-- CRC_IN16 (spec/16 R474). -/
abbrev W.CRC_IN16 (n : Nat) : Nat := (0x2294 + 8 * n)
/-- CRC_IN32 (spec/16 R474). -/
abbrev W.CRC_IN32 (n : Nat) : Nat := (0x2295 + 8 * n)
/-- UPD_STAT (spec/17 R496). -/
abbrev W.UPD_STAT : Nat := 0x2300
/-- SET_SEQ (spec/17 R496). -/
abbrev W.SET_SEQ : Nat := 0x2301
/-- SET_ID (spec/17 R496). -/
abbrev W.SET_ID : Nat := 0x2302
/-- PTN_SET_ID (spec/17 R496). -/
abbrev W.PTN_SET_ID : Nat := 0x2303
/-- UPD_STAT_B (spec/17 R496). -/
abbrev W.UPD_STAT_B : Nat := 0x2304
/-- PART_VER (spec/17 R496). -/
abbrev W.PART_VER (n : Nat) : Nat := (0x2310 + 1 * n)
/-- BENCH_STAT (spec/17 R496). -/
abbrev W.BENCH_STAT : Nat := 0x2320
/-- BENCH_CFG (spec/17 R496). -/
abbrev W.BENCH_CFG : Nat := 0x2321
/-- BENCH_DENY (spec/17 R496). -/
abbrev W.BENCH_DENY : Nat := 0x2322
/-- MOD_ID_DEVICE. -/
abbrev F.MOD_ID_DEVICE : Fld := ⟨0x0, 31, 16⟩
/-- MOD_ID_HW_REV. -/
abbrev F.MOD_ID_HW_REV : Fld := ⟨0x0, 15, 8⟩
/-- SERIAL_LO. -/
abbrev F.SERIAL_LO : Fld := ⟨0x1, 31, 0⟩
/-- SERIAL_HI. -/
abbrev F.SERIAL_HI : Fld := ⟨0x2, 31, 0⟩
/-- SLOT_STAT_VALID. -/
abbrev F.SLOT_STAT_VALID : Fld := ⟨0x3, 5, 5⟩
/-- SLOT_STAT_SEATED. -/
abbrev F.SLOT_STAT_SEATED : Fld := ⟨0x3, 4, 4⟩
/-- SLOT_STAT_ID. -/
abbrev F.SLOT_STAT_ID : Fld := ⟨0x3, 3, 0⟩
/-- MOD_STAT_RESTART. -/
abbrev F.MOD_STAT_RESTART : Fld := ⟨0x4, 5, 4⟩
/-- MOD_STAT_ROLE. -/
abbrev F.MOD_STAT_ROLE : Fld := ⟨0x4, 3, 0⟩
/-- RESET_CAUSE_CAUSE. -/
abbrev F.RESET_CAUSE_CAUSE : Fld := ⟨0x5, 3, 0⟩
/-- START_INFO_REASON. -/
abbrev F.START_INFO_REASON : Fld := ⟨0x6, 11, 8⟩
/-- START_INFO_PERFORMED. -/
abbrev F.START_INFO_PERFORMED : Fld := ⟨0x6, 5, 4⟩
/-- START_INFO_REQUESTED. -/
abbrev F.START_INFO_REQUESTED : Fld := ⟨0x6, 1, 0⟩
/-- BOOT_COUNT. -/
abbrev F.BOOT_COUNT : Fld := ⟨0x7, 31, 0⟩
/-- UPTIME_S. -/
abbrev F.UPTIME_S : Fld := ⟨0x8, 31, 0⟩
/-- OUTAGE_MS. -/
abbrev F.OUTAGE_MS : Fld := ⟨0x9, 31, 0⟩
/-- RESTART_CFG_HOT_MAX_OUTAGE. -/
abbrev F.RESTART_CFG_HOT_MAX_OUTAGE : Fld := ⟨0x100, 31, 16⟩
/-- RESTART_CFG_AFTER_RESET. -/
abbrev F.RESTART_CFG_AFTER_RESET : Fld := ⟨0x100, 3, 2⟩
/-- RESTART_CFG_AFTER_POWER. -/
abbrev F.RESTART_CFG_AFTER_POWER : Fld := ⟨0x100, 1, 0⟩
/-- DOM_RUN. -/
abbrev F.DOM_RUN : Fld := ⟨0x101, 13, 0⟩
/-- DOM_PARK_PARK14. -/
abbrev F.DOM_PARK_PARK14 : Fld := ⟨0x102, 13, 13⟩
/-- DOM_PARK_PARK6_2. -/
abbrev F.DOM_PARK_PARK6_2 : Fld := ⟨0x102, 5, 1⟩
/-- DOM_LATE. -/
abbrev F.DOM_LATE : Fld := ⟨0x103, 13, 0⟩
/-- DOM_FAIL. -/
abbrev F.DOM_FAIL : Fld := ⟨0x104, 13, 0⟩
/-- LAST_LATE_DOMAIN. -/
abbrev F.LAST_LATE_DOMAIN : Fld := ⟨0x105, 31, 24⟩
/-- LAST_LATE_START_NS. -/
abbrev F.LAST_LATE_START_NS : Fld := ⟨0x105, 23, 0⟩
/-- FEED_A_MV. -/
abbrev F.FEED_A_MV : Fld := ⟨0x106, 31, 0⟩
/-- FEED_B_MV. -/
abbrev F.FEED_B_MV : Fld := ⟨0x107, 31, 0⟩
/-- HOLDUP_TESTING. -/
abbrev F.HOLDUP_TESTING : Fld := ⟨0x108, 17, 17⟩
/-- HOLDUP_CHARGED. -/
abbrev F.HOLDUP_CHARGED : Fld := ⟨0x108, 16, 16⟩
/-- HOLDUP_ENERGY_MJ. -/
abbrev F.HOLDUP_ENERGY_MJ : Fld := ⟨0x108, 15, 0⟩
/-- BOARD_TEMP. -/
abbrev F.BOARD_TEMP : Fld := ⟨0x109, 15, 0⟩
/-- PWR_STAT_PF_CAUSE. -/
abbrev F.PWR_STAT_PF_CAUSE : Fld := ⟨0x10A, 8, 8⟩
/-- PWR_STAT_PF_COMPLETE. -/
abbrev F.PWR_STAT_PF_COMPLETE : Fld := ⟨0x10A, 4, 4⟩
/-- PWR_STAT_PF_STEP. -/
abbrev F.PWR_STAT_PF_STEP : Fld := ⟨0x10A, 3, 1⟩
/-- AON_STAT_FEED_B_OK. -/
abbrev F.AON_STAT_FEED_B_OK : Fld := ⟨0x10B, 3, 3⟩
/-- AON_STAT_FEED_A_OK. -/
abbrev F.AON_STAT_FEED_A_OK : Fld := ⟨0x10B, 2, 2⟩
/-- AON_STAT_BACKUP_VALID. -/
abbrev F.AON_STAT_BACKUP_VALID : Fld := ⟨0x10B, 1, 1⟩
/-- AON_STAT_RC_MODE. -/
abbrev F.AON_STAT_RC_MODE : Fld := ⟨0x10B, 0, 0⟩
/-- JOURNAL_STAT_OVF. -/
abbrev F.JOURNAL_STAT_OVF : Fld := ⟨0x10C, 31, 31⟩
/-- JOURNAL_STAT_PEAK_LINES. -/
abbrev F.JOURNAL_STAT_PEAK_LINES : Fld := ⟨0x10C, 14, 0⟩
/-- SCH_STAT_STATE. -/
abbrev F.SCH_STAT_STATE : Fld := ⟨0x200, 9, 8⟩
/-- SCH_STAT_IDLE. -/
abbrev F.SCH_STAT_IDLE : Fld := ⟨0x200, 7, 7⟩
/-- SCH_STAT_TASK. -/
abbrev F.SCH_STAT_TASK : Fld := ⟨0x200, 6, 0⟩
/-- TICK_LO. -/
abbrev F.TICK_LO : Fld := ⟨0x201, 31, 0⟩
/-- TICK_HI. -/
abbrev F.TICK_HI : Fld := ⟨0x202, 31, 0⟩
/-- LP_LOAD_PEAK_1MS. -/
abbrev F.LP_LOAD_PEAK_1MS : Fld := ⟨0x203, 31, 16⟩
/-- LP_LOAD_LOAD_1S. -/
abbrev F.LP_LOAD_LOAD_1S : Fld := ⟨0x203, 15, 0⟩
/-- BUDGET_STAT_EXC. -/
abbrev F.BUDGET_STAT_EXC : Fld := ⟨0x204, 31, 31⟩
/-- BUDGET_STAT_CLR_MAX. -/
abbrev F.BUDGET_STAT_CLR_MAX : Fld := ⟨0x204, 30, 30⟩
/-- BUDGET_STAT_FAST_MAX_NS. -/
abbrev F.BUDGET_STAT_FAST_MAX_NS : Fld := ⟨0x204, 23, 0⟩
/-- EVT_DROP. -/
abbrev F.EVT_DROP : Fld := ⟨0x205, 31, 0⟩
/-- TIMER_ARM. -/
abbrev F.TIMER_ARM : Fld := ⟨0x206, 6, 0⟩
/-- STAT_SEL. -/
abbrev F.STAT_SEL : Fld := ⟨0x210, 6, 0⟩
/-- SEL_LAST_NS. -/
abbrev F.SEL_LAST_NS : Fld := ⟨0x211, 31, 0⟩
/-- SEL_MAX_NS. -/
abbrev F.SEL_MAX_NS : Fld := ⟨0x212, 31, 0⟩
/-- SEL_LP_NS. -/
abbrev F.SEL_LP_NS : Fld := ⟨0x213, 31, 0⟩
/-- SEL_DELAY_NS. -/
abbrev F.SEL_DELAY_NS : Fld := ⟨0x214, 31, 0⟩
/-- SEL_CYCLES. -/
abbrev F.SEL_CYCLES : Fld := ⟨0x215, 31, 0⟩
/-- TCFG_EN. -/
abbrev F.TCFG_EN (n : Nat) : Fld := ⟨(0x240 + 4 * n), 31, 31⟩
/-- TCFG_PRIO. -/
abbrev F.TCFG_PRIO (n : Nat) : Fld := ⟨(0x240 + 4 * n), 30, 26⟩
/-- TCFG_FAULT_ACT. -/
abbrev F.TCFG_FAULT_ACT (n : Nat) : Fld := ⟨(0x240 + 4 * n), 25, 24⟩
/-- TCFG_PHASE. -/
abbrev F.TCFG_PHASE (n : Nat) : Fld := ⟨(0x240 + 4 * n), 17, 0⟩
/-- TPER_N. -/
abbrev F.TPER_N (n : Nat) : Fld := ⟨(0x241 + 4 * n), 17, 0⟩
/-- TTRIG_SRC. -/
abbrev F.TTRIG_SRC (n : Nat) : Fld := ⟨(0x241 + 4 * n), 31, 28⟩
/-- TTRIG_ARG. -/
abbrev F.TTRIG_ARG (n : Nat) : Fld := ⟨(0x241 + 4 * n), 27, 0⟩
/-- TWDOG. -/
abbrev F.TWDOG (n : Nat) : Fld := ⟨(0x242 + 4 * n), 23, 0⟩
/-- TSTAT_OVR_CNT. -/
abbrev F.TSTAT_OVR_CNT (n : Nat) : Fld := ⟨(0x243 + 4 * n), 31, 16⟩
/-- TSTAT_LAST_CAUSE. -/
abbrev F.TSTAT_LAST_CAUSE (n : Nat) : Fld := ⟨(0x243 + 4 * n), 15, 12⟩
/-- TSTAT_ARMED. -/
abbrev F.TSTAT_ARMED (n : Nat) : Fld := ⟨(0x243 + 4 * n), 6, 6⟩
/-- TSTAT_CFG_ERR. -/
abbrev F.TSTAT_CFG_ERR (n : Nat) : Fld := ⟨(0x243 + 4 * n), 5, 5⟩
/-- TSTAT_DIS_FAULT. -/
abbrev F.TSTAT_DIS_FAULT (n : Nat) : Fld := ⟨(0x243 + 4 * n), 4, 4⟩
/-- TSTAT_PENDING. -/
abbrev F.TSTAT_PENDING (n : Nat) : Fld := ⟨(0x243 + 4 * n), 3, 3⟩
/-- TSTAT_RUNNING. -/
abbrev F.TSTAT_RUNNING (n : Nat) : Fld := ⟨(0x243 + 4 * n), 2, 2⟩
/-- TSTAT_BUDGET. -/
abbrev F.TSTAT_BUDGET (n : Nat) : Fld := ⟨(0x243 + 4 * n), 1, 1⟩
/-- TSTAT_OVR. -/
abbrev F.TSTAT_OVR (n : Nat) : Fld := ⟨(0x243 + 4 * n), 0, 0⟩
/-- RX_STAT_PERSIST_TASK. -/
abbrev F.RX_STAT_PERSIST_TASK : Fld := ⟨0x400, 22, 16⟩
/-- RX_STAT_PERSIST. -/
abbrev F.RX_STAT_PERSIST : Fld := ⟨0x400, 15, 15⟩
/-- RX_STAT_JIG_HITS. -/
abbrev F.RX_STAT_JIG_HITS : Fld := ⟨0x400, 14, 9⟩
/-- RX_STAT_BUF_PEAK. -/
abbrev F.RX_STAT_BUF_PEAK : Fld := ⟨0x400, 8, 0⟩
/-- RX_CFG_MM_LIMIT. -/
abbrev F.RX_CFG_MM_LIMIT : Fld := ⟨0x401, 15, 0⟩
/-- MM_TOTAL. -/
abbrev F.MM_TOTAL : Fld := ⟨0x402, 31, 0⟩
/-- TF_TOTAL. -/
abbrev F.TF_TOTAL : Fld := ⟨0x403, 31, 0⟩
/-- PF_TOTAL. -/
abbrev F.PF_TOTAL : Fld := ⟨0x404, 31, 0⟩
/-- CAP_INFO_VALID. -/
abbrev F.CAP_INFO_VALID : Fld := ⟨0x408, 31, 31⟩
/-- CAP_INFO_KIND. -/
abbrev F.CAP_INFO_KIND : Fld := ⟨0x408, 30, 29⟩
/-- CAP_INFO_CODE_ERR. -/
abbrev F.CAP_INFO_CODE_ERR : Fld := ⟨0x408, 28, 28⟩
/-- CAP_INFO_PASS_FLT. -/
abbrev F.CAP_INFO_PASS_FLT : Fld := ⟨0x408, 27, 25⟩
/-- CAP_INFO_CHK_ERR. -/
abbrev F.CAP_INFO_CHK_ERR : Fld := ⟨0x408, 24, 24⟩
/-- CAP_INFO_CAUSE. -/
abbrev F.CAP_INFO_CAUSE : Fld := ⟨0x408, 19, 16⟩
/-- CAP_INFO_MODE. -/
abbrev F.CAP_INFO_MODE : Fld := ⟨0x408, 9, 8⟩
/-- CAP_INFO_TASK. -/
abbrev F.CAP_INFO_TASK : Fld := ⟨0x408, 6, 0⟩
/-- CAP_INDEX. -/
abbrev F.CAP_INDEX : Fld := ⟨0x409, 21, 0⟩
/-- LAST_MM_INFO_ODD. -/
abbrev F.LAST_MM_INFO_ODD : Fld := ⟨0x40C, 9, 8⟩
/-- LAST_MM_INFO_TASK. -/
abbrev F.LAST_MM_INFO_TASK : Fld := ⟨0x40C, 6, 0⟩
/-- LAST_MM_INDEX. -/
abbrev F.LAST_MM_INDEX : Fld := ⟨0x40D, 21, 0⟩
/-- CAP_CTRL_CLR_PERSIST. -/
abbrev F.CAP_CTRL_CLR_PERSIST : Fld := ⟨0x40E, 1, 1⟩
/-- CAP_CTRL_CLR. -/
abbrev F.CAP_CTRL_CLR : Fld := ⟨0x40E, 0, 0⟩
/-- XMODE_MM_CNT. -/
abbrev F.XMODE_MM_CNT (n : Nat) : Fld := ⟨(0x410 + 1 * n), 31, 16⟩
/-- XMODE_MM_CLR. -/
abbrev F.XMODE_MM_CLR (n : Nat) : Fld := ⟨(0x410 + 1 * n), 15, 15⟩
/-- XMODE_REFUSED. -/
abbrev F.XMODE_REFUSED (n : Nat) : Fld := ⟨(0x410 + 1 * n), 9, 9⟩
/-- XMODE_NONCRIT. -/
abbrev F.XMODE_NONCRIT (n : Nat) : Fld := ⟨(0x410 + 1 * n), 8, 8⟩
/-- XMODE_MODE. -/
abbrev F.XMODE_MODE (n : Nat) : Fld := ⟨(0x410 + 1 * n), 1, 0⟩
/-- OC_STAT_MRAM_SYNC. -/
abbrev F.OC_STAT_MRAM_SYNC : Fld := ⟨0x500, 19, 19⟩
/-- OC_STAT_TRIAL. -/
abbrev F.OC_STAT_TRIAL : Fld := ⟨0x500, 18, 18⟩
/-- OC_STAT_LOADED. -/
abbrev F.OC_STAT_LOADED : Fld := ⟨0x500, 17, 17⟩
/-- OC_STAT_AREA. -/
abbrev F.OC_STAT_AREA : Fld := ⟨0x500, 16, 16⟩
/-- OC_STAT_RESULT. -/
abbrev F.OC_STAT_RESULT : Fld := ⟨0x500, 11, 8⟩
/-- OC_STAT_PHASE. -/
abbrev F.OC_STAT_PHASE : Fld := ⟨0x500, 3, 0⟩
/-- OC_CFG_TRIAL_S. -/
abbrev F.OC_CFG_TRIAL_S : Fld := ⟨0x501, 31, 16⟩
/-- OC_CFG_WAIT_S. -/
abbrev F.OC_CFG_WAIT_S : Fld := ⟨0x501, 15, 8⟩
/-- OC_CFG_EXPECT_DIFF. -/
abbrev F.OC_CFG_EXPECT_DIFF : Fld := ⟨0x501, 1, 1⟩
/-- OC_CFG_ALLOW. -/
abbrev F.OC_CFG_ALLOW : Fld := ⟨0x501, 0, 0⟩
/-- OC_VER_RUN. -/
abbrev F.OC_VER_RUN : Fld := ⟨0x502, 31, 0⟩
/-- OC_VER_NEW. -/
abbrev F.OC_VER_NEW : Fld := ⟨0x503, 31, 0⟩
/-- OC_COUNT. -/
abbrev F.OC_COUNT : Fld := ⟨0x504, 31, 0⟩
/-- OC_CARRIED. -/
abbrev F.OC_CARRIED : Fld := ⟨0x505, 31, 0⟩
/-- OC_INIT. -/
abbrev F.OC_INIT : Fld := ⟨0x506, 31, 0⟩
/-- OC_DROPPED. -/
abbrev F.OC_DROPPED : Fld := ⟨0x507, 31, 0⟩
/-- OC_CONV. -/
abbrev F.OC_CONV : Fld := ⟨0x508, 31, 0⟩
/-- OC_SW_NS. -/
abbrev F.OC_SW_NS : Fld := ⟨0x509, 31, 0⟩
/-- OC_TRIAL_DIFF. -/
abbrev F.OC_TRIAL_DIFF : Fld := ⟨0x50A, 31, 0⟩
/-- OC_TRIAL_SAME. -/
abbrev F.OC_TRIAL_SAME : Fld := ⟨0x50B, 31, 0⟩
/-- OC_REJ_INDEX. -/
abbrev F.OC_REJ_INDEX : Fld := ⟨0x50C, 31, 0⟩
/-- OC_FIRST. -/
abbrev F.OC_FIRST (n : Nat) : Fld := ⟨(0x510 + 1 * n), 31, 0⟩
/-- LE_STAT_DECLARED. -/
abbrev F.LE_STAT_DECLARED : Fld := ⟨0x600, 28, 16⟩
/-- LE_STAT_PINNED. -/
abbrev F.LE_STAT_PINNED : Fld := ⟨0x600, 8, 0⟩
/-- LE_LOAD_PEAK_TICK. -/
abbrev F.LE_LOAD_PEAK_TICK : Fld := ⟨0x601, 31, 16⟩
/-- LE_LOAD_LOAD_1S. -/
abbrev F.LE_LOAD_LOAD_1S : Fld := ⟨0x601, 15, 0⟩
/-- LE_MM_TOTAL. -/
abbrev F.LE_MM_TOTAL : Fld := ⟨0x602, 31, 0⟩
/-- LE_FLT_TOTAL. -/
abbrev F.LE_FLT_TOTAL : Fld := ⟨0x603, 31, 0⟩
/-- LE_LATE_TOTAL. -/
abbrev F.LE_LATE_TOTAL : Fld := ⟨0x604, 31, 0⟩
/-- LE_SWAPS_1S. -/
abbrev F.LE_SWAPS_1S : Fld := ⟨0x605, 31, 0⟩
/-- LE_LAST_KIND. -/
abbrev F.LE_LAST_KIND : Fld := ⟨0x606, 31, 28⟩
/-- LE_LAST_LOOP. -/
abbrev F.LE_LAST_LOOP : Fld := ⟨0x606, 11, 0⟩
/-- LE_CTRL_CLR_LAST. -/
abbrev F.LE_CTRL_CLR_LAST : Fld := ⟨0x607, 1, 1⟩
/-- LE_CTRL_CLR_STATS. -/
abbrev F.LE_CTRL_CLR_STATS : Fld := ⟨0x607, 0, 0⟩
/-- LE_ALM. -/
abbrev F.LE_ALM (n : Nat) : Fld := ⟨(0x700 + 1 * n), 31, 0⟩
/-- LE_FLT. -/
abbrev F.LE_FLT (n : Nat) : Fld := ⟨(0x780 + 1 * n), 31, 0⟩
/-- PAIR_STAT_PARTNER_ROLE. -/
abbrev F.PAIR_STAT_PARTNER_ROLE : Fld := ⟨0x1000, 31, 28⟩
/-- PAIR_STAT_ROLE. -/
abbrev F.PAIR_STAT_ROLE : Fld := ⟨0x1000, 27, 24⟩
/-- PAIR_STAT_PRESENT. -/
abbrev F.PAIR_STAT_PRESENT : Fld := ⟨0x1000, 6, 6⟩
/-- PAIR_STAT_SEATED. -/
abbrev F.PAIR_STAT_SEATED : Fld := ⟨0x1000, 5, 5⟩
/-- PAIR_STAT_CLAIM. -/
abbrev F.PAIR_STAT_CLAIM : Fld := ⟨0x1000, 4, 4⟩
/-- PAIR_STAT_ALV_OK. -/
abbrev F.PAIR_STAT_ALV_OK : Fld := ⟨0x1000, 3, 3⟩
/-- PAIR_STAT_RING_OK. -/
abbrev F.PAIR_STAT_RING_OK : Fld := ⟨0x1000, 2, 2⟩
/-- PAIR_STAT_HB_OK. -/
abbrev F.PAIR_STAT_HB_OK : Fld := ⟨0x1000, 1, 1⟩
/-- PAIR_STAT_SLOT. -/
abbrev F.PAIR_STAT_SLOT : Fld := ⟨0x1000, 0, 0⟩
/-- PAIR_CFG_BUDGET_RETRY. -/
abbrev F.PAIR_CFG_BUDGET_RETRY : Fld := ⟨0x1001, 15, 12⟩
/-- PAIR_CFG_RINGDOWN_HO. -/
abbrev F.PAIR_CFG_RINGDOWN_HO : Fld := ⟨0x1001, 3, 3⟩
/-- PAIR_CFG_ORPHAN_START. -/
abbrev F.PAIR_CFG_ORPHAN_START : Fld := ⟨0x1001, 2, 2⟩
/-- PAIR_CFG_LOCAL_MIRROR. -/
abbrev F.PAIR_CFG_LOCAL_MIRROR : Fld := ⟨0x1001, 1, 1⟩
/-- PAIR_CFG_RESYNC_AUTO. -/
abbrev F.PAIR_CFG_RESYNC_AUTO : Fld := ⟨0x1001, 0, 0⟩
/-- PAIR_CTRL_CLR_STATS. -/
abbrev F.PAIR_CTRL_CLR_STATS : Fld := ⟨0x1002, 3, 3⟩
/-- PAIR_CTRL_DETACH. -/
abbrev F.PAIR_CTRL_DETACH : Fld := ⟨0x1002, 2, 2⟩
/-- PAIR_CTRL_RESYNC. -/
abbrev F.PAIR_CTRL_RESYNC : Fld := ⟨0x1002, 1, 1⟩
/-- PAIR_CTRL_HANDOVER. -/
abbrev F.PAIR_CTRL_HANDOVER : Fld := ⟨0x1002, 0, 0⟩
/-- EPOCH. -/
abbrev F.EPOCH : Fld := ⟨0x1003, 31, 0⟩
/-- EPOCH_SEEN. -/
abbrev F.EPOCH_SEEN : Fld := ⟨0x1004, 31, 0⟩
/-- TAKEOVER_CNT. -/
abbrev F.TAKEOVER_CNT : Fld := ⟨0x1005, 31, 0⟩
/-- LAST_TAKEOVER_KIND. -/
abbrev F.LAST_TAKEOVER_KIND : Fld := ⟨0x1006, 31, 28⟩
/-- LAST_TAKEOVER_VERDICT. -/
abbrev F.LAST_TAKEOVER_VERDICT : Fld := ⟨0x1006, 27, 26⟩
/-- LAST_TAKEOVER_FROM_UNSYNC. -/
abbrev F.LAST_TAKEOVER_FROM_UNSYNC : Fld := ⟨0x1006, 25, 25⟩
/-- LAST_KERF_NS. -/
abbrev F.LAST_KERF_NS : Fld := ⟨0x1007, 31, 0⟩
/-- SYNC_INFO_LOSSES. -/
abbrev F.SYNC_INFO_LOSSES : Fld := ⟨0x1008, 31, 8⟩
/-- SYNC_INFO_CAUSE. -/
abbrev F.SYNC_INFO_CAUSE : Fld := ⟨0x1008, 3, 0⟩
/-- HASH_SAME. -/
abbrev F.HASH_SAME : Fld := ⟨0x1009, 31, 0⟩
/-- HASH_DIFF. -/
abbrev F.HASH_DIFF : Fld := ⟨0x100A, 31, 0⟩
/-- FWD_TICK_MAX. -/
abbrev F.FWD_TICK_MAX : Fld := ⟨0x100B, 31, 0⟩
/-- FWD_1MS_MAX. -/
abbrev F.FWD_1MS_MAX : Fld := ⟨0x100C, 31, 0⟩
/-- DT_STAT_REPLAYS. -/
abbrev F.DT_STAT_REPLAYS : Fld := ⟨0x100D, 31, 16⟩
/-- DT_STAT_LINK_UP. -/
abbrev F.DT_STAT_LINK_UP : Fld := ⟨0x100D, 1, 1⟩
/-- DT_STAT_PROTO_OK. -/
abbrev F.DT_STAT_PROTO_OK : Fld := ⟨0x100D, 0, 0⟩
/-- DT_ERR. -/
abbrev F.DT_ERR : Fld := ⟨0x100E, 31, 0⟩
/-- RESYNC_STAT_LAST_MS. -/
abbrev F.RESYNC_STAT_LAST_MS : Fld := ⟨0x100F, 31, 16⟩
/-- RESYNC_STAT_DETACHED. -/
abbrev F.RESYNC_STAT_DETACHED : Fld := ⟨0x100F, 15, 15⟩
/-- RESYNC_STAT_PROG_COPY. -/
abbrev F.RESYNC_STAT_PROG_COPY : Fld := ⟨0x100F, 14, 14⟩
/-- RESYNC_STAT_ROUNDS. -/
abbrev F.RESYNC_STAT_ROUNDS : Fld := ⟨0x100F, 11, 8⟩
/-- RESYNC_STAT_FAILS. -/
abbrev F.RESYNC_STAT_FAILS : Fld := ⟨0x100F, 7, 4⟩
/-- RESYNC_STAT_PHASE. -/
abbrev F.RESYNC_STAT_PHASE : Fld := ⟨0x100F, 3, 0⟩
/-- KERF_DROPS. -/
abbrev F.KERF_DROPS : Fld := ⟨0x1010, 31, 0⟩
/-- PAIR_EVT_HO_REFUSED. -/
abbrev F.PAIR_EVT_HO_REFUSED : Fld := ⟨0x1011, 9, 9⟩
/-- PAIR_EVT_EPOCH_LIMIT. -/
abbrev F.PAIR_EVT_EPOCH_LIMIT : Fld := ⟨0x1011, 8, 8⟩
/-- PAIR_EVT_ARB_CONFLICT. -/
abbrev F.PAIR_EVT_ARB_CONFLICT : Fld := ⟨0x1011, 7, 7⟩
/-- PAIR_EVT_PRES_FAULT. -/
abbrev F.PAIR_EVT_PRES_FAULT : Fld := ⟨0x1011, 6, 6⟩
/-- PAIR_EVT_ALV_FAULT. -/
abbrev F.PAIR_EVT_ALV_FAULT : Fld := ⟨0x1011, 5, 5⟩
/-- PAIR_EVT_RING_WIT. -/
abbrev F.PAIR_EVT_RING_WIT : Fld := ⟨0x1011, 4, 4⟩
/-- PAIR_EVT_FENCED. -/
abbrev F.PAIR_EVT_FENCED : Fld := ⟨0x1011, 3, 3⟩
/-- PAIR_EVT_LINK. -/
abbrev F.PAIR_EVT_LINK : Fld := ⟨0x1011, 2, 2⟩
/-- PAIR_EVT_HASH. -/
abbrev F.PAIR_EVT_HASH : Fld := ⟨0x1011, 1, 1⟩
/-- PAIR_EVT_BUDGET. -/
abbrev F.PAIR_EVT_BUDGET : Fld := ⟨0x1011, 0, 0⟩
/-- MB_STAT_LINK_OK. -/
abbrev F.MB_STAT_LINK_OK : Fld := ⟨0x1400, 31, 31⟩
/-- MB_STAT_MSTATE. -/
abbrev F.MB_STAT_MSTATE : Fld := ⟨0x1400, 30, 28⟩
/-- MB_STAT_TIME_DEV. -/
abbrev F.MB_STAT_TIME_DEV : Fld := ⟨0x1400, 27, 27⟩
/-- MB_STAT_AUDIT_FULL. -/
abbrev F.MB_STAT_AUDIT_FULL : Fld := ⟨0x1400, 26, 26⟩
/-- MB_STAT_PARAM_STAGED. -/
abbrev F.MB_STAT_PARAM_STAGED : Fld := ⟨0x1400, 25, 25⟩
/-- MB_STAT_REQ_DROPPED. -/
abbrev F.MB_STAT_REQ_DROPPED : Fld := ⟨0x1400, 24, 24⟩
/-- MB_STAT_FRAME_ERR. -/
abbrev F.MB_STAT_FRAME_ERR : Fld := ⟨0x1400, 15, 0⟩
/-- MB_SEQ. -/
abbrev F.MB_SEQ : Fld := ⟨0x1401, 31, 0⟩
/-- MB_PTP_LO. -/
abbrev F.MB_PTP_LO : Fld := ⟨0x1402, 31, 0⟩
/-- MB_PTP_HI. -/
abbrev F.MB_PTP_HI : Fld := ⟨0x1403, 31, 0⟩
/-- MRT_ID. -/
abbrev F.MRT_ID : Fld := ⟨0x1404, 31, 0⟩
/-- FW_CRC. -/
abbrev F.FW_CRC : Fld := ⟨0x1405, 31, 0⟩
/-- PARAM_CRC. -/
abbrev F.PARAM_CRC : Fld := ⟨0x1406, 31, 0⟩
/-- SEAL_CNT. -/
abbrev F.SEAL_CNT : Fld := ⟨0x1407, 31, 0⟩
/-- AUDIT_STAT_NEXT. -/
abbrev F.AUDIT_STAT_NEXT : Fld := ⟨0x1408, 31, 16⟩
/-- AUDIT_STAT_HELD. -/
abbrev F.AUDIT_STAT_HELD : Fld := ⟨0x1408, 10, 0⟩
/-- MRT_TIME_LO. -/
abbrev F.MRT_TIME_LO : Fld := ⟨0x1409, 31, 0⟩
/-- MRT_TIME_HI. -/
abbrev F.MRT_TIME_HI : Fld := ⟨0x140A, 31, 0⟩
/-- REQ_RESP_TOKEN. -/
abbrev F.REQ_RESP_TOKEN : Fld := ⟨0x140B, 31, 24⟩
/-- REQ_RESP_STATE. -/
abbrev F.REQ_RESP_STATE : Fld := ⟨0x140B, 23, 20⟩
/-- REQ_RESP_REASON. -/
abbrev F.REQ_RESP_REASON : Fld := ⟨0x140B, 15, 8⟩
/-- REQ_RESP_CODE. -/
abbrev F.REQ_RESP_CODE : Fld := ⟨0x140B, 7, 0⟩
/-- REC_HEAD. -/
abbrev F.REC_HEAD : Fld := ⟨0x140C, 15, 0⟩
/-- RUN_STAT_CONFIGURED. -/
abbrev F.RUN_STAT_CONFIGURED (n : Nat) : Fld := ⟨(0x1410 + 32 * n), 31, 31⟩
/-- RUN_STAT_FLOWING. -/
abbrev F.RUN_STAT_FLOWING (n : Nat) : Fld := ⟨(0x1410 + 32 * n), 30, 30⟩
/-- RUN_STAT_TWIN. -/
abbrev F.RUN_STAT_TWIN (n : Nat) : Fld := ⟨(0x1410 + 32 * n), 29, 29⟩
/-- RUN_STAT_ALARMS. -/
abbrev F.RUN_STAT_ALARMS (n : Nat) : Fld := ⟨(0x1410 + 32 * n), 9, 0⟩
/-- RUN_FREQ_MHZ. -/
abbrev F.RUN_FREQ_MHZ (n : Nat) : Fld := ⟨(0x1411 + 32 * n), 31, 0⟩
/-- RUN_PHASE. -/
abbrev F.RUN_PHASE (n : Nat) : Fld := ⟨(0x1412 + 32 * n), 15, 0⟩
/-- RUN_ERR_PULSES. -/
abbrev F.RUN_ERR_PULSES (n : Nat) : Fld := ⟨(0x1413 + 32 * n), 31, 0⟩
/-- RUN_PULSES_LO. -/
abbrev F.RUN_PULSES_LO (n : Nat) : Fld := ⟨(0x1414 + 32 * n), 31, 0⟩
/-- RUN_PULSES_HI. -/
abbrev F.RUN_PULSES_HI (n : Nat) : Fld := ⟨(0x1415 + 32 * n), 31, 0⟩
/-- RUN_IV_LO. -/
abbrev F.RUN_IV_LO (n : Nat) : Fld := ⟨(0x1416 + 32 * n), 31, 0⟩
/-- RUN_IV_HI. -/
abbrev F.RUN_IV_HI (n : Nat) : Fld := ⟨(0x1417 + 32 * n), 31, 0⟩
/-- RUN_GSV_LO. -/
abbrev F.RUN_GSV_LO (n : Nat) : Fld := ⟨(0x1418 + 32 * n), 31, 0⟩
/-- RUN_GSV_HI. -/
abbrev F.RUN_GSV_HI (n : Nat) : Fld := ⟨(0x1419 + 32 * n), 31, 0⟩
/-- RUN_MASS_LO. -/
abbrev F.RUN_MASS_LO (n : Nat) : Fld := ⟨(0x141A + 32 * n), 31, 0⟩
/-- RUN_MASS_HI. -/
abbrev F.RUN_MASS_HI (n : Nat) : Fld := ⟨(0x141B + 32 * n), 31, 0⟩
/-- RUN_ALM_GSV_LO. -/
abbrev F.RUN_ALM_GSV_LO (n : Nat) : Fld := ⟨(0x141C + 32 * n), 31, 0⟩
/-- RUN_ALM_GSV_HI. -/
abbrev F.RUN_ALM_GSV_HI (n : Nat) : Fld := ⟨(0x141D + 32 * n), 31, 0⟩
/-- RUN_IV_RATE. -/
abbrev F.RUN_IV_RATE (n : Nat) : Fld := ⟨(0x141E + 32 * n), 31, 0⟩
/-- RUN_GSV_RATE. -/
abbrev F.RUN_GSV_RATE (n : Nat) : Fld := ⟨(0x141F + 32 * n), 31, 0⟩
/-- RUN_MASS_RATE. -/
abbrev F.RUN_MASS_RATE (n : Nat) : Fld := ⟨(0x1420 + 32 * n), 31, 0⟩
/-- RUN_PRESS. -/
abbrev F.RUN_PRESS (n : Nat) : Fld := ⟨(0x1421 + 32 * n), 31, 0⟩
/-- RUN_TEMP. -/
abbrev F.RUN_TEMP (n : Nat) : Fld := ⟨(0x1422 + 32 * n), 31, 0⟩
/-- RUN_DENS. -/
abbrev F.RUN_DENS (n : Nat) : Fld := ⟨(0x1423 + 32 * n), 31, 0⟩
/-- RUN_CTL. -/
abbrev F.RUN_CTL (n : Nat) : Fld := ⟨(0x1424 + 32 * n), 31, 0⟩
/-- RUN_CPL. -/
abbrev F.RUN_CPL (n : Nat) : Fld := ⟨(0x1425 + 32 * n), 31, 0⟩
/-- RUN_MF. -/
abbrev F.RUN_MF (n : Nat) : Fld := ⟨(0x1426 + 32 * n), 31, 0⟩
/-- RUN_KF. -/
abbrev F.RUN_KF (n : Nat) : Fld := ⟨(0x1427 + 32 * n), 31, 0⟩
/-- RUN_REV_PULSES. -/
abbrev F.RUN_REV_PULSES (n : Nat) : Fld := ⟨(0x1428 + 32 * n), 31, 0⟩
/-- RUN_BATCH_NO. -/
abbrev F.RUN_BATCH_NO (n : Nat) : Fld := ⟨(0x1429 + 32 * n), 31, 0⟩
/-- PRV_STAT_STATE. -/
abbrev F.PRV_STAT_STATE : Fld := ⟨0x1450, 31, 28⟩
/-- PRV_STAT_RUN. -/
abbrev F.PRV_STAT_RUN : Fld := ⟨0x1450, 27, 27⟩
/-- PRV_STAT_DONE. -/
abbrev F.PRV_STAT_DONE : Fld := ⟨0x1450, 23, 16⟩
/-- PRV_STAT_REQUESTED. -/
abbrev F.PRV_STAT_REQUESTED : Fld := ⟨0x1450, 15, 8⟩
/-- PRV_STAT_REASON. -/
abbrev F.PRV_STAT_REASON : Fld := ⟨0x1450, 7, 0⟩
/-- PRV_NI_LAST. -/
abbrev F.PRV_NI_LAST : Fld := ⟨0x1451, 31, 0⟩
/-- PRV_NI_MEAN. -/
abbrev F.PRV_NI_MEAN : Fld := ⟨0x1452, 31, 0⟩
/-- PRV_REPEAT. -/
abbrev F.PRV_REPEAT : Fld := ⟨0x1453, 31, 0⟩
/-- PRV_MF. -/
abbrev F.PRV_MF : Fld := ⟨0x1454, 31, 0⟩
/-- MA_UA. -/
abbrev F.MA_UA (n : Nat) : Fld := ⟨(0x1460 + 4 * n), 31, 0⟩
/-- MA_STAT_HART_OK. -/
abbrev F.MA_STAT_HART_OK (n : Nat) : Fld := ⟨(0x1461 + 4 * n), 5, 5⟩
/-- MA_STAT_PRIMARY. -/
abbrev F.MA_STAT_PRIMARY (n : Nat) : Fld := ⟨(0x1461 + 4 * n), 4, 4⟩
/-- MA_STAT_SRC_HART. -/
abbrev F.MA_STAT_SRC_HART (n : Nat) : Fld := ⟨(0x1461 + 4 * n), 3, 3⟩
/-- MA_STAT_FAIL. -/
abbrev F.MA_STAT_FAIL (n : Nat) : Fld := ⟨(0x1461 + 4 * n), 2, 2⟩
/-- MA_STAT_RANGE. -/
abbrev F.MA_STAT_RANGE (n : Nat) : Fld := ⟨(0x1461 + 4 * n), 1, 1⟩
/-- MA_STAT_ASSIGNED. -/
abbrev F.MA_STAT_ASSIGNED (n : Nat) : Fld := ⟨(0x1461 + 4 * n), 0, 0⟩
/-- HART_PV. -/
abbrev F.HART_PV (n : Nat) : Fld := ⟨(0x1462 + 4 * n), 31, 0⟩
/-- REC. -/
abbrev F.REC (n : Nat) : Fld := ⟨(0x1480 + 1 * n), 31, 0⟩
/-- PTN_STAT_PTN_VALID. -/
abbrev F.PTN_STAT_PTN_VALID : Fld := ⟨0x14C0, 31, 31⟩
/-- PTN_STAT_MSTATE. -/
abbrev F.PTN_STAT_MSTATE : Fld := ⟨0x14C0, 30, 28⟩
/-- PTN_STAT_SLOT. -/
abbrev F.PTN_STAT_SLOT : Fld := ⟨0x14C0, 27, 27⟩
/-- PTN_STAT_AGE_MS. -/
abbrev F.PTN_STAT_AGE_MS : Fld := ⟨0x14C0, 7, 0⟩
/-- PTN_MRT_ID. -/
abbrev F.PTN_MRT_ID : Fld := ⟨0x14C1, 31, 0⟩
/-- PTN_FW_CRC. -/
abbrev F.PTN_FW_CRC : Fld := ⟨0x14C2, 31, 0⟩
/-- PTN_SEAL_CNT. -/
abbrev F.PTN_SEAL_CNT : Fld := ⟨0x14C3, 31, 0⟩
/-- PTN_GSV0_LO. -/
abbrev F.PTN_GSV0_LO : Fld := ⟨0x14C4, 31, 0⟩
/-- PTN_GSV0_HI. -/
abbrev F.PTN_GSV0_HI : Fld := ⟨0x14C5, 31, 0⟩
/-- PTN_MASS0_LO. -/
abbrev F.PTN_MASS0_LO : Fld := ⟨0x14C6, 31, 0⟩
/-- PTN_MASS0_HI. -/
abbrev F.PTN_MASS0_HI : Fld := ⟨0x14C7, 31, 0⟩
/-- PTN_GSV1_LO. -/
abbrev F.PTN_GSV1_LO : Fld := ⟨0x14C8, 31, 0⟩
/-- PTN_GSV1_HI. -/
abbrev F.PTN_GSV1_HI : Fld := ⟨0x14C9, 31, 0⟩
/-- PTN_MASS1_LO. -/
abbrev F.PTN_MASS1_LO : Fld := ⟨0x14CA, 31, 0⟩
/-- PTN_MASS1_HI. -/
abbrev F.PTN_MASS1_HI : Fld := ⟨0x14CB, 31, 0⟩
/-- PTN_SEQ. -/
abbrev F.PTN_SEQ : Fld := ⟨0x14CC, 31, 0⟩
/-- REQ_CMD_TOKEN. -/
abbrev F.REQ_CMD_TOKEN : Fld := ⟨0x14F0, 31, 24⟩
/-- REQ_CMD_CODE. -/
abbrev F.REQ_CMD_CODE : Fld := ⟨0x14F0, 7, 0⟩
/-- REQ_ARG. -/
abbrev F.REQ_ARG (n : Nat) : Fld := ⟨(0x14F1 + 1 * n), 31, 0⟩
/-- LIO_STAT_LINK_OK. -/
abbrev F.LIO_STAT_LINK_OK : Fld := ⟨0x1500, 31, 31⟩
/-- LIO_STAT_FLD_OK. -/
abbrev F.LIO_STAT_FLD_OK : Fld := ⟨0x1500, 30, 30⟩
/-- LIO_STAT_FAILSAFE. -/
abbrev F.LIO_STAT_FAILSAFE : Fld := ⟨0x1500, 29, 29⟩
/-- LIO_STAT_CFG_ERR. -/
abbrev F.LIO_STAT_CFG_ERR : Fld := ⟨0x1500, 28, 28⟩
/-- LIO_STAT_FLD_MV. -/
abbrev F.LIO_STAT_FLD_MV : Fld := ⟨0x1500, 15, 0⟩
/-- LIO_HOLD. -/
abbrev F.LIO_HOLD : Fld := ⟨0x1501, 19, 0⟩
/-- LINK_ERR_HOST. -/
abbrev F.LINK_ERR_HOST : Fld := ⟨0x1502, 31, 16⟩
/-- LINK_ERR_FIELD. -/
abbrev F.LINK_ERR_FIELD : Fld := ⟨0x1502, 15, 0⟩
/-- LINK_LOSS. -/
abbrev F.LINK_LOSS : Fld := ⟨0x1503, 31, 0⟩
/-- CJ_TEMP. -/
abbrev F.CJ_TEMP : Fld := ⟨0x1504, 15, 0⟩
/-- EDGE_LOST. -/
abbrev F.EDGE_LOST : Fld := ⟨0x1505, 31, 0⟩
/-- DI_LIVE_STUCK. -/
abbrev F.DI_LIVE_STUCK : Fld := ⟨0x1506, 31, 16⟩
/-- DI_LIVE_WBRK. -/
abbrev F.DI_LIVE_WBRK : Fld := ⟨0x1506, 15, 0⟩
/-- DI_EVT_CHATTER. -/
abbrev F.DI_EVT_CHATTER : Fld := ⟨0x1507, 31, 16⟩
/-- DI_EVT_WBRK_SEEN. -/
abbrev F.DI_EVT_WBRK_SEEN : Fld := ⟨0x1507, 15, 0⟩
/-- DI_STUCK_EVT. -/
abbrev F.DI_STUCK_EVT : Fld := ⟨0x1508, 15, 0⟩
/-- DI_EDGE_DIR. -/
abbrev F.DI_EDGE_DIR : Fld := ⟨0x1509, 15, 0⟩
/-- CNT_STAT_CLR. -/
abbrev F.CNT_STAT_CLR : Fld := ⟨0x150A, 11, 8⟩
/-- CNT_STAT_OVERRUN. -/
abbrev F.CNT_STAT_OVERRUN : Fld := ⟨0x150A, 3, 0⟩
/-- HART_CFG_PREAMBLES. -/
abbrev F.HART_CFG_PREAMBLES : Fld := ⟨0x150B, 12, 8⟩
/-- HART_CFG_RETRY. -/
abbrev F.HART_CFG_RETRY : Fld := ⟨0x150B, 1, 0⟩
/-- DI_CFG_TYPE3. -/
abbrev F.DI_CFG_TYPE3 (n : Nat) : Fld := ⟨(0x1510 + 1 * n), 31, 31⟩
/-- DI_CFG_WB_EN. -/
abbrev F.DI_CFG_WB_EN (n : Nat) : Fld := ⟨(0x1510 + 1 * n), 30, 30⟩
/-- DI_CFG_CNT_EN. -/
abbrev F.DI_CFG_CNT_EN (n : Nat) : Fld := ⟨(0x1510 + 1 * n), 29, 29⟩
/-- DI_CFG_DEB_US. -/
abbrev F.DI_CFG_DEB_US (n : Nat) : Fld := ⟨(0x1510 + 1 * n), 15, 0⟩
/-- DI_STUCK. -/
abbrev F.DI_STUCK (n : Nat) : Fld := ⟨(0x1520 + 1 * n), 26, 0⟩
/-- DI_TS_LO. -/
abbrev F.DI_TS_LO (n : Nat) : Fld := ⟨(0x1540 + 2 * n), 31, 0⟩
/-- DI_TS_HI. -/
abbrev F.DI_TS_HI (n : Nat) : Fld := ⟨(0x1541 + 2 * n), 31, 0⟩
/-- DO_CFG_OPEN_EN. -/
abbrev F.DO_CFG_OPEN_EN (n : Nat) : Fld := ⟨(0x1560 + 1 * n), 31, 31⟩
/-- DO_CFG_RB_CHK. -/
abbrev F.DO_CFG_RB_CHK (n : Nat) : Fld := ⟨(0x1560 + 1 * n), 30, 30⟩
/-- DO_CFG_FAIL. -/
abbrev F.DO_CFG_FAIL (n : Nat) : Fld := ⟨(0x1560 + 1 * n), 29, 28⟩
/-- DO_LIVE_MISMATCH. -/
abbrev F.DO_LIVE_MISMATCH : Fld := ⟨0x1568, 23, 16⟩
/-- DO_LIVE_OPEN. -/
abbrev F.DO_LIVE_OPEN : Fld := ⟨0x1568, 15, 8⟩
/-- DO_LIVE_OFF. -/
abbrev F.DO_LIVE_OFF : Fld := ⟨0x1568, 7, 0⟩
/-- DO_EVT_THERM. -/
abbrev F.DO_EVT_THERM : Fld := ⟨0x1569, 31, 24⟩
/-- DO_EVT_MISMATCH. -/
abbrev F.DO_EVT_MISMATCH : Fld := ⟨0x1569, 23, 16⟩
/-- DO_EVT_OPEN. -/
abbrev F.DO_EVT_OPEN : Fld := ⟨0x1569, 15, 8⟩
/-- DO_EVT_SHORT. -/
abbrev F.DO_EVT_SHORT : Fld := ⟨0x1569, 7, 0⟩
/-- UC_CFG_HART_EN. -/
abbrev F.UC_CFG_HART_EN (n : Nat) : Fld := ⟨(0x1580 + 4 * n), 31, 31⟩
/-- UC_CFG_FAIL. -/
abbrev F.UC_CFG_FAIL (n : Nat) : Fld := ⟨(0x1580 + 4 * n), 26, 24⟩
/-- UC_CFG_SENS. -/
abbrev F.UC_CFG_SENS (n : Nat) : Fld := ⟨(0x1580 + 4 * n), 23, 20⟩
/-- UC_CFG_WIRES. -/
abbrev F.UC_CFG_WIRES (n : Nat) : Fld := ⟨(0x1580 + 4 * n), 19, 18⟩
/-- UC_CFG_CJ_FIXED. -/
abbrev F.UC_CFG_CJ_FIXED (n : Nat) : Fld := ⟨(0x1580 + 4 * n), 17, 17⟩
/-- UC_CFG_RATE. -/
abbrev F.UC_CFG_RATE (n : Nat) : Fld := ⟨(0x1580 + 4 * n), 15, 12⟩
/-- UC_CFG_MODE. -/
abbrev F.UC_CFG_MODE (n : Nat) : Fld := ⟨(0x1580 + 4 * n), 3, 0⟩
/-- UC_PARAM. -/
abbrev F.UC_PARAM (n : Nat) : Fld := ⟨(0x1581 + 4 * n), 15, 0⟩
/-- UC_FAILVAL. -/
abbrev F.UC_FAILVAL (n : Nat) : Fld := ⟨(0x1582 + 4 * n), 15, 0⟩
/-- UC_EVT_NE43_FAIL. -/
abbrev F.UC_EVT_NE43_FAIL (n : Nat) : Fld := ⟨(0x1583 + 4 * n), 8, 8⟩
/-- UC_EVT_CJ_FAIL. -/
abbrev F.UC_EVT_CJ_FAIL (n : Nat) : Fld := ⟨(0x1583 + 4 * n), 7, 7⟩
/-- UC_EVT_COMPLY. -/
abbrev F.UC_EVT_COMPLY (n : Nat) : Fld := ⟨(0x1583 + 4 * n), 6, 6⟩
/-- UC_EVT_ALARM_HI. -/
abbrev F.UC_EVT_ALARM_HI (n : Nat) : Fld := ⟨(0x1583 + 4 * n), 5, 5⟩
/-- UC_EVT_ALARM_LO. -/
abbrev F.UC_EVT_ALARM_LO (n : Nat) : Fld := ⟨(0x1583 + 4 * n), 4, 4⟩
/-- UC_EVT_UNDER. -/
abbrev F.UC_EVT_UNDER (n : Nat) : Fld := ⟨(0x1583 + 4 * n), 3, 3⟩
/-- UC_EVT_OVER. -/
abbrev F.UC_EVT_OVER (n : Nat) : Fld := ⟨(0x1583 + 4 * n), 2, 2⟩
/-- UC_EVT_SHORT. -/
abbrev F.UC_EVT_SHORT (n : Nat) : Fld := ⟨(0x1583 + 4 * n), 1, 1⟩
/-- UC_EVT_OPEN. -/
abbrev F.UC_EVT_OPEN (n : Nat) : Fld := ⟨(0x1583 + 4 * n), 0, 0⟩
/-- UC_HART_DONE_CNT. -/
abbrev F.UC_HART_DONE_CNT (n : Nat) : Fld := ⟨(0x15A0 + 1 * n), 31, 16⟩
/-- UC_HART_ERR. -/
abbrev F.UC_HART_ERR (n : Nat) : Fld := ⟨(0x15A0 + 1 * n), 15, 8⟩
/-- UC_HART_RSP. -/
abbrev F.UC_HART_RSP (n : Nat) : Fld := ⟨(0x15A0 + 1 * n), 7, 0⟩
/-- RING_STAT_RUNNING. -/
abbrev F.RING_STAT_RUNNING : Fld := ⟨0x1800, 31, 31⟩
/-- RING_STAT_OPEN. -/
abbrev F.RING_STAT_OPEN : Fld := ⟨0x1800, 30, 30⟩
/-- RING_STAT_LINK_A. -/
abbrev F.RING_STAT_LINK_A : Fld := ⟨0x1800, 29, 29⟩
/-- RING_STAT_LINK_B. -/
abbrev F.RING_STAT_LINK_B : Fld := ⟨0x1800, 28, 28⟩
/-- RING_STAT_RATE_A. -/
abbrev F.RING_STAT_RATE_A : Fld := ⟨0x1800, 27, 26⟩
/-- RING_STAT_RATE_B. -/
abbrev F.RING_STAT_RATE_B : Fld := ⟨0x1800, 25, 24⟩
/-- RING_STAT_BREAK_AFTER. -/
abbrev F.RING_STAT_BREAK_AFTER : Fld := ⟨0x1800, 23, 16⟩
/-- RING_STAT_ADMITTED. -/
abbrev F.RING_STAT_ADMITTED : Fld := ⟨0x1800, 15, 8⟩
/-- RING_STAT_RESERVED. -/
abbrev F.RING_STAT_RESERVED : Fld := ⟨0x1800, 7, 0⟩
/-- RING_CFG_ACYC_RETRY. -/
abbrev F.RING_CFG_ACYC_RETRY : Fld := ⟨0x1801, 31, 30⟩
/-- RING_CFG_ACYC_TMO. -/
abbrev F.RING_CFG_ACYC_TMO : Fld := ⟨0x1801, 29, 16⟩
/-- RING_CFG_LOST_CYCLES. -/
abbrev F.RING_CFG_LOST_CYCLES : Fld := ⟨0x1801, 15, 12⟩
/-- RING_CFG_RC. -/
abbrev F.RING_CFG_RC : Fld := ⟨0x1801, 11, 0⟩
/-- RING_CYCLE. -/
abbrev F.RING_CYCLE : Fld := ⟨0x1802, 31, 0⟩
/-- SIGNALS. -/
abbrev F.SIGNALS : Fld := ⟨0x1803, 16, 0⟩
/-- RING_LOAD. -/
abbrev F.RING_LOAD : Fld := ⟨0x1804, 15, 0⟩
/-- RX_ERR. -/
abbrev F.RX_ERR : Fld := ⟨0x1805, 31, 0⟩
/-- LATE_CNT. -/
abbrev F.LATE_CNT : Fld := ⟨0x1806, 31, 0⟩
/-- ACYC_STAT_DONE. -/
abbrev F.ACYC_STAT_DONE : Fld := ⟨0x1807, 31, 16⟩
/-- ACYC_STAT_FLIGHT. -/
abbrev F.ACYC_STAT_FLIGHT : Fld := ⟨0x1807, 7, 0⟩
/-- ACYC_FAIL. -/
abbrev F.ACYC_FAIL : Fld := ⟨0x1808, 31, 0⟩
/-- RING_EVT_STALE_SEEN. -/
abbrev F.RING_EVT_STALE_SEEN : Fld := ⟨0x1809, 6, 6⟩
/-- RING_EVT_CFG_ERR. -/
abbrev F.RING_EVT_CFG_ERR : Fld := ⟨0x1809, 5, 5⟩
/-- RING_EVT_ACYC_FAIL. -/
abbrev F.RING_EVT_ACYC_FAIL : Fld := ⟨0x1809, 4, 4⟩
/-- RING_EVT_LATE. -/
abbrev F.RING_EVT_LATE : Fld := ⟨0x1809, 3, 3⟩
/-- RING_EVT_RESERVE. -/
abbrev F.RING_EVT_RESERVE : Fld := ⟨0x1809, 2, 2⟩
/-- RING_EVT_LOST. -/
abbrev F.RING_EVT_LOST : Fld := ⟨0x1809, 1, 1⟩
/-- RING_EVT_OPEN_SEEN. -/
abbrev F.RING_EVT_OPEN_SEEN : Fld := ⟨0x1809, 0, 0⟩
/-- TC_RESID_MAX. -/
abbrev F.TC_RESID_MAX : Fld := ⟨0x180A, 31, 0⟩
/-- STALE_CNT. -/
abbrev F.STALE_CNT : Fld := ⟨0x180B, 31, 0⟩
/-- RSV_OVF. -/
abbrev F.RSV_OVF : Fld := ⟨0x180C, 31, 0⟩
/-- PLANT_STAT_LINK1. -/
abbrev F.PLANT_STAT_LINK1 : Fld := ⟨0x1820, 31, 31⟩
/-- PLANT_STAT_LINK2. -/
abbrev F.PLANT_STAT_LINK2 : Fld := ⟨0x1820, 30, 30⟩
/-- PLANT_STAT_PAIR_UP. -/
abbrev F.PLANT_STAT_PAIR_UP : Fld := ⟨0x1820, 29, 29⟩
/-- PLANT_STAT_SESSIONS. -/
abbrev F.PLANT_STAT_SESSIONS : Fld := ⟨0x1820, 22, 16⟩
/-- PLANT_CFG_PAIR_EN. -/
abbrev F.PLANT_CFG_PAIR_EN : Fld := ⟨0x1821, 3, 3⟩
/-- PLANT_CFG_V6_EN. -/
abbrev F.PLANT_CFG_V6_EN : Fld := ⟨0x1821, 2, 2⟩
/-- PLANT_CFG_ICMP_EN. -/
abbrev F.PLANT_CFG_ICMP_EN : Fld := ⟨0x1821, 1, 1⟩
/-- PLANT_CFG_SES_EN. -/
abbrev F.PLANT_CFG_SES_EN : Fld := ⟨0x1821, 0, 0⟩
/-- IP4_ADDR1. -/
abbrev F.IP4_ADDR1 : Fld := ⟨0x1822, 31, 0⟩
/-- IP4_PFX1. -/
abbrev F.IP4_PFX1 : Fld := ⟨0x1823, 5, 0⟩
/-- IP4_GW1. -/
abbrev F.IP4_GW1 : Fld := ⟨0x1824, 31, 0⟩
/-- IP4_ADDR2. -/
abbrev F.IP4_ADDR2 : Fld := ⟨0x1825, 31, 0⟩
/-- IP4_PFX2. -/
abbrev F.IP4_PFX2 : Fld := ⟨0x1826, 5, 0⟩
/-- IP4_GW2. -/
abbrev F.IP4_GW2 : Fld := ⟨0x1827, 31, 0⟩
/-- PAIR4. -/
abbrev F.PAIR4 (n : Nat) : Fld := ⟨(0x1828 + 1 * n), 31, 0⟩
/-- IP6_ADDR1. -/
abbrev F.IP6_ADDR1 (n : Nat) : Fld := ⟨(0x1830 + 1 * n), 31, 0⟩
/-- IP6_PFX1. -/
abbrev F.IP6_PFX1 : Fld := ⟨0x1834, 6, 0⟩
/-- IP6_ADDR2. -/
abbrev F.IP6_ADDR2 (n : Nat) : Fld := ⟨(0x1835 + 1 * n), 31, 0⟩
/-- IP6_PFX2. -/
abbrev F.IP6_PFX2 : Fld := ⟨0x1839, 6, 0⟩
/-- PAIR6. -/
abbrev F.PAIR6 (n : Nat) : Fld := ⟨(0x183A + 1 * n), 31, 0⟩
/-- SES_REFUSED. -/
abbrev F.SES_REFUSED : Fld := ⟨0x1850, 31, 0⟩
/-- AUTH_FAIL. -/
abbrev F.AUTH_FAIL : Fld := ⟨0x1851, 31, 0⟩
/-- REPLAY_DROP. -/
abbrev F.REPLAY_DROP : Fld := ⟨0x1852, 31, 0⟩
/-- NOT_ACTIVE_CNT. -/
abbrev F.NOT_ACTIVE_CNT : Fld := ⟨0x1853, 31, 0⟩
/-- MAC_LO. -/
abbrev F.MAC_LO (n : Nat) : Fld := ⟨(0x1858 + 2 * n), 31, 0⟩
/-- MAC_HI. -/
abbrev F.MAC_HI (n : Nat) : Fld := ⟨(0x1859 + 2 * n), 15, 0⟩
/-- RSV_INFO_VALID. -/
abbrev F.RSV_INFO_VALID (n : Nat) : Fld := ⟨(0x1860 + 4 * n), 31, 31⟩
/-- RSV_INFO_REASON. -/
abbrev F.RSV_INFO_REASON (n : Nat) : Fld := ⟨(0x1860 + 4 * n), 23, 20⟩
/-- RSV_INFO_GEN. -/
abbrev F.RSV_INFO_GEN (n : Nat) : Fld := ⟨(0x1860 + 4 * n), 19, 18⟩
/-- RSV_INFO_TAG. -/
abbrev F.RSV_INFO_TAG (n : Nat) : Fld := ⟨(0x1860 + 4 * n), 15, 0⟩
/-- RSV_MAC_LO. -/
abbrev F.RSV_MAC_LO (n : Nat) : Fld := ⟨(0x1861 + 4 * n), 31, 0⟩
/-- RSV_MAC_HI. -/
abbrev F.RSV_MAC_HI (n : Nat) : Fld := ⟨(0x1862 + 4 * n), 15, 0⟩
/-- RSV_SIG. -/
abbrev F.RSV_SIG (n : Nat) : Fld := ⟨(0x1863 + 4 * n), 9, 0⟩
/-- STN_CFG_EN. -/
abbrev F.STN_CFG_EN (n : Nat) : Fld := ⟨(0x1900 + 2 * n), 31, 31⟩
/-- STN_CFG_HOLD_US. -/
abbrev F.STN_CFG_HOLD_US (n : Nat) : Fld := ⟨(0x1900 + 2 * n), 30, 20⟩
/-- STN_CFG_DIV. -/
abbrev F.STN_CFG_DIV (n : Nat) : Fld := ⟨(0x1900 + 2 * n), 19, 10⟩
/-- STN_CFG_DPHASE. -/
abbrev F.STN_CFG_DPHASE (n : Nat) : Fld := ⟨(0x1900 + 2 * n), 9, 0⟩
/-- STN_STAT_ADMITTED. -/
abbrev F.STN_STAT_ADMITTED (n : Nat) : Fld := ⟨(0x1901 + 2 * n), 31, 31⟩
/-- STN_STAT_VALID. -/
abbrev F.STN_STAT_VALID (n : Nat) : Fld := ⟨(0x1901 + 2 * n), 30, 30⟩
/-- STN_STAT_LOST. -/
abbrev F.STN_STAT_LOST (n : Nat) : Fld := ⟨(0x1901 + 2 * n), 29, 29⟩
/-- STN_STAT_SAFE. -/
abbrev F.STN_STAT_SAFE (n : Nat) : Fld := ⟨(0x1901 + 2 * n), 28, 28⟩
/-- STN_STAT_DIAG. -/
abbrev F.STN_STAT_DIAG (n : Nat) : Fld := ⟨(0x1901 + 2 * n), 27, 27⟩
/-- STN_STAT_GEN. -/
abbrev F.STN_STAT_GEN (n : Nat) : Fld := ⟨(0x1901 + 2 * n), 26, 25⟩
/-- STN_STAT_ONE_DIR. -/
abbrev F.STN_STAT_ONE_DIR (n : Nat) : Fld := ⟨(0x1901 + 2 * n), 24, 24⟩
/-- STN_STAT_EVT_ADMIT. -/
abbrev F.STN_STAT_EVT_ADMIT (n : Nat) : Fld := ⟨(0x1901 + 2 * n), 15, 15⟩
/-- STN_STAT_EVT_LOST. -/
abbrev F.STN_STAT_EVT_LOST (n : Nat) : Fld := ⟨(0x1901 + 2 * n), 14, 14⟩
/-- STN_STAT_EVT_FRAME. -/
abbrev F.STN_STAT_EVT_FRAME (n : Nat) : Fld := ⟨(0x1901 + 2 * n), 13, 13⟩
/-- STN_STAT_EVT_SAFE. -/
abbrev F.STN_STAT_EVT_SAFE (n : Nat) : Fld := ⟨(0x1901 + 2 * n), 12, 12⟩
/-- ADM_MAP. -/
abbrev F.ADM_MAP (n : Nat) : Fld := ⟨(0x1B00 + 1 * n), 31, 0⟩
/-- LOST_MAP. -/
abbrev F.LOST_MAP (n : Nat) : Fld := ⟨(0x1B08 + 1 * n), 31, 0⟩
/-- TIME_STAT_REF_SUSPECT. -/
abbrev F.TIME_STAT_REF_SUSPECT : Fld := ⟨0x1C00, 10, 10⟩
/-- TIME_STAT_UTC_VALID. -/
abbrev F.TIME_STAT_UTC_VALID : Fld := ⟨0x1C00, 9, 9⟩
/-- TIME_STAT_PORT. -/
abbrev F.TIME_STAT_PORT : Fld := ⟨0x1C00, 8, 8⟩
/-- TIME_STAT_STEPPED. -/
abbrev F.TIME_STAT_STEPPED : Fld := ⟨0x1C00, 4, 4⟩
/-- TIME_STAT_SLEWING. -/
abbrev F.TIME_STAT_SLEWING : Fld := ⟨0x1C00, 3, 3⟩
/-- TIME_STAT_STATE. -/
abbrev F.TIME_STAT_STATE : Fld := ⟨0x1C00, 2, 0⟩
/-- PTP_CFG_EN. -/
abbrev F.PTP_CFG_EN : Fld := ⟨0x1C01, 31, 31⟩
/-- PTP_CFG_IPV6. -/
abbrev F.PTP_CFG_IPV6 : Fld := ⟨0x1C01, 30, 30⟩
/-- PTP_CFG_PORT_LOCK. -/
abbrev F.PTP_CFG_PORT_LOCK : Fld := ⟨0x1C01, 29, 29⟩
/-- PTP_CFG_PREF. -/
abbrev F.PTP_CFG_PREF : Fld := ⟨0x1C01, 28, 28⟩
/-- PTP_CFG_ANN_TMO. -/
abbrev F.PTP_CFG_ANN_TMO : Fld := ⟨0x1C01, 27, 24⟩
/-- PTP_CFG_DOMAIN. -/
abbrev F.PTP_CFG_DOMAIN : Fld := ⟨0x1C01, 7, 0⟩
/-- NOW_LO. -/
abbrev F.NOW_LO : Fld := ⟨0x1C02, 31, 0⟩
/-- NOW_HI. -/
abbrev F.NOW_HI : Fld := ⟨0x1C03, 31, 0⟩
/-- OFFSET_NS. -/
abbrev F.OFFSET_NS : Fld := ⟨0x1C04, 31, 0⟩
/-- RATE_ADJ. -/
abbrev F.RATE_ADJ : Fld := ⟨0x1C05, 31, 0⟩
/-- MEAN_DELAY_NS. -/
abbrev F.MEAN_DELAY_NS : Fld := ⟨0x1C06, 31, 0⟩
/-- GM_ID_LO. -/
abbrev F.GM_ID_LO : Fld := ⟨0x1C07, 31, 0⟩
/-- GM_ID_HI. -/
abbrev F.GM_ID_HI : Fld := ⟨0x1C08, 31, 0⟩
/-- UTC_INFO_LEAP59. -/
abbrev F.UTC_INFO_LEAP59 : Fld := ⟨0x1C09, 17, 17⟩
/-- UTC_INFO_LEAP61. -/
abbrev F.UTC_INFO_LEAP61 : Fld := ⟨0x1C09, 16, 16⟩
/-- UTC_INFO_OFFSET. -/
abbrev F.UTC_INFO_OFFSET : Fld := ⟨0x1C09, 15, 0⟩
/-- STEP_LO. -/
abbrev F.STEP_LO : Fld := ⟨0x1C0A, 31, 0⟩
/-- STEP_HI. -/
abbrev F.STEP_HI : Fld := ⟨0x1C0B, 31, 0⟩
/-- SYNC_LOSS. -/
abbrev F.SYNC_LOSS : Fld := ⟨0x1C0C, 31, 0⟩
/-- TC_COUNT. -/
abbrev F.TC_COUNT : Fld := ⟨0x1C0D, 31, 0⟩
/-- CH_CFG_EN. -/
abbrev F.CH_CFG_EN (n : Nat) : Fld := ⟨(0x1D00 + 128 * n), 31, 31⟩
/-- CH_CFG_FD_EN. -/
abbrev F.CH_CFG_FD_EN (n : Nat) : Fld := ⟨(0x1D00 + 128 * n), 30, 30⟩
/-- CH_CFG_SAM. -/
abbrev F.CH_CFG_SAM (n : Nat) : Fld := ⟨(0x1D00 + 128 * n), 29, 29⟩
/-- CH_CFG_AUTO_REC. -/
abbrev F.CH_CFG_AUTO_REC (n : Nat) : Fld := ⟨(0x1D00 + 128 * n), 28, 28⟩
/-- CH_CFG_TDC_EN. -/
abbrev F.CH_CFG_TDC_EN (n : Nat) : Fld := ⟨(0x1D00 + 128 * n), 27, 27⟩
/-- CH_CFG_BOFF_HOLD. -/
abbrev F.CH_CFG_BOFF_HOLD (n : Nat) : Fld := ⟨(0x1D00 + 128 * n), 9, 0⟩
/-- NBT_BRP. -/
abbrev F.NBT_BRP (n : Nat) : Fld := ⟨(0x1D01 + 128 * n), 31, 24⟩
/-- NBT_TSEG1. -/
abbrev F.NBT_TSEG1 (n : Nat) : Fld := ⟨(0x1D01 + 128 * n), 23, 16⟩
/-- NBT_TSEG2. -/
abbrev F.NBT_TSEG2 (n : Nat) : Fld := ⟨(0x1D01 + 128 * n), 14, 8⟩
/-- NBT_SJW. -/
abbrev F.NBT_SJW (n : Nat) : Fld := ⟨(0x1D01 + 128 * n), 6, 0⟩
/-- DBT_BRP. -/
abbrev F.DBT_BRP (n : Nat) : Fld := ⟨(0x1D02 + 128 * n), 28, 24⟩
/-- DBT_TSEG1. -/
abbrev F.DBT_TSEG1 (n : Nat) : Fld := ⟨(0x1D02 + 128 * n), 20, 16⟩
/-- DBT_TSEG2. -/
abbrev F.DBT_TSEG2 (n : Nat) : Fld := ⟨(0x1D02 + 128 * n), 11, 8⟩
/-- DBT_SJW. -/
abbrev F.DBT_SJW (n : Nat) : Fld := ⟨(0x1D02 + 128 * n), 3, 0⟩
/-- TDC. -/
abbrev F.TDC (n : Nat) : Fld := ⟨(0x1D03 + 128 * n), 6, 0⟩
/-- CH_STAT_ESTATE. -/
abbrev F.CH_STAT_ESTATE (n : Nat) : Fld := ⟨(0x1D04 + 128 * n), 5, 4⟩
/-- CH_STAT_MODE. -/
abbrev F.CH_STAT_MODE (n : Nat) : Fld := ⟨(0x1D04 + 128 * n), 1, 0⟩
/-- ERR_CNT_TEC. -/
abbrev F.ERR_CNT_TEC (n : Nat) : Fld := ⟨(0x1D05 + 128 * n), 24, 16⟩
/-- ERR_CNT_REC. -/
abbrev F.ERR_CNT_REC (n : Nat) : Fld := ⟨(0x1D05 + 128 * n), 7, 0⟩
/-- LEC_DATA. -/
abbrev F.LEC_DATA (n : Nat) : Fld := ⟨(0x1D06 + 128 * n), 6, 4⟩
/-- LEC_NOM. -/
abbrev F.LEC_NOM (n : Nat) : Fld := ⟨(0x1D06 + 128 * n), 2, 0⟩
/-- CH_EVT_CFG_ERR. -/
abbrev F.CH_EVT_CFG_ERR (n : Nat) : Fld := ⟨(0x1D07 + 128 * n), 5, 5⟩
/-- CH_EVT_BOFF. -/
abbrev F.CH_EVT_BOFF (n : Nat) : Fld := ⟨(0x1D07 + 128 * n), 4, 4⟩
/-- CH_EVT_EPASS. -/
abbrev F.CH_EVT_EPASS (n : Nat) : Fld := ⟨(0x1D07 + 128 * n), 3, 3⟩
/-- CH_EVT_RTR_SEEN. -/
abbrev F.CH_EVT_RTR_SEEN (n : Nat) : Fld := ⟨(0x1D07 + 128 * n), 2, 2⟩
/-- CH_EVT_PEX. -/
abbrev F.CH_EVT_PEX (n : Nat) : Fld := ⟨(0x1D07 + 128 * n), 1, 1⟩
/-- CH_EVT_LOST_ANY. -/
abbrev F.CH_EVT_LOST_ANY (n : Nat) : Fld := ⟨(0x1D07 + 128 * n), 0, 0⟩
/-- CH_CTRL_ABORT_ALL. -/
abbrev F.CH_CTRL_ABORT_ALL (n : Nat) : Fld := ⟨(0x1D08 + 128 * n), 1, 1⟩
/-- CH_CTRL_REC_REQ. -/
abbrev F.CH_CTRL_REC_REQ (n : Nat) : Fld := ⟨(0x1D08 + 128 * n), 0, 0⟩
/-- NO_MATCH. -/
abbrev F.NO_MATCH (n : Nat) : Fld := ⟨(0x1D09 + 128 * n), 31, 0⟩
/-- BOFF_CNT. -/
abbrev F.BOFF_CNT (n : Nat) : Fld := ⟨(0x1D0A + 128 * n), 31, 0⟩
/-- RX_CNT. -/
abbrev F.RX_CNT (n : Nat) : Fld := ⟨(0x1D0B + 128 * n), 31, 0⟩
/-- TX_CNT. -/
abbrev F.TX_CNT (n : Nat) : Fld := ⟨(0x1D0C + 128 * n), 31, 0⟩
/-- NEW_MAP0. -/
abbrev F.NEW_MAP0 (n : Nat) : Fld := ⟨(0x1D10 + 128 * n), 31, 0⟩
/-- NEW_MAP1. -/
abbrev F.NEW_MAP1 (n : Nat) : Fld := ⟨(0x1D11 + 128 * n), 31, 0⟩
/-- PEND_MAP0. -/
abbrev F.PEND_MAP0 (n : Nat) : Fld := ⟨(0x1D12 + 128 * n), 31, 0⟩
/-- PEND_MAP1. -/
abbrev F.PEND_MAP1 (n : Nat) : Fld := ⟨(0x1D13 + 128 * n), 31, 0⟩
/-- VN_STAT_LEGAL_SEEN. -/
abbrev F.VN_STAT_LEGAL_SEEN : Fld := ⟨0x1E00, 9, 9⟩
/-- VN_STAT_REWRITE_PEND. -/
abbrev F.VN_STAT_REWRITE_PEND : Fld := ⟨0x1E00, 8, 8⟩
/-- VN_STAT_COLD. -/
abbrev F.VN_STAT_COLD : Fld := ⟨0x1E00, 7, 7⟩
/-- VN_STAT_HOT_BAND. -/
abbrev F.VN_STAT_HOT_BAND : Fld := ⟨0x1E00, 6, 6⟩
/-- VN_STAT_UPDATING. -/
abbrev F.VN_STAT_UPDATING : Fld := ⟨0x1E00, 5, 5⟩
/-- VN_STAT_BAND_VALID. -/
abbrev F.VN_STAT_BAND_VALID : Fld := ⟨0x1E00, 3, 3⟩
/-- VN_STAT_BAND. -/
abbrev F.VN_STAT_BAND : Fld := ⟨0x1E00, 2, 0⟩
/-- VN_CFG_FULL_EVERY. -/
abbrev F.VN_CFG_FULL_EVERY : Fld := ⟨0x1E01, 31, 24⟩
/-- VN_CFG_UPD_MIN_MS. -/
abbrev F.VN_CFG_UPD_MIN_MS : Fld := ⟨0x1E01, 15, 0⟩
/-- VN_CTRL_REFRESH. -/
abbrev F.VN_CTRL_REFRESH : Fld := ⟨0x1E02, 0, 0⟩
/-- VN_TEMP. -/
abbrev F.VN_TEMP : Fld := ⟨0x1E03, 15, 0⟩
/-- VN_EVT_CFG_ERR. -/
abbrev F.VN_EVT_CFG_ERR : Fld := ⟨0x1E04, 5, 5⟩
/-- VN_EVT_DRIVE_FAULT. -/
abbrev F.VN_EVT_DRIVE_FAULT : Fld := ⟨0x1E04, 4, 4⟩
/-- VN_EVT_COLD_ENTRY. -/
abbrev F.VN_EVT_COLD_ENTRY : Fld := ⟨0x1E04, 3, 3⟩
/-- VN_EVT_PWR_ABORT. -/
abbrev F.VN_EVT_PWR_ABORT : Fld := ⟨0x1E04, 2, 2⟩
/-- VN_EVT_TEMP_ABORT. -/
abbrev F.VN_EVT_TEMP_ABORT : Fld := ⟨0x1E04, 1, 1⟩
/-- VN_EVT_CRC_ERR. -/
abbrev F.VN_EVT_CRC_ERR : Fld := ⟨0x1E04, 0, 0⟩
/-- VN_UPD_CNT. -/
abbrev F.VN_UPD_CNT : Fld := ⟨0x1E05, 31, 0⟩
/-- VN_ABORT_CNT. -/
abbrev F.VN_ABORT_CNT : Fld := ⟨0x1E06, 31, 0⟩
/-- VN_LAST_DUR_MS. -/
abbrev F.VN_LAST_DUR_MS : Fld := ⟨0x1E07, 31, 20⟩
/-- VN_LAST_ROWS. -/
abbrev F.VN_LAST_ROWS : Fld := ⟨0x1E07, 19, 11⟩
/-- VN_LAST_PAIRS. -/
abbrev F.VN_LAST_PAIRS : Fld := ⟨0x1E07, 10, 5⟩
/-- VN_CRC_CUR. -/
abbrev F.VN_CRC_CUR : Fld := ⟨0x1E08, 31, 0⟩
/-- VN_CRC_TGT. -/
abbrev F.VN_CRC_TGT : Fld := ⟨0x1E09, 31, 0⟩
/-- VN_WF_ID. -/
abbrev F.VN_WF_ID : Fld := ⟨0x1E0A, 31, 0⟩
/-- VN_TAG. -/
abbrev F.VN_TAG (n : Nat) : Fld := ⟨(0x1E10 + 1 * n), 31, 0⟩
/-- VN_USER. -/
abbrev F.VN_USER (n : Nat) : Fld := ⟨(0x1E18 + 1 * n), 31, 0⟩
/-- PR_STAT_FIRST_VIOL. -/
abbrev F.PR_STAT_FIRST_VIOL : Fld := ⟨0x1F00, 31, 31⟩
/-- PR_STAT_PSYNC_WAIT. -/
abbrev F.PR_STAT_PSYNC_WAIT : Fld := ⟨0x1F00, 30, 30⟩
/-- PR_STAT_STAGED. -/
abbrev F.PR_STAT_STAGED : Fld := ⟨0x1F00, 29, 29⟩
/-- PR_STAT_CFG_ERR. -/
abbrev F.PR_STAT_CFG_ERR : Fld := ⟨0x1F00, 28, 28⟩
/-- PR_EPOCH. -/
abbrev F.PR_EPOCH : Fld := ⟨0x1F01, 31, 0⟩
/-- PR_VCNT. -/
abbrev F.PR_VCNT (n : Nat) : Fld := ⟨(0x1F02 + 1 * n), 31, 0⟩
/-- PR_CAP_INFO_MASTER. -/
abbrev F.PR_CAP_INFO_MASTER : Fld := ⟨0x1F08, 31, 29⟩
/-- PR_CAP_INFO_WRITE. -/
abbrev F.PR_CAP_INFO_WRITE : Fld := ⟨0x1F08, 28, 28⟩
/-- PR_CAP_INFO_AREA. -/
abbrev F.PR_CAP_INFO_AREA : Fld := ⟨0x1F08, 27, 24⟩
/-- PR_CAP_INFO_HARD. -/
abbrev F.PR_CAP_INFO_HARD : Fld := ⟨0x1F08, 23, 23⟩
/-- PR_CAP_INFO_STRADDLE. -/
abbrev F.PR_CAP_INFO_STRADDLE : Fld := ⟨0x1F08, 22, 22⟩
/-- PR_CAP_INFO_RULE. -/
abbrev F.PR_CAP_INFO_RULE : Fld := ⟨0x1F08, 20, 16⟩
/-- PR_CAP_INFO_SEL. -/
abbrev F.PR_CAP_INFO_SEL : Fld := ⟨0x1F08, 15, 0⟩
/-- PR_CAP_ADDR_LEN. -/
abbrev F.PR_CAP_ADDR_LEN : Fld := ⟨0x1F09, 26, 16⟩
/-- PR_CAP_ADDR_OFFSET. -/
abbrev F.PR_CAP_ADDR_OFFSET : Fld := ⟨0x1F09, 15, 0⟩
/-- PR_CAP_EPOCH. -/
abbrev F.PR_CAP_EPOCH : Fld := ⟨0x1F0A, 31, 0⟩
/-- PR_CAP_AGENT. -/
abbrev F.PR_CAP_AGENT : Fld := ⟨0x1F0B, 15, 0⟩
/-- PR_MSEL. -/
abbrev F.PR_MSEL : Fld := ⟨0x1F10, 2, 0⟩
/-- PR_RULE_A_EN. -/
abbrev F.PR_RULE_A_EN (n : Nat) : Fld := ⟨(0x1F40 + 2 * n), 31, 31⟩
/-- PR_RULE_A_RD. -/
abbrev F.PR_RULE_A_RD (n : Nat) : Fld := ⟨(0x1F40 + 2 * n), 30, 30⟩
/-- PR_RULE_A_WR. -/
abbrev F.PR_RULE_A_WR (n : Nat) : Fld := ⟨(0x1F40 + 2 * n), 29, 29⟩
/-- PR_RULE_A_AREA. -/
abbrev F.PR_RULE_A_AREA (n : Nat) : Fld := ⟨(0x1F40 + 2 * n), 28, 25⟩
/-- PR_RULE_A_SEL. -/
abbrev F.PR_RULE_A_SEL (n : Nat) : Fld := ⟨(0x1F40 + 2 * n), 15, 0⟩
/-- PR_RULE_B_LAST. -/
abbrev F.PR_RULE_B_LAST (n : Nat) : Fld := ⟨(0x1F41 + 2 * n), 31, 16⟩
/-- PR_RULE_B_FIRST. -/
abbrev F.PR_RULE_B_FIRST (n : Nat) : Fld := ⟨(0x1F41 + 2 * n), 15, 0⟩
/-- FC_STAT_TRAP. -/
abbrev F.FC_STAT_TRAP : Fld := ⟨0x2000, 31, 31⟩
/-- FC_STAT_ALV_STOPPED. -/
abbrev F.FC_STAT_ALV_STOPPED : Fld := ⟨0x2000, 30, 30⟩
/-- FC_STAT_CFG_ERR. -/
abbrev F.FC_STAT_CFG_ERR : Fld := ⟨0x2000, 29, 29⟩
/-- FC_STAT_TOP. -/
abbrev F.FC_STAT_TOP : Fld := ⟨0x2000, 22, 20⟩
/-- FC_STAT_QLEN. -/
abbrev F.FC_STAT_QLEN : Fld := ⟨0x2000, 19, 16⟩
/-- FC_CFG_TRAP_TASK. -/
abbrev F.FC_CFG_TRAP_TASK : Fld := ⟨0x2001, 22, 16⟩
/-- FC_CFG_FAULT_TASK. -/
abbrev F.FC_CFG_FAULT_TASK : Fld := ⟨0x2001, 6, 0⟩
/-- FC_PEND. -/
abbrev F.FC_PEND (n : Nat) : Fld := ⟨(0x2002 + 1 * n), 31, 0⟩
/-- FC_FIRST_VALID. -/
abbrev F.FC_FIRST_VALID : Fld := ⟨0x2004, 31, 31⟩
/-- FC_FIRST_SRC. -/
abbrev F.FC_FIRST_SRC : Fld := ⟨0x2004, 5, 0⟩
/-- FC_FIRST_TLO. -/
abbrev F.FC_FIRST_TLO : Fld := ⟨0x2005, 31, 0⟩
/-- FC_FIRST_THI. -/
abbrev F.FC_FIRST_THI : Fld := ⟨0x2006, 31, 0⟩
/-- FC_LAST_VALID. -/
abbrev F.FC_LAST_VALID : Fld := ⟨0x2007, 31, 31⟩
/-- FC_LAST_SRC. -/
abbrev F.FC_LAST_SRC : Fld := ⟨0x2007, 5, 0⟩
/-- FC_LAST_TLO. -/
abbrev F.FC_LAST_TLO : Fld := ⟨0x2008, 31, 0⟩
/-- FC_LAST_THI. -/
abbrev F.FC_LAST_THI : Fld := ⟨0x2009, 31, 0⟩
/-- FC_QOVF. -/
abbrev F.FC_QOVF : Fld := ⟨0x200A, 31, 0⟩
/-- FC_CTRL_CLR_CNT. -/
abbrev F.FC_CTRL_CLR_CNT : Fld := ⟨0x200B, 2, 2⟩
/-- FC_CTRL_CLR_QOVF. -/
abbrev F.FC_CTRL_CLR_QOVF : Fld := ⟨0x200B, 1, 1⟩
/-- FC_CTRL_CLR_FIRST. -/
abbrev F.FC_CTRL_CLR_FIRST : Fld := ⟨0x200B, 0, 0⟩
/-- FC_REACT_R0. -/
abbrev F.FC_REACT_R0 (n : Nat) : Fld := ⟨(0x2010 + 1 * n), 2, 0⟩
/-- FC_REACT_R1. -/
abbrev F.FC_REACT_R1 (n : Nat) : Fld := ⟨(0x2010 + 1 * n), 6, 4⟩
/-- FC_REACT_R2. -/
abbrev F.FC_REACT_R2 (n : Nat) : Fld := ⟨(0x2010 + 1 * n), 10, 8⟩
/-- FC_REACT_R3. -/
abbrev F.FC_REACT_R3 (n : Nat) : Fld := ⟨(0x2010 + 1 * n), 14, 12⟩
/-- FC_REACT_R4. -/
abbrev F.FC_REACT_R4 (n : Nat) : Fld := ⟨(0x2010 + 1 * n), 18, 16⟩
/-- FC_REACT_R5. -/
abbrev F.FC_REACT_R5 (n : Nat) : Fld := ⟨(0x2010 + 1 * n), 22, 20⟩
/-- FC_REACT_R6. -/
abbrev F.FC_REACT_R6 (n : Nat) : Fld := ⟨(0x2010 + 1 * n), 26, 24⟩
/-- FC_REACT_R7. -/
abbrev F.FC_REACT_R7 (n : Nat) : Fld := ⟨(0x2010 + 1 * n), 30, 28⟩
/-- FC_JIG_SAFE. -/
abbrev F.FC_JIG_SAFE : Fld := ⟨0x2020, 31, 31⟩
/-- FC_JIG_CHECKER. -/
abbrev F.FC_JIG_CHECKER : Fld := ⟨0x2020, 18, 16⟩
/-- FC_JIG_COUNT. -/
abbrev F.FC_JIG_COUNT : Fld := ⟨0x2020, 7, 0⟩
/-- FC_JIG_STAT_ARMED. -/
abbrev F.FC_JIG_STAT_ARMED : Fld := ⟨0x2021, 31, 31⟩
/-- FC_JIG_STAT_DONE. -/
abbrev F.FC_JIG_STAT_DONE : Fld := ⟨0x2021, 30, 30⟩
/-- FC_JIG_STAT_CHECKER. -/
abbrev F.FC_JIG_STAT_CHECKER : Fld := ⟨0x2021, 18, 16⟩
/-- FC_JIG_STAT_HITS. -/
abbrev F.FC_JIG_STAT_HITS : Fld := ⟨0x2021, 15, 8⟩
/-- FC_JIG_STAT_LEFT. -/
abbrev F.FC_JIG_STAT_LEFT : Fld := ⟨0x2021, 7, 0⟩
/-- FC_CNT. -/
abbrev F.FC_CNT (n : Nat) : Fld := ⟨(0x2030 + 1 * n), 31, 0⟩
/-- REC_STAT_FROZEN. -/
abbrev F.REC_STAT_FROZEN : Fld := ⟨0x2100, 31, 31⟩
/-- REC_STAT_FLUSHING. -/
abbrev F.REC_STAT_FLUSHING : Fld := ⟨0x2100, 30, 30⟩
/-- REC_STAT_CFG_ERR. -/
abbrev F.REC_STAT_CFG_ERR : Fld := ⟨0x2100, 29, 29⟩
/-- REC_STAT_UNFLUSHED. -/
abbrev F.REC_STAT_UNFLUSHED : Fld := ⟨0x2100, 14, 0⟩
/-- REC_CFG_FREEZE_S. -/
abbrev F.REC_CFG_FREEZE_S : Fld := ⟨0x2101, 31, 24⟩
/-- REC_CFG_RATE_LIMIT. -/
abbrev F.REC_CFG_RATE_LIMIT : Fld := ⟨0x2101, 15, 0⟩
/-- REC_CTRL_FLUSH. -/
abbrev F.REC_CTRL_FLUSH : Fld := ⟨0x2102, 2, 2⟩
/-- REC_CTRL_UNFREEZE. -/
abbrev F.REC_CTRL_UNFREEZE : Fld := ⟨0x2102, 1, 1⟩
/-- REC_CTRL_FREEZE. -/
abbrev F.REC_CTRL_FREEZE : Fld := ⟨0x2102, 0, 0⟩
/-- REC_SEQ. -/
abbrev F.REC_SEQ : Fld := ⟨0x2103, 31, 0⟩
/-- REC_FLUSHED. -/
abbrev F.REC_FLUSHED : Fld := ⟨0x2104, 31, 0⟩
/-- REC_SUPP. -/
abbrev F.REC_SUPP : Fld := ⟨0x2105, 31, 0⟩
/-- REC_LOST. -/
abbrev F.REC_LOST : Fld := ⟨0x2106, 31, 0⟩
/-- REC_BAD. -/
abbrev F.REC_BAD : Fld := ⟨0x2107, 31, 0⟩
/-- REC_LIM_CODE. -/
abbrev F.REC_LIM_CODE (n : Nat) : Fld := ⟨(0x2110 + 1 * n), 31, 16⟩
/-- REC_LIM_LIMIT. -/
abbrev F.REC_LIM_LIMIT (n : Nat) : Fld := ⟨(0x2110 + 1 * n), 15, 0⟩
/-- REC_UCODE. -/
abbrev F.REC_UCODE : Fld := ⟨0x2120, 15, 0⟩
/-- REC_UDATA. -/
abbrev F.REC_UDATA (n : Nat) : Fld := ⟨(0x2121 + 1 * n), 31, 0⟩
/-- RNG_STAT_CFG_ERR. -/
abbrev F.RNG_STAT_CFG_ERR : Fld := ⟨0x2200, 31, 31⟩
/-- RNG_STAT_BAD_RES. -/
abbrev F.RNG_STAT_BAD_RES : Fld := ⟨0x2200, 15, 0⟩
/-- RNG_FULL. -/
abbrev F.RNG_FULL : Fld := ⟨0x2201, 31, 0⟩
/-- RNG_INFO_OPEN. -/
abbrev F.RNG_INFO_OPEN (n : Nat) : Fld := ⟨(0x2210 + 4 * n), 31, 31⟩
/-- RNG_INFO_DELIV. -/
abbrev F.RNG_INFO_DELIV (n : Nat) : Fld := ⟨(0x2210 + 4 * n), 30, 30⟩
/-- RNG_INFO_KIND. -/
abbrev F.RNG_INFO_KIND (n : Nat) : Fld := ⟨(0x2210 + 4 * n), 23, 16⟩
/-- RNG_INFO_DEPTH. -/
abbrev F.RNG_INFO_DEPTH (n : Nat) : Fld := ⟨(0x2210 + 4 * n), 15, 0⟩
/-- RNG_PI. -/
abbrev F.RNG_PI (n : Nat) : Fld := ⟨(0x2211 + 4 * n), 15, 0⟩
/-- RNG_CI. -/
abbrev F.RNG_CI (n : Nat) : Fld := ⟨(0x2212 + 4 * n), 15, 0⟩
/-- RNG_DONE_LOST. -/
abbrev F.RNG_DONE_LOST (n : Nat) : Fld := ⟨(0x2213 + 4 * n), 31, 16⟩
/-- RNG_DONE_DI. -/
abbrev F.RNG_DONE_DI (n : Nat) : Fld := ⟨(0x2213 + 4 * n), 15, 0⟩
/-- CRC_CFG_INV. -/
abbrev F.CRC_CFG_INV (n : Nat) : Fld := ⟨(0x2290 + 8 * n), 6, 6⟩
/-- CRC_CFG_REFOUT. -/
abbrev F.CRC_CFG_REFOUT (n : Nat) : Fld := ⟨(0x2290 + 8 * n), 5, 5⟩
/-- CRC_CFG_REFIN. -/
abbrev F.CRC_CFG_REFIN (n : Nat) : Fld := ⟨(0x2290 + 8 * n), 4, 4⟩
/-- CRC_CFG_POLY. -/
abbrev F.CRC_CFG_POLY (n : Nat) : Fld := ⟨(0x2290 + 8 * n), 1, 0⟩
/-- CRC_VAL. -/
abbrev F.CRC_VAL (n : Nat) : Fld := ⟨(0x2291 + 8 * n), 31, 0⟩
/-- CRC_RESULT. -/
abbrev F.CRC_RESULT (n : Nat) : Fld := ⟨(0x2292 + 8 * n), 31, 0⟩
/-- CRC_IN8. -/
abbrev F.CRC_IN8 (n : Nat) : Fld := ⟨(0x2293 + 8 * n), 7, 0⟩
/-- CRC_IN16. -/
abbrev F.CRC_IN16 (n : Nat) : Fld := ⟨(0x2294 + 8 * n), 15, 0⟩
/-- CRC_IN32. -/
abbrev F.CRC_IN32 (n : Nat) : Fld := ⟨(0x2295 + 8 * n), 31, 0⟩
/-- UPD_STAT_GLUE. -/
abbrev F.UPD_STAT_GLUE : Fld := ⟨0x2300, 31, 30⟩
/-- UPD_STAT_ORIGIN. -/
abbrev F.UPD_STAT_ORIGIN : Fld := ⟨0x2300, 29, 28⟩
/-- UPD_STAT_MRT_MISMATCH. -/
abbrev F.UPD_STAT_MRT_MISMATCH : Fld := ⟨0x2300, 27, 27⟩
/-- UPD_STAT_MIG_FAIL. -/
abbrev F.UPD_STAT_MIG_FAIL : Fld := ⟨0x2300, 26, 26⟩
/-- UPD_STAT_UPD_REFUSED. -/
abbrev F.UPD_STAT_UPD_REFUSED : Fld := ⟨0x2300, 25, 25⟩
/-- UPD_STAT_FAIL_REASON. -/
abbrev F.UPD_STAT_FAIL_REASON : Fld := ⟨0x2300, 19, 16⟩
/-- UPD_STAT_FAIL_PART. -/
abbrev F.UPD_STAT_FAIL_PART : Fld := ⟨0x2300, 15, 12⟩
/-- SET_SEQ. -/
abbrev F.SET_SEQ : Fld := ⟨0x2301, 31, 0⟩
/-- SET_ID. -/
abbrev F.SET_ID : Fld := ⟨0x2302, 31, 0⟩
/-- PTN_SET_ID. -/
abbrev F.PTN_SET_ID : Fld := ⟨0x2303, 31, 0⟩
/-- UPD_STAT_B_FOUND. -/
abbrev F.UPD_STAT_B_FOUND : Fld := ⟨0x2304, 31, 16⟩
/-- UPD_STAT_B_VER. -/
abbrev F.UPD_STAT_B_VER : Fld := ⟨0x2304, 15, 0⟩
/-- PART_VER. -/
abbrev F.PART_VER (n : Nat) : Fld := ⟨(0x2310 + 1 * n), 31, 0⟩
/-- BENCH_STAT_SESSION. -/
abbrev F.BENCH_STAT_SESSION : Fld := ⟨0x2320, 31, 31⟩
/-- BENCH_STAT_HALTED. -/
abbrev F.BENCH_STAT_HALTED : Fld := ⟨0x2320, 30, 30⟩
/-- BENCH_STAT_LOCK. -/
abbrev F.BENCH_STAT_LOCK : Fld := ⟨0x2320, 29, 28⟩
/-- BENCH_STAT_REFUSED_CFG. -/
abbrev F.BENCH_STAT_REFUSED_CFG : Fld := ⟨0x2320, 3, 3⟩
/-- BENCH_STAT_REFUSED_ROLE. -/
abbrev F.BENCH_STAT_REFUSED_ROLE : Fld := ⟨0x2320, 2, 2⟩
/-- BENCH_STAT_REFUSED_ACTIVE. -/
abbrev F.BENCH_STAT_REFUSED_ACTIVE : Fld := ⟨0x2320, 1, 1⟩
/-- BENCH_STAT_DENIED. -/
abbrev F.BENCH_STAT_DENIED : Fld := ⟨0x2320, 0, 0⟩
/-- BENCH_CFG_HALT_EN. -/
abbrev F.BENCH_CFG_HALT_EN : Fld := ⟨0x2321, 0, 0⟩
/-- BENCH_DENY. -/
abbrev F.BENCH_DENY : Fld := ⟨0x2322, 31, 0⟩

end Sys2Proof.Machine
end

