-- ==== Sys2Proof/Machine/State.lean ====
section
/-! DEFINITION. The state of the LCM-88 as plain data: every register, buffer, counter and mode the spec gives it, the system words
(sparse, over the map of SysMap), the memories, and the queue of waiting commands. A field's default is its value at reset. -/

namespace Sys2Proof.Machine

/-- A table with Nat keys in rising order; a key not listed reads as a default the reader names. -/
abbrev Tab (α : Type) := List (Nat × α)

/-- System words that differ from their reset value: (index, value), rising, none equal to its reset value. -/
abbrev Words := List (Nat × Word)

/-- A fault source that has been raised and not yet handled by the collector (spec/15 R438): source, agent, and detail words. -/
structure Raise where
  src : Nat
  agent : Nat
  d1 : Nat
  d2 : Nat
  /-- Caused by an inverted check of the Jig (R450). -/
  jig : Bool
  /-- A trap task's cycle was in progress when the source was raised (R446). -/
  trap : Bool
  deriving DecidableEq, Repr

/-- The link or pin group a frame or level leaves on; `inner` stands for an answer to a reader inside the module. -/
inductive Link where
  | dovetail | ringA | ringB | plant1 | plant2 | can0 | can1 | isolation | mortise | sealed | hart | bench | display | field | inner
  deriving DecidableEq, Repr

/-- What left the module on a link. The numbers of `Tx.data` are the frame's fields in the order its table gives them. -/
inductive TxKind where
  | notice | hb | dtTick | release | input | service | preempt | hash | extwrite | mrec | handover | syncDropped | detach | resync
  | trialResult | depart | bulk | mark | nak | ack | startRecord | witness | output | discover | hello | admission | fence | acycReq | forward
  | loaderForward | announce | reply | busy | denied | notActive | refused | message | arp | frame | display | request | time | query
  | isolation | hart | level | pulse | erase | train
  deriving DecidableEq, Repr

/-- One item that left the module, as the model's record of its outputs. (DESIGN CHOICE: log entry 14) -/
structure Tx where
  link : Link
  kind : TxKind
  data : List Nat
  deriving DecidableEq, Repr

/-- The Veneer state record in MRAM (spec/14 R419): IN_PROGRESS, row mask, band, phase pairs completed, and the rows that CUR held when
its CRC was taken. -/
structure VnRec where
  seq : Nat := 0
  inProgress : Bool
  mask : List Nat
  band : Nat
  pairs : Nat
  cur : Tab (List Nat)
  /-- The copy's own CRC-32. -/
  crc : Word := 0
  deriving DecidableEq, Repr

/-- The Veneer beyond its words (spec/14). A frame buffer is held row by row as the content its row shows (R407, R408); a row not listed is
white. `Config.rowImage` stands for the pixels. -/
structure Veneer where
  /-- The Veneer has started (R422). -/
  started : Bool := false
  /-- Target and current frame buffer (R407): the content of each row that is not white. -/
  tgt : Tab (List Nat) := []
  cur : Tab (List Nat) := []
  /-- Content of masked rows held back until the update ends (R411). -/
  staging : Tab (List Nat) := []
  /-- Rewrite mask (R412). -/
  rewrite : List Nat := []
  /-- The running update: its row mask, phase pairs of the longest waveform, pairs completed; its start. -/
  updating : Bool := false
  mask : List Nat := []
  total : Nat := 0
  done : Nat := 0
  /-- A phase pair is in progress (spec/02 Table 2-3, step 4). -/
  pairOn : Bool := false
  /-- The update ends at the next phase-pair boundary (R424, R415); a drive supply is out of range (R424). -/
  late : Bool := false
  tempOut : Bool := false
  driveBad : Bool := false
  /-- REF time at which the last update ended (R411). -/
  endNs : Option Nat := none
  /-- The frame-buffer check has passed since the last update (R411, R417). -/
  checked : Bool := false
  /-- Latest Mortise offer: the content of the five lines of Table 14-3. -/
  offer : Option (List (List Nat)) := none
  /-- Full clearing refresh (R422): 0 none, 1 legal area next, 2 rows 0–209 next, 3 rows 0–209 first and the legal area after. -/
  clearing : Nat := 0
  /-- The user line shows the cold message (R416). -/
  cold : Bool := false
  /-- Last temperature sample [0.01 °C]; none while the sensor is invalid or before the first sample. -/
  temp : Option Int := none
  /-- FS59 has been raised for the invalid sensor. -/
  tempBad : Bool := false
  /-- A power-fail sequence has begun: no update starts, no further phase pair begins (R420). -/
  stopped : Bool := false
  deriving DecidableEq, Repr

/-- Where the module stands between insertion and running (spec/02 R57; spec/15 R448). -/
inductive Phase where
  /-- Held in reset (R36). -/
  | held
  /-- Resident loader runs, t0 to t2. -/
  | loading
  /-- Firmware check passed; DRAM training, t2 to t3. -/
  | checked
  /-- Data areas prepared, t4; the role is being decided. -/
  | prepared
  /-- Role decided, t5. -/
  | ready
  /-- From the begin of the start task or the HOT start on, t6. -/
  | running
  /-- The LOADER role for good (R18, R57, R480). -/
  | loader
  /-- Safe hold (spec/15 R448). -/
  | safeHold
  /-- A power-fail sequence runs (R53). -/
  | powerFail
  /-- Only AON runs after a power-fail sequence (R53). -/
  | aonOnly
  deriving DecidableEq, Repr

/-- How a clock domain stands (R42, R43). -/
inductive DomMode where
  | run | gated | parked | startingGated | startingParked | off
  deriving DecidableEq, Repr

/-- One copy of the power-fail record (R54). -/
structure PfRec where
  seq : Nat
  /-- t0 as a count of AON ticks. -/
  t0 : Nat
  /-- 1 = extraction. -/
  cause : Nat
  /-- PF_STEP; the sequence has completed; a start has used the record. -/
  step : Nat
  complete : Bool
  used : Bool
  /-- The copy's own CRC-32. -/
  crc : Word := 0
  deriving DecidableEq, Repr

/-- A line of the cycle journal (R61): the task whose cycle wrote it, that cycle's order of start, the line's first cell key, and its earlier bytes. -/
structure JLine where
  task : Nat
  order : Nat
  key : Nat
  old : List Host.Cell
  deriving DecidableEq, Repr

/-- Clocks and power beyond the system words (spec/02). -/
structure Power where
  /-- Phase of the module (R57). -/
  phase : Phase := .held
  /-- Kind of the reset in progress or last made (R59). -/
  kind : Nat := 1
  /-- Modes of domains 1–14 (R42); AON and the Mortise's own domain need no REF. -/
  doms : List DomMode := [.run, .off, .off, .off, .off, .off, .off, .off, .off, .off, .off, .run, .off, .off]
  /-- Feed A, B disconnected above 30 V (spec/01 R34). -/
  cutA : Bool := false
  cutB : Bool := false
  /-- Steps of Table 2-3 that have completed in the sequence in progress. -/
  pfDone : List Nat := []
  /-- The step in progress, 0 = none. -/
  pfStep : Nat := 0
  /-- The sequence in progress started before the first task (R55). -/
  pfEarly : Bool := false
  /-- The module was released at this ns. -/
  releaseNs : Nat := 0
  /-- t6 has been reached since release: the first task has started, or runs on the partner (R55). -/
  tasksBegan : Bool := false
  /-- Time backup: AON ticks at the last alignment and the time base then (R48). -/
  backupTicks : Nat := 0
  backupTime : Nat := 0
  /-- The time backup has run without a break since the last power-fail sequence (R48). -/
  backupUnbroken : Bool := false
  /-- ALV_OUT level and whether it toggles; ROLE_OUT driven low (spec/09 R250). -/
  alvOut : Bool := false
  alvRun : Bool := false
  roleOut : Bool := false
  /-- ALV_EXT level (spec/01 R24) and whether t6 has been reached in this start (spec/15 R444). -/
  alvExt : Bool := false
  alvArmed : Bool := false
  /-- The output of ALV_EXT is in current limit (spec/01 R25). -/
  alvLimit : Bool := false
  deriving DecidableEq, Repr

/-- A 32-byte record of the event recorder without its CRC, which `Rec.crc` computes (spec/15 Table 15-7). -/
structure Rec where
  time : Nat
  code : Nat
  source : Nat
  d0 : Nat
  d1 : Nat
  d2 : Nat
  seq : Nat
  deriving DecidableEq, Repr

/-- A copy of the pair epoch in MRAM with its CRC-32C (spec/09 R275); that of 0 in a new module. -/
structure EpochCopy where
  value : Nat := 0
  crc : Word := 0x48674BC7#32
  deriving DecidableEq, Repr

/-- What MRAM keeps across every reset. -/
structure Mram where
  /-- RESTART_CFG, when MRAM holds a valid copy (R65). -/
  restartCfg : Option Word := none
  /-- Settings image (R63): the current value of every setting. -/
  settings : Words := []
  /-- Settings image of the 64 CAN buffers of each channel: (channel × 64 + buffer, [BUF_CFG, BUF_ID, BUF_MASK]) (spec/13 R395). -/
  canBufs : Tab (List Nat) := []
  /-- Settings image of the staged protection rules: (master × 64 + word, value) (spec/15 R436). -/
  rules : Tab Word := []
  /-- Retentive ranges as last committed, and their integrity (R60, R62). -/
  retain : List Host.Cell := []
  retainOk : Bool := true
  /-- The retentive store holds the data of the ranges that this image declares (R60). -/
  retainFor : Option Nat := none
  /-- Full copy of the program data areas of HOT mode, kept current at every commit (R61). -/
  copy : List Host.Cell := []
  /-- Cycle journal (R61); `sealed` at step 3 of the power-fail sequence. -/
  journal : List JLine := []
  jsealed : Bool := false
  /-- A cycle that a power failure interrupted had overflowed the journal (R60). -/
  journalOvf : Bool := false
  /-- Program version that ran at t0 of the last power-fail sequence (R60). -/
  pfVersion : Option Nat := none
  /-- A program has run since it was loaded with a stop; lineage whose data the areas hold (R60 step 3). -/
  ran : Bool := false
  dataOwner : Option Nat := none
  /-- Two copies of the power-fail record (R54). -/
  pfA : Option PfRec := none
  pfB : Option PfRec := none
  /-- The pair epoch E in two copies, each with its CRC (spec/09 R275). -/
  epochA : EpochCopy := {}
  epochB : EpochCopy := {}
  /-- Loop fields 0–63, written through, and 64–71, saved in the power-fail sequence: loop → 72 fields (spec/08 R244). -/
  loops : Tab (List Word) := []
  /-- History of the event recorder, oldest first, 65,536 records (spec/15 R452). -/
  history : List Rec := []
  /-- Starts since manufacture (R64). -/
  bootCount : Nat := 0
  /-- The program image in each code area and the area in use (spec/07 R196; spec/17 R488). -/
  areas : List (Option Image) := [none, none]
  area : Nat := 0
  /-- The image of the inactive area has passed its checks (spec/07 R212, Table 7-8). -/
  checked : Bool := false
  /-- Veneer state record and CUR mirror (spec/14 R407, R419). -/
  vnRecA : Option VnRec := none
  vnRecB : Option VnRec := none
  vnMirror : Tab (List Nat) := []
  /-- Rewrite of the program data areas after a switch in progress (spec/07 R212). -/
  rewriting : Bool := false
  deriving DecidableEq, Repr

/-- Where a task stands (spec/05 R142): not released, released and not started, or in its cycle. -/
inductive TaskSt where
  | idle | ready | cycle
  deriving DecidableEq, Repr

/-- What the scheduler and the LP hold of one task. -/
structure TaskRt where
  st : TaskSt := .idle
  /-- Ready again while in its cycle (spec/05 R153), and the cause of that trigger. -/
  again : Bool := false
  againCause : Nat := 0
  /-- Instant of the last trigger that was taken: triggers in the same instant count as one (R153). -/
  trigNs : Option Nat := none
  /-- Instant and order of the release (R143). -/
  relNs : Nat := 0
  relOrd : Nat := 0
  startNs : Nat := 0
  /-- Settings latched at the release (R166): priority, fault action, watchdog limit [µs], execution mode. -/
  prio : Nat := 0
  fact : Nat := 0
  wdUs : Nat := 0
  mode : Nat := 2
  /-- Budget of the cycle, if the task was a fastest task at the release (R149, R166) [ns]. -/
  budgetNs : Option Nat := none
  /-- The watchdog of the cycle is running, and the time it has stood still while the LP was halted (spec/06 R192). -/
  wdHeld : Nat := 0
  /-- Released as trap task: ranks above every priority (spec/15 R441). -/
  trap : Bool := false
  /-- LP time of the cycle so far, all passes [ns] (spec/05 Table 5-7). -/
  lpNs : Nat := 0
  /-- Registers and call stack (spec/03 Table 3-1; spec/04 R127): return index and DSEL, innermost first. -/
  regs : Regs := ⟨false, 0, 0, false, false, false, false, [], 0, 0⟩
  calls : List (Nat × BitVec 16) := []
  /-- TT latched at the cycle's start (spec/04 R116). -/
  tt : Word64 := 0
  /-- Number of the cycle in progress (spec/09 Table 9-4). -/
  cyc : Nat := 0
  /-- Releases of a host numbered so far (spec/08 R217). -/
  grid : Nat := 0
  /-- The window that ends the cycle is committed; the output update point waits for the loop engine (spec/08 R220). -/
  ending : Bool := false
  /-- Windows committed in the cycle (spec/09 R257). -/
  wins : Nat := 0
  /-- The compare and commit of the last window overlap what follows: their 6 cycles are still to be charged if the task gives way (spec/06 Table 6-4). -/
  owed : Bool := false
  /-- Statistics (spec/05 Table 5-7). -/
  lastNs : Nat := 0
  maxNs : Nat := 0
  lastLp : Nat := 0
  maxDelay : Nat := 0
  cycles : Nat := 0
  /-- Corrected mismatches in the current whole second of TT, that second, and whether FS12 was raised in it (spec/06 R188). -/
  mmSec : Nat := 0
  mmCnt : Nat := 0
  mmRaised : Bool := false
  /-- Tick a + D at which the armed event timer falls due (spec/05 R154). -/
  armed : Option Nat := none
  /-- PSYNC: the epochs before this one must drain (spec/15 R434). -/
  waitEpoch : Option Nat := none
  /-- Resumes after PREEMPT of the LP. -/
  preempted : Bool := false
  /-- Retained: this cycle overflowed the cycle journal (spec/02 R61). -/
  jovf : Bool := false
  deriving DecidableEq, Repr

/-- The scheduler beyond its system words (spec/05). -/
structure Sched where
  /-- Run-time data of the tasks. -/
  tasks : Tab TaskRt := []
  /-- Counter of releases, for R143's order. -/
  ord : Nat := 0
  /-- The last release: task and the number of the cycle it leads to (spec/09 R257). -/
  lastRel : Nat × Nat := (0, 0)
  /-- The task the LP runs. -/
  running : Option Nat := none
  /-- The first grid point of R164 is still to come. -/
  first : Bool := false
  /-- Triggers held while no task may be released (R154; spec/07 R199). -/
  held : List Nat := []
  /-- Event timers that fell due while no task may be released (R154). -/
  due : List Nat := []
  /-- TT minus the REF count [µs] (spec/04 R116; spec/09 R259). -/
  ttOff : Int := 0
  /-- LP time used in the current 1 ms and 1 s, and the whole ms and s they belong to. -/
  busyMs : Nat := 0
  busyS : Nat := 0
  ms : Nat := 0
  sec : Nat := 0
  /-- The scheduler confirms its tick grid to AON (spec/15 R444). -/
  confirming : Bool := true
  deriving DecidableEq, Repr

/-- The open compare window (spec/06 R174): what pass A has done since the last boundary, in true values. -/
structure Win where
  /-- The task; the index of the first instruction; instructions so far; cycles of one pass so far. -/
  task : Nat
  first : Nat
  count : Nat
  cycles : Nat
  /-- Additions of pass A alone (spec/03 Table 3-14, spec/04 Table 4-20). -/
  extraA : Nat
  /-- Branch path, register signature and write log (Table 6-2). -/
  path : List Nat
  sig : BitVec 64
  log : List LogEntry
  /-- Commit-buffer entries in use (R178). -/
  entries : Nat
  /-- Why the window has closed, and the program fault it closed with: cause and index (R174, R184). -/
  closed : Option Close
  fault : Option (Nat × Nat)
  /-- Results of S reads, LPRD and RPOST in pass A, in order (spec/09 R257). -/
  services : List Nat
  deriving DecidableEq, Repr

/-- The logic processor (spec/06). -/
structure Lp where
  /-- The open window; the LP is halted (R190). -/
  win : Option Win := none
  halted : Bool := false
  /-- Stopped until reset: power fail, safe hold, departed or demoted active. -/
  stopped : Bool := false
  /-- Breakpoints by instruction index (R190). -/
  breakpoints : List Nat := []
  /-- A single step is in progress (R191). -/
  stepping : Bool := false
  /-- ns at which the LP halted (R192). -/
  haltNs : Nat := 0
  /-- Forwarded results that the passes of a standby take (spec/09 R258): (task, window, values). -/
  services : List (Nat × Nat × List Nat) := []
  /-- The field I/O block as the open window's first read of it saw it (spec/11 R326). -/
  snap : Option Words := none
  /-- The stopped clock domain that the next instruction waits for (spec/02 R44), and the start time it has waited [ns] (spec/03 Table 3-14). -/
  waiting : Option Nat := none
  waitNs : Nat := 0
  deriving DecidableEq, Repr

/-- An online change beyond its words (spec/07). The new version lies in the inactive area of `Mram.areas`. -/
structure Online where
  /-- A switch task has just ended a cycle and nothing has started since (R200). -/
  atPoint : Bool := false
  /-- The switch in progress is a standby's, to enter TRIAL (R214). -/
  toTrial : Bool := false
  /-- On the active of a pair: 0 no trial so far, 1 the standby runs one, 2 it has succeeded (Table 7-5). -/
  trial : Nat := 0
  /-- The switch has its t0 at this ns. -/
  t0 : Nat := 0
  /-- On a standby: a switch mark that waits until every cycle released before it has ended, by the number of those releases (R214). -/
  mark : Option Nat := none
  /-- The trial on this module has failed in this step (Table 7-5, step 3a); false between steps. -/
  failed : Bool := false
  deriving DecidableEq, Repr

/-- One declared loop (spec/08): its context and what the engine keeps for it. -/
structure LoopRt where
  /-- Fields 0–71 of the context, and of its published copy (R223). -/
  f : List Word
  pub : List Word
  /-- Fields 80–86. -/
  evals : Nat := 0
  swaps : Nat := 0
  latNs : Nat := 0
  latMax : Nat := 0
  mm : Nat := 0
  late : Nat := 0
  resp : Nat := 0
  /-- HOST, DIV and LPHASE in force, whether a change of them waits for the host's next release (R238), and the number of the next
  release (R217). -/
  host : Nat
  div : Nat
  lph : Nat
  resched : Bool := false
  j : Nat := 0
  /-- Due at the host's release in progress. -/
  due : Bool := false
  /-- The next evaluation continues and is no start (R231). -/
  cont : Bool := false
  /-- Windows' LPWR writes that wait for the next evaluation: one list of (field, value) for each window (R224). -/
  batches : List (List (Nat × Word)) := []
  /-- Starts of Table 8-3 to come: first AUTO evaluation, MODE was not AUTO, FAULT was cleared. -/
  first : Bool := true
  nonAuto : Bool := true
  faultStart : Bool := false
  /-- The result that waits for the host's output update point (R220). -/
  staged : Option (List Word) := none
  deriving DecidableEq, Repr

/-- A requested evaluation with the bound sources as read (R219); `denied` if a bound read was (R239). -/
structure LoopReq where
  loop : Nat
  host : Nat
  ns : Nat
  src : List (Option Word)
  denied : Bool
  deriving DecidableEq, Repr

/-- The evaluation in progress: its request, its start, and the context it leaves. -/
structure LoopCur where
  req : LoopReq
  start : Nat
  out : List Word
  deriving DecidableEq, Repr

/-- The loop engine (spec/08). -/
structure Engine where
  tab : Tab LoopRt := []
  queue : List LoopReq := []
  cur : Option LoopCur := none
  /-- Loops that hold a hardware context, at most 256 (R240). -/
  resident : List Nat := []
  /-- The engine is free from this ns on. -/
  free : Nat := 0
  /-- Engine time in the current tick and second [ns], and swaps in the current second. -/
  busyTick : Nat := 0
  busyS : Nat := 0
  swapsS : Nat := 0
  /-- It starts no evaluation: a power-fail sequence runs (R244). -/
  stopped : Bool := false
  /-- Its clock domain was started by an LPRD alone, not for a slice (R241; spec/02 R44). -/
  access : Bool := false
  deriving DecidableEq, Repr

/-- A Dovetail frame as sent: SEQ, length with header and CRC [bytes], kind and payload (spec/09 Table 9-3, 9-4). -/
structure DtFrame where
  seq : Nat
  len : Nat
  kind : TxKind
  data : List Nat
  deriving DecidableEq, Repr

/-- A forwarded release (spec/09 Table 9-4). -/
structure RelRec where
  task : Nat
  cycle : Nat
  cause : Nat
  deriving DecidableEq, Repr

/-- A forwarded input latch: the Q/I image cells of one segment and TT (spec/09 Table 9-4). -/
structure InRec where
  task : Nat
  cycle : Nat
  tt : Nat
  cells : List (Nat × Byte)
  deriving DecidableEq, Repr

/-- An output hash of a cycle end (spec/09 R260). -/
structure HashRec where
  task : Nat
  cycle : Nat
  endKind : Nat
  hash : BitVec 64
  deriving DecidableEq, Repr

/-- The redundant pair beyond its words (spec/09). -/
structure Pair where
  /-- Last heartbeat content of the partner. -/
  partner : Option HbData := none
  /-- Consecutive valid heartbeats, up to 3 (R251). -/
  hbRun : Nat := 0
  /-- The ALV verdict is ignored until an edge returns (R252). -/
  alvIgnored : Bool := false
  /-- Link fault raised and not yet over (R256). -/
  linkFault : Bool := false
  /-- Last SEQ sent, highest SEQ received in order, highest SEQ the partner has acknowledged. -/
  txSeq : Nat := 0
  rxSeq : Nat := 0
  acked : Nat := 0
  /-- Replay buffer of 256 KiB: frames not yet acknowledged, oldest first (R256). -/
  replay : List DtFrame := []
  /-- How often a SEQ has been sent again (R256). -/
  resent : Tab Nat := []
  /-- Drops in a row of the SEQ that is next in order (R256). -/
  naks : Nat := 0
  /-- Bytes of forwarding queued in this tick and in the last 19, newest first (R263). -/
  fwdTick : Nat := 0
  fwdLast : List Nat := []
  /-- The active forwards no more until the partner starts afresh (R262, R263). -/
  fwdStopped : Bool := true
  /-- The partner runs an online-change trial (R257). -/
  partnerTrial : Bool := false
  /-- Bytes of each input segment at its last forwarded latch: segment offset → bytes (R257). -/
  prevLatch : Tab (List Byte) := []
  /-- Standby: forwarded releases and inputs not yet used, preemption points, write records and hashes (R258, R260); a write record carries the
  number of the releases that came before it. -/
  releases : List RelRec := []
  inputs : List InRec := []
  /-- The newest numbered frame was an INPUT frame of this task cycle: more of it may follow (R258). -/
  inOpen : Option (Nat × Nat) := none
  preempts : List (Nat × Nat × Nat) := []
  extwrites : List (List (Loc × Byte) × ExtPoint × Nat) := []
  theirs : List HashRec := []
  ours : List HashRec := []
  /-- Standby: tick of the newest witness of the partner, consecutive missed ticks (R267, R269), and ns at which the Kerf began. -/
  witTick : Option Nat := none
  missed : Nat := 0
  missNs : Nat := 0
  /-- Missed ticks of the Kerf: they begin after the last valid heartbeat, at ns `hbNs`, and `missNs` is the start of the first (R271). -/
  kerf : Nat := 0
  hbNs : Nat := 0
  /-- HB_OK holds since this ns (R252). -/
  okNs : Nat := 0
  /-- The HB_LOST of this loss has been judged (R279). -/
  hbLost : Bool := false
  /-- Start decision in progress, with the restart mode decided at t4 (R265); claim made; decision afresh used (R266). -/
  deciding : Bool := false
  startMode : Nat := 0
  claimed : Bool := false
  afresh : Bool := false
  /-- This standby has started as an orphan (R281). -/
  orphaned : Bool := false
  /-- Handover tick h and its cause code of Table 9-17, on the active and on the standby (R274). -/
  handover : Option (Nat × Nat) := none
  /-- A takeover whose VERDICT is pending (R273). -/
  verdict : Bool := false
  /-- Resynchronisation: ns at its HELLO, a retry after a failed phase is waiting (R280), BUDGET retries: ns of each in the last 10 min (R264). -/
  resyncNs : Nat := 0
  retryWait : Bool := false
  budgetRetries : List Nat := []
  /-- The last drop had cause BUDGET and no resynchronisation has succeeded since (R264). -/
  budgetDrop : Bool := false
  /-- TRACK: tasks with an agreeing hash, agreeing hashes since MARK, MRAM copy complete (R280). -/
  agreed : List Nat := []
  agreeCnt : Nat := 0
  copyDone : Bool := false
  /-- Active: 64-byte lines written since IMAGE began or since they were sent: cell key / 64 (R280). -/
  marked : List Nat := []
  marking : Bool := false
  /-- TRACK shadows from this MARK on. -/
  marked0 : Bool := false
  /-- The active waits for the cutover point (R280). -/
  cutover : Bool := false
  /-- Cloned firmware parts received (spec/17 R483): slot, length, digest. -/
  clone : List (Nat × Nat × BitVec 256) := []
  /-- The manifest of the clone has come; a clone is in progress (spec/17 R483). -/
  cloneManifest : Bool := false
  cloning : Bool := false
  /-- Active: the standby has told that it is detached (R282; spec/17 R488). -/
  ptnDetached : Bool := false
  deriving DecidableEq, Repr

/-- One meter run of the Mortise (spec/10). -/
structure RunSt where
  /-- Pulses of the cycle in progress, train A and train B (R290). -/
  a : Nat := 0
  b : Nat := 0
  /-- Totalisers and their residues [2^-32] (R296, R297). -/
  pulses : Nat := 0
  iv : Nat := 0
  gsv : Nat := 0
  mass : Nat := 0
  almGsv : Nat := 0
  rIv : Nat := 0
  rGsv : Nat := 0
  rMass : Nat := 0
  err : Nat := 0
  rev : Nat := 0
  /-- Open batch: number, GSV, MASS, and GSV-weighted sums of P, T, D (R311). -/
  batch : Nat := 0
  bGsv : Nat := 0
  bMass : Nat := 0
  bP : Int := 0
  bT : Int := 0
  bD : Int := 0
  /-- Cycles in a row with one dead train (Table 10-1). -/
  loss : Nat := 0
  /-- Alarms PULSE, TRAIN_LOSS, PHASE, REVERSE, OVERFREQ: raised, and cycles in a row without the condition. -/
  alm : List (Bool × Nat) := [(false, 0), (false, 0), (false, 0), (false, 0), (false, 0)]
  /-- P_INVALID, T_INVALID, D_INVALID, TABLE_RANGE, MA_DEV. -/
  inv : List Bool := [false, false, false, false, false]
  /-- What the run's words report (Table 10-6): FLOWING, frequency, phase, the rates, P, T, D, CTL and CPL in use. -/
  flowing : Bool := false
  freq : Nat := 0
  phase : Int := 0
  ivRate : Nat := 0
  gsvRate : Nat := 0
  massRate : Nat := 0
  p : Int := 0
  t : Int := 0
  d : Int := 0
  ctl : Int := 0
  cpl : Int := 0
  deriving DecidableEq, Repr

/-- Proving (spec/10 R299–R301): STATE, RUN, Np, passes done, latest Ni [0.001 pulse] newest first, abort reason, and the pass in
progress: detector times, first pulse edge, pulses since it. -/
structure Prove where
  st : Nat := 0
  run : Nat := 0
  np : Nat := 0
  done : Nat := 0
  nis : List Nat := []
  reason : Nat := 0
  tA : Option Nat := none
  tB : Option Nat := none
  t1 : Option Nat := none
  n : Nat := 0
  niLast : Nat := 0
  niMean : Nat := 0
  rep : Nat := 0
  mf : Nat := 0
  deriving DecidableEq, Repr

/-- An MA channel (spec/10 R292–R295): averaged current [nA], NE 43 state, latest HART primary variable, polls without a reply. -/
structure MaSt where
  ua : Nat := 0
  fail : Bool := false
  range : Bool := false
  pv : Word := 0
  quiet : Nat := 5
  /-- The transmitter's status, as last polled (R294). -/
  st : Nat := 0
  deriving DecidableEq, Repr

/-- An audit entry (spec/10 R303). -/
structure Audit where
  no : Nat
  time : Nat
  sealNo : Nat
  origin : Nat
  param : Nat
  old : Int
  new : Int
  deriving DecidableEq, Repr

/-- A ticket (spec/10 R311). -/
structure Ticket where
  run : Nat
  no : Nat
  gsv : Nat
  mass : Nat
  p : Int
  t : Int
  d : Int
  deriving DecidableEq, Repr

/-- One of the two copies in FRAM (spec/10 R298): sequence number, the runs' totalisers, residues and ticket state, the tickets, the record
queue, and the CRC-32. -/
structure Fram where
  seq : Nat
  run0 : RunSt
  run1 : RunSt
  tickets : List Ticket
  recs : List (List Nat)
  recSeq : Nat
  recLost : Nat
  crc : Word := 0
  deriving DecidableEq, Repr

/-- The Mortise (spec/10). What it holds in FRAM is kept across every reset. -/
structure Mrt where
  powered : Bool := false
  starting : Bool := true
  failed : Bool := false
  installing : Bool := false
  sealOpen : Bool := false
  sealCnt : Nat := 0
  /-- Computation cycles since its start. -/
  seq : Nat := 0
  /-- Installations of firmware so far. -/
  fw : Nat := 0
  /-- Its clock: offset to the REF time, and whether it is valid (R313). -/
  clk : Int := 0
  clkValid : Bool := false
  timeDev : Bool := false
  /-- The audit trail (R303): a change was refused for want of room; the entries; the next entry number. -/
  auditFull : Bool := false
  audit : List Audit := []
  nextEntry : Nat := 1
  /-- Parameter set in force, staged, and activated for the next cycle (R305). -/
  par : MrtParams := ⟨[], [], 500, 60, false, []⟩
  staged : Option MrtParams := none
  next : Option MrtParams := none
  /-- The two runs, the four MA channels, proving, and the tickets issued (R290, R292, R299, R311). -/
  run0 : RunSt := {}
  run1 : RunSt := {}
  ma : List MaSt := [{}, {}, {}, {}]
  prove : Prove := {}
  tickets : List Ticket := []
  /-- Records not yet sent, oldest first: their eight words; the next sequence number; records lost since the last sent (R310). -/
  recs : List (List Nat) := []
  recSeq : Nat := 0
  recLost : Nat := 0
  /-- The mailbox frame that is on its way (R307). -/
  frame : Option (List (Nat × Word)) := none
  /-- The slot the module has told it, true = slot 2 (R294). -/
  slot2 : Bool := false
  /-- Time of its supply loss (R316). -/
  offTime : Nat := 0
  /-- An accepted START_PROVE has ended: its answer waits for the next frame (R311). -/
  proveDone : Bool := false
  /-- REF time of the latest MREC (R319). -/
  mrecNs : Option Nat := none
  /-- REF time from which the hardware counters run, and the Mortise time at which its supply came up (R290, R316). -/
  countsFrom : Nat := 0
  onTime : Nat := 0
  /-- The two copies in FRAM (R298). -/
  fram0 : Option Fram := none
  fram1 : Option Fram := none
  /-- The part that it installs into its spare bank (R318). -/
  part : BitVec 256 := 0
  /-- View 0 as it stood before a frame whose records have not all been inserted (R309). -/
  viewHold : Option (List Byte) := none
  deriving DecidableEq, Repr

/-- A DI channel at the field side (spec/11 R327–R334). -/
structure DiSt where
  /-- Filtered level, debounced value, and whether a change waits out its debounce. -/
  level : Bool := false
  deb : Bool := false
  waiting : Bool := false
  /-- DEB_US that the waiting change uses, changes since the last stable run, and the capture time of the change that began the run. -/
  debUs : Nat := 0
  changes : Nat := 0
  since : Nat := 0
  /-- Rising edges counted, and the capture time of the last (DI0–DI3). -/
  count : Nat := 0
  lastRise : Option Nat := none
  deriving DecidableEq, Repr

/-- A universal channel at the field side (spec/11 R339–R343): mode in force and the live bits of UCS. -/
structure UcSt where
  mode : Nat := 0
  settling : Bool := false
  val : Int := 0
  valid : Bool := false
  over_ : Bool := false
  under : Bool := false
  opened : Bool := false
  short : Bool := false
  almLo : Bool := false
  almHi : Bool := false
  ne43 : Bool := false
  comply : Bool := false
  cjFail : Bool := false
  /-- REF time of the last HART transaction that succeeded, if the last one did. -/
  hartNs : Option Nat := none
  deriving DecidableEq, Repr

/-- Local field I/O beyond its words (spec/11). -/
structure Lio where
  di : List DiSt := List.replicate 16 {}
  uc : List UcSt := List.replicate 8 {}
  /-- Edge reports waiting at the field side, oldest first (R332). -/
  edges : List EdgeReport := []
  /-- FLD as the field side measures it [mV]; its validity by FLD_OUT_OF_RANGE. -/
  fldMv : Nat := 0
  fldOk : Bool := false
  /-- DO commands and UC commands the field side follows, outputs it drives. -/
  doCmd : Nat := 0
  ucCmd : List Nat := List.replicate 8 65536
  /-- SEQ of the next host frame; the settings the field side holds for its fail values: DO_CFG, UC_CFG, UC_FAILVAL (R346, R348). -/
  seq : Nat := 0
  fieldSet : List Word := []
  /-- Valid frames in a row at the field side, whether it has applied its fail values, whether it has ever had a valid frame. -/
  fieldGood : Nat := 0
  failApplied : Bool := false
  everValid : Bool := false
  /-- Host side: valid and missed frames in a row; slot of the rotation; REF time of the loss of the link; FS37 raised in this loss. -/
  good : Nat := 0
  missed : Nat := 0
  slot : Nat := 7
  lossNs : Option Nat := none
  held : Bool := false
  /-- Local output segment as handed on at the owner's last output update point; none before the first (R160, R58). -/
  out : Option (List Byte) := none
  /-- The field image (Table 11-1). -/
  diBits : Nat := 0
  diQual : Nat := 0
  doRb : Nat := 0
  doQual : Nat := 0
  cntValid : Nat := 0
  cnt : List Nat := [0, 0, 0, 0]
  ucVal : List Int := List.replicate 8 0
  ucs : List Nat := List.replicate 8 0
  /-- HART transaction in progress: channel, retries left and request (R345). -/
  hart : Option (Nat × Nat × List Byte) := none
  deriving DecidableEq, Repr

/-- A remote station as the module knows it (spec/12). -/
structure Stn where
  /-- Newest valid INPUT frame: its CYCLE, body, ns of arrival, LATE (R363, R364). -/
  inCycle : Option Nat := none
  data : List Byte := []
  sampleAge : Nat := 0
  arrNs : Nat := 0
  late : Bool := false
  /-- Due cycles in a row without a valid INPUT frame (R364). -/
  miss : Nat := 0
  /-- An INPUT frame has arrived since the last due cycle began; ports it arrived on since then (R365). -/
  gotA : Bool := false
  gotB : Bool := false
  /-- Due cycles in a row with frames from one direction only, and that direction (R365). -/
  oneRun : Nat := 0
  oneB : Bool := false
  /-- HOPS measured at admission on RING-B (R365). -/
  hops : Nat := 0
  /-- Output segment handed on at the owner's last output update point (R160, R362); none before the first. -/
  out : Option (List Byte) := none
  /-- DIV and DPHASE in force until the next due cycle after a change (R382). -/
  div : Nat := 1
  dphase : Nat := 0
  /-- MAC address of the admitted station (R357, R359). -/
  mac : Nat := 0
  deriving DecidableEq, Repr

/-- An acyclic transaction in flight (R367): its number, descriptor ring, station, descriptor, request data, retries left. -/
structure Acyc where
  tx : Nat
  ring : Nat
  station : Nat
  desc : List Byte
  req : List Byte
  retries : Nat
  deriving DecidableEq, Repr

/-- A reserve-table entry (R357). -/
structure Resv where
  tag : Nat
  mac : Nat
  gen : Nat
  signals : Nat
  inSize : Nat
  outSize : Nat
  reason : Nat
  deriving DecidableEq, Repr

/-- The I/O ring beyond its words (spec/12). -/
structure Ring where
  stns : Tab Stn := []
  /-- Reserve table, in the order of refusal, at most 16 (R357). -/
  reserve : List Resv := []
  /-- MAC addresses of the refused stations for which FS52 has been raised (R357). -/
  refused : List Nat := []
  /-- First copies seen: (SRC, EPOCH, CYCLE, SEQ), newest first, as far back as two ring cycles (R354). -/
  seen : List (Nat × Nat × Nat × Nat) := []
  /-- RC in force (R382). -/
  rc : Nat := 20
  /-- SEQ of the next frame in the cycle (Table 12-1). -/
  seq : Nat := 0
  /-- Acyclic transactions in flight, and the next transaction number (R367). -/
  flight : List Acyc := []
  nextTx : Nat := 0
  /-- A task cycle has ended through END, ENDC or ENDCN since the start (R362). -/
  cycleEnded : Bool := false
  /-- The partner's HB has named a ring port without link (R365). -/
  partnerOpen : Bool := false
  deriving DecidableEq, Repr

/-- A plant session (spec/12 R371, R372). -/
structure Session where
  rights : Rights
  port2 : Bool
  /-- Highest sequence number accepted and those accepted among the 64 below it (R371). -/
  high : Nat
  seen : List Nat
  lastNs : Nat
  deriving DecidableEq, Repr

/-- Plant ports beyond their words (spec/12). -/
structure Plant where
  sessions : Tab Session := []
  /-- Gratuitous announcements of the pair addresses still to send (R370). -/
  announces : Nat := 0
  deriving DecidableEq, Repr

/-- The time base (spec/12 R375). -/
structure Ptp where
  /-- Time base [ns] and its 32-bit fraction at the instant `atNs`. -/
  base : Nat := 0
  frac : Nat := 0
  atNs : Nat := 0
  /-- RATE_ADJ before each change of the last 10 s: (ns of the change, the value until then), newest first (R377). -/
  rates : List (Nat × Int) := []
  /-- Consecutive Sync messages with |offset| ≤ 1 µs, and with |offset| > 2 µs (R377). -/
  goodRun : Nat := 0
  badRun : Nat := 0
  /-- Best master data of each port (R378). -/
  gm1 : Option GmData := none
  gm2 : Option GmData := none
  /-- Value that NOW_HI was latched with (R386). -/
  nowHi : Nat := 0
  deriving DecidableEq, Repr

/-- A CAN message buffer (spec/13 R394–R400, Tables 13-4 and 13-6): configuration, identifier, mask, data, and the bits of BUF_STAT. A store
is whole, so BUSY reads 0 between commands. -/
structure Buf where
  cfg : Word := 0
  id : Nat := 0
  mask : Nat := 0x1FFFFFFF
  data : List Byte := []
  new_ : Bool := false
  lost : Bool := false
  pend : Bool := false
  aborted : Bool := false
  fdf : Bool := false
  brs : Bool := false
  esi : Bool := false
  dlc : Nat := 0
  seq : Nat := 0
  deriving DecidableEq, Repr

/-- A CAN channel beyond its words (spec/13): its buffers, and whether REC_REQ has been written since bus-off (R402). -/
structure Chan where
  bufs : Tab Buf := []
  recReq : Bool := false
  deriving DecidableEq, Repr

/-- The CAN channels. -/
structure Can where
  ch0 : Chan := {}
  ch1 : Chan := {}
  deriving DecidableEq, Repr

/-- The protection unit beyond the words (spec/15). A rule set is a table master × 64 + word → value, word 2r = PR_RULE_A, 2r + 1 = PR_RULE_B. -/
structure Prot where
  /-- The staged and the active rule set (R433). -/
  staged : Tab Word := []
  active : Tab Word := []
  deriving DecidableEq, Repr

/-- A handling in progress on the collector's stack (R445). -/
structure Handling where
  cls : Nat
  src : Nat
  /-- The task whose cycle ends it, and how many of its cycle ends are still to come; `ended` once none is. -/
  task : Nat
  await : Nat
  ended : Bool
  deriving DecidableEq, Repr

/-- The fault collector beyond its words (spec/15). -/
structure Fc where
  /-- Handlings in progress, top first (R445). -/
  stack : List Handling := []
  /-- Queued firings, oldest first (R445). -/
  queue : List Raise := []
  /-- The module-reset window (R443, R447). -/
  resetWindow : Bool := false
  /-- Conditions of level sources that hold now: they fire again only after the condition has cleared (spec/02 R50). -/
  conds : List Nat := []
  /-- SAFE of the Jig (R450). -/
  jigSafe : Bool := false
  /-- Firings that an inverted check causes still carry JIG until this step ends (R450). -/
  jigNow : Bool := false
  deriving DecidableEq, Repr

/-- The event recorder beyond its words (spec/15). -/
structure Recd where
  /-- Staging buffer: unflushed records, oldest first, at most 16,384 (R452). -/
  staging : List Rec := []
  /-- Records lost since the last flush (R452). -/
  lost : Nat := 0
  /-- Rate counts of the interval: code → (written, surplus, time of the first suppressed) (R454). -/
  rates : Tab (Nat × Nat × Nat) := []
  deriving DecidableEq, Repr

/-- The result of a descriptor that waits for its application point (spec/16 R467). -/
structure Result where
  ring : Nat
  /-- RES of the descriptor; tag, status code and detail of the result record (spec/16 Table 16-3). -/
  res : Nat
  tag : Nat
  code : Nat
  detail : List Byte
  /-- Reply data: location and bytes. -/
  reply : List (Loc × List Byte)
  deriving DecidableEq, Repr

/-- Writes from outside the program that wait for the next input update point (spec/09 R257; spec/12 R373; spec/16 R464, R467): a datagram's
writes with its session, sequence number and port, a descriptor's result, a write of the bench port, or an item of a delivered ring with its
slot size. -/
inductive Job where
  | datagram (session seq : Nat) (port2 : Bool) (writes : List (Loc × List Byte))
  | result (r : Result)
  | bench (l : Loc) (bytes : List Byte)
  | item (ring size : Nat) (bytes : List Byte)
  deriving DecidableEq, Repr

/-- A queued feed or context write of the CRC unit (spec/16 R471). -/
inductive Feed where
  | bytes (ctx : Nat) (l : List Byte)
  | val (ctx : Nat) (v : Word)
  | cfg (ctx : Nat) (mask v : Word)
  deriving DecidableEq, Repr

/-- The system rings and the CRC unit beyond their words (spec/16). -/
structure SysRings where
  /-- Descriptors posted and not done: ring × 65,536 + index → 32 bytes. -/
  slots : Tab (List Byte) := []
  /-- Rings whose taken descriptor has not been started: a ring transaction without capacity (spec/12 R367), a HART command. -/
  ready : List Nat := []
  /-- Rings whose descriptor has ended and whose result waits for its application point. -/
  ended : List Nat := []
  /-- Jobs in order of arrival. -/
  jobs : List Job := []
  /-- Feeds of the CRC unit's queue, oldest first, at most 256 (R471). -/
  feeds : List Feed := []
  /-- A message of ring 6 that waits for acknowledgements: the sessions that have yet to answer, and how many have (R469). -/
  message : Option (List Nat × Nat) := none
  deriving DecidableEq, Repr

/-- A Glue-up record (spec/17 Table 17-3). -/
structure Glue where
  state : Nat
  origin : Nat
  setSeq : Nat
  crc : Word
  deriving DecidableEq, Repr

/-- A copy of the Glue-up record (spec/17 R479). -/
structure GlueCopy where
  seq : Nat
  glue : Glue
  /-- The copy's own CRC-32. -/
  crc : Word
  deriving DecidableEq, Repr

/-- The set that a new module of the model holds (the spec gives none): seven parts of version 0 and length 0. (DESIGN CHOICE: log entry 32) -/
def factorySet : Manifest :=
  ⟨0x31464D4C#32, 1, 7, 1#32, 1, 1, 0, 0, true,
    [⟨1, 0, 0, 0⟩, ⟨2, 0, 0, 0⟩, ⟨3, 0, 0, 0⟩, ⟨4, 0, 0, 0⟩, ⟨5, 0, 0, 0⟩, ⟨6, 0, 0, 0⟩, ⟨7, 0, 0, 0⟩], 0, 0, 0⟩

/-- Update and bench port beyond their words (spec/17). (DESIGN CHOICE: log entry 32) -/
structure Upd where
  /-- Image store: the two copies of the Glue-up record (R479), manifest of the set in force, and for each part the length and SHA-256 of
  what its slot holds. A new module holds a factory set. -/
  glueA : Option GlueCopy := some ⟨1, ⟨3, 2, 1, 0xFB27D598#32⟩, 0x60F72D59#32⟩
  glueB : Option GlueCopy := none
  manifest : Option Manifest := some factorySet
  slots : Tab (Nat × BitVec 256) := [(1, 0, 0), (2, 0, 0), (3, 0, 0), (4, 0, 0), (5, 0, 0), (6, 0, 0), (7, 0, 0)]
  /-- An update in progress in the loader: its manifest and the parts still to come (R478). -/
  target : Option Manifest := none
  left : List Nat := []
  /-- SHA-256 of the firmware that runs in the Mortise (R481), and an offer of the MRT part that waits for its answer. -/
  mrtFw : BitVec 256 := 0
  offered : Bool := false
  /-- FAIL_REASON and FAIL_PART as kept in the image store; FS60 is due at the next start that runs a program (R482). -/
  failReason : Nat := 0
  failPart : Nat := 0
  failNew : Bool := false
  /-- Failed clone attempts in a row (R484). -/
  cloneFails : Nat := 0
  /-- Layout version of the MRAM containers (R485). -/
  dataVer : Nat := 0
  /-- Lock level (R491). -/
  lock : Nat := 1
  /-- LOAD_STOP in progress (R488). -/
  stopping : Bool := false
  /-- The set in force has started a program before (R485). -/
  ranSet : Bool := true
  /-- The FIO part has changed from the previous set: the field side restarts at the start (R480). -/
  fioNew : Bool := false
  deriving DecidableEq, Repr

/-- Why the machine stops (a fault of the model): nothing stops it. Every command of the spec has an effect, be it that it is turned away;
no meaning raises a fault. -/
inductive Fault
  deriving DecidableEq, Repr

/-- Why a command has no meaning. -/
inductive Refusal where
  /-- The command's meaning is not modelled yet; raised by the arms of `exec` alone; safe: no claim about it can be proved. -/
  | notModelled (mnemonic : String)
  deriving DecidableEq, Repr

/-- The state of one module (spec/00–17). -/
structure State where
  /-- Commands that wait, first in first out; not a part of the hardware: the queue of the modelling interface. -/
  pending : List Instr := []
  /-- REF time since power was first applied [ns] (spec/02 R42: REF; spec/04 R116). -/
  ns : Nat := 0
  /-- System words that differ from their reset value (spec/00 R6–R8 and every block's map). -/
  words : Words := []
  /-- Program data areas I, Q, M, D, L, T, C of both banks (spec/03 R70; spec/07 R196): cells that are not 0. -/
  mem : List Host.Cell := []
  /-- The model's counter of free values: the next one is `Config.f freeCtr`. -/
  freeCtr : Nat := 0
  /-- What writing 1 to reserved fields has done (spec/00 R10): the free values drawn, newest first. -/
  openState : Word := 0
  /-- Sources raised in this step that the collector has yet to handle; empty between steps. -/
  raised : List Raise := []
  /-- What left the module, oldest first: the model's record of its pins and links. -/
  tx : List Tx := []
  /-- The running program version (spec/05 R139). -/
  prog : Option Image := none
  pw : Power := {}
  mram : Mram := {}
  sch : Sched := {}
  lp : Lp := {}
  prot : Prot := {}
  fc : Fc := {}
  recd : Recd := {}
  pair : Pair := {}
  ring : Ring := {}
  plant : Plant := {}
  ptp : Ptp := {}
  sr : SysRings := {}
  le : Engine := {}
  mrt : Mrt := {}
  lio : Lio := {}
  oc : Online := {}
  can : Can := {}
  vn : Veneer := {}
  upd : Upd := {}
  deriving DecidableEq, Repr

/-- The module right after reset: every field at its reset value, no command waiting. (DESIGN CHOICE: log entries 8, 9) -/
def State.reset : State := {}

end Sys2Proof.Machine
end

