-- ==== Sys2Proof/Machine/Ops.lean ====
section
/-! DEFINITION. The named operations every block uses: tables, system words and their fields, memory, the time, raising a fault
source, and writing a recorder record. -/

namespace Sys2Proof.Machine

/-! ## Tables -/

/-- The entry of key `k`, or `d`. -/
def tget {α : Type} (d : α) : Tab α → Nat → α
  | [], _ => d
  | (j, v) :: t, k => if j = k then v else tget d t k

/-- The entry of key `k` if listed. -/
def tfind {α : Type} : Tab α → Nat → Option α
  | [], _ => none
  | (j, v) :: t, k => if j = k then some v else tfind t k

/-- Sets the entry of key `k`, keeping the keys rising. -/
def tput {α : Type} (k : Nat) (v : α) : Tab α → Tab α
  | [] => [(k, v)]
  | (j, u) :: t => if k < j then (k, v) :: (j, u) :: t else if k = j then (k, v) :: t else (j, u) :: tput k v t

/-- Removes the entry of key `k`. -/
def tdel {α : Type} (k : Nat) (t : Tab α) : Tab α := t.filter fun e => e.1 != k

/-- The `i`-th element of a list, or `d`. -/
def nth {α : Type} (d : α) : List α → Nat → α
  | [], _ => d
  | a :: _, 0 => a
  | _ :: t, i + 1 => nth d t i

/-- Sets the `i`-th element of a list; a list that is too short stays as it is. -/
def setNth {α : Type} (v : α) : List α → Nat → List α
  | [], _ => []
  | _ :: t, 0 => v :: t
  | a :: t, i + 1 => a :: setNth v t i

/-- The first `n` elements of a list, `d` where it is too short, with the `i`-th set. -/
def putNth {α : Type} (n : Nat) (d v : α) (l : List α) (i : Nat) : List α := (List.range n).map fun k => if k = i then v else nth d l k

/-- A condition from the facts that must all hold. -/
def allOf (l : List Bool) : Bool := l.all id

/-! ## System words (spec/00 R6–R8) -/

/-- The listed value of word `i`. -/
def wfind : Words → Nat → Option Word
  | [], _ => none
  | (j, v) :: t, i => if j = i then some v else wfind t i

/-- Puts an entry in place, keeping the indices rising. -/
def wput (i : Nat) (v : Word) : Words → Words
  | [] => [(i, v)]
  | (j, u) :: t => if i < j then (i, v) :: (j, u) :: t else if i = j then (i, v) :: t else (j, u) :: wput i v t

/-- Sets word `i` and keeps the form: rising indices, no entry equal to its reset value. -/
def wset (i : Nat) (v : Word) (l : Words) : Words := if v = resetOf i then l.filter (fun e => e.1 != i) else wput i v l

/-- The value word `i` holds. -/
def State.word (s : State) (i : Nat) : Word := (wfind s.words i).getD (resetOf i)

/-- Sets word `i`. -/
def State.setWord (s : State) (i : Nat) (v : Word) : State := { s with words := wset i v s.words }

/-- The value of a field in a word. -/
def Fld.get (f : Fld) (w : Word) : Nat := w.toNat / 2 ^ f.lo % 2 ^ (f.hi - f.lo + 1)

/-- The word with a field set to `n`, as many bits of it as the field has. -/
def Fld.set (f : Fld) (w : Word) (n : Nat) : Word :=
  BitVec.ofNat 32 (w.toNat - f.get w * 2 ^ f.lo + n % 2 ^ (f.hi - f.lo + 1) * 2 ^ f.lo)

/-- Largest value a field holds. -/
def Fld.max (f : Fld) : Nat := 2 ^ (f.hi - f.lo + 1) - 1

/-- Reads a field. -/
def State.rd (s : State) (f : Fld) : Nat := f.get (s.word f.idx)

/-- Whether a field is not 0. -/
def State.on (s : State) (f : Fld) : Bool := s.rd f != 0

/-- Sets a field. -/
def State.wr (s : State) (f : Fld) (n : Nat) : State := s.setWord f.idx (f.set (s.word f.idx) n)

/-- Sets a one-bit field. -/
def State.flag (s : State) (f : Fld) (b : Bool) : State := s.wr f (bitNat b)

/-- Adds to a field, saturating at its largest value. -/
def State.incBy (s : State) (f : Fld) (k : Nat) : State := s.wr f (satAdd f.max (s.rd f) k)

/-- Adds 1 to a field, saturating. -/
def State.inc (s : State) (f : Fld) : State := s.incBy f 1

/-- Adds 1 to a field, wrapping. -/
def State.bump (s : State) (f : Fld) : State := s.wr f (s.rd f + 1)

/-- Holds the larger of a field and `n`, saturating. -/
def State.peak (s : State) (f : Fld) (n : Nat) : State := s.wr f (if s.rd f < n then min n f.max else s.rd f)

/-- A 64-bit value in a LO and a HI word. -/
def State.set64 (s : State) (lo hi : Nat) (v : Nat) : State :=
  (s.setWord lo (BitVec.ofNat 32 v)).setWord hi (BitVec.ofNat 32 (v / 2 ^ 32))

/-- The 64-bit value of a LO and a HI word. -/
def State.get64 (s : State) (lo hi : Nat) : Nat := (s.word lo).toNat + (s.word hi).toNat * 2 ^ 32

/-- A word from a signed number, modulo 2^32. -/
def wordOfInt (x : Int) : Word := BitVec.ofInt 32 x

/-- A field value from a signed number, modulo the field's size. -/
def natOfInt (bits : Nat) (x : Int) : Nat := (x % (2 ^ bits : Int)).toNat

/-- The masks of a word's access codes; a word the map does not list has none. -/
def rowOr (i : Nat) : Row := (rowOf i).getD ⟨i, 1, 1, 0, 0, 0, 0, 0, false⟩

/-- Whether the map marks the word as a setting (spec/02 R63). -/
def isSetting (i : Nat) : Bool := (rowOr i).setting

/-- The settings image takes the value of a setting (spec/02 R63): every field of it that is RW. -/
def State.keepSetting (s : State) (i : Nat) : State :=
  if isSetting i then { s with mram := { s.mram with settings := tput i (s.word i &&& (rowOr i).rw) s.mram.settings } } else s

/-- Sets a field of a setting and the settings image with it (spec/02 R63). -/
def State.wrSet (s : State) (f : Fld) (n : Nat) : State := (s.wr f n).keepSetting f.idx

/-- What a write of the bits of `mask` with value `v` leaves in word `i` by the access codes alone (spec/00 R8): RW fields take the
value, W1C bits written 1 clear, RO, RS and WO fields stay. -/
def accessWrite (i : Nat) (old mask v : Word) : Word :=
  let r := rowOr i
  ((old &&& ~~~(r.rw &&& mask)) ||| (v &&& r.rw &&& mask)) &&& ~~~(r.w1c &&& mask &&& v)

/-- Bits of word `i` that are reserved (spec/00 R10). -/
def reservedBits (i : Nat) : Word :=
  let r := rowOr i
  ~~~(r.ro ||| r.rw ||| r.w1c ||| r.wo)

/-- The next free value's number is used up. (DESIGN CHOICE: log entry 11) -/
def State.drawn (s : State) : State := { s with freeCtr := s.freeCtr + 1 }

/-- Writing 1 to a reserved field has an effect that is not defined (spec/00 R10): a free value stands for it. (DESIGN CHOICE: log entry 12) -/
def State.reservedWrite (s : State) (i : Nat) (mask v : Word) : State :=
  if reservedBits i &&& mask &&& v = 0 then s
  else { s.drawn with openState := Config.reservedEffect s.freeCtr }

/-- The plain effect of a write by access codes, with the settings image (spec/00 R8, R10; spec/02 R63). -/
def State.plainWrite (s : State) (i : Nat) (mask v : Word) : State :=
  ((s.setWord i (accessWrite i (s.word i) mask v)).keepSetting i).reservedWrite i mask v

/-! ## Memory (spec/03 R70; one byte a cell, little-endian, spec/00 R5) -/

/-- Key of a location in a bank (spec/07 R196). (DESIGN CHOICE: log entry 10) -/
def cellKey (bank : Nat) (l : Loc) : Nat := bank * 2 ^ 44 + l.area * 2 ^ 40 + l.sel * 2 ^ 20 + l.off

/-- Bank of the running version. -/
def State.bank (s : State) : Nat := s.mram.area

/-- The byte of a key; an unlisted one reads 0. (DESIGN CHOICE: log entry 10) -/
def mget : List Host.Cell → Nat → Byte
  | [], _ => 0
  | (j, b) :: t, k => if j = k then b else mget t k

/-- Puts a cell in place, keeping the keys rising. -/
def mput (k : Nat) (b : Byte) : List Host.Cell → List Host.Cell
  | [] => [(k, b)]
  | (j, c) :: t => if k < j then (k, b) :: (j, c) :: t else if k = j then (k, b) :: t else (j, c) :: mput k b t

/-- Sets the byte of a key and keeps the form: rising keys, no entry 0. (DESIGN CHOICE: log entry 10) -/
def mset (k : Nat) (b : Byte) (m : List Host.Cell) : List Host.Cell := if b = 0 then m.filter (fun c => c.1 != k) else mput k b m

/-- The canonical form of a memory: keys strictly rising from `lo` on, no entry equal to what an unlisted key reads as. -/
def Memory.wfFrom : Nat → List Host.Cell → Bool
  | _, [] => true
  | lo, (k, b) :: t => lo ≤ k && b != 0 && Memory.wfFrom (k + 1) t

/-- The canonical form of a memory. (DESIGN CHOICE: log entry 10) -/
def Memory.wf (m : List Host.Cell) : Bool := Memory.wfFrom 0 m

/-- Removes every cell whose key lies in [lo, hi). -/
def mclear (lo hi : Nat) (m : List Host.Cell) : List Host.Cell := m.filter fun c => c.1 < lo || hi ≤ c.1

/-- Sets the bytes from a key on. -/
def msetList (k : Nat) : List Byte → List Host.Cell → List Host.Cell
  | [], m => m
  | b :: t, m => msetList (k + 1) t (mset k b m)

/-- Reads `n` bytes from a key on. -/
def mgetList (m : List Host.Cell) (k : Nat) : Nat → List Byte
  | 0 => []
  | n + 1 => mget m k :: mgetList m (k + 1) n

/-- The byte at a location of the running bank. -/
def State.byte (s : State) (l : Loc) : Byte := mget s.mem (cellKey s.bank l)

/-- The `n` bytes from a location on. -/
def State.bytes (s : State) (l : Loc) (n : Nat) : List Byte := mgetList s.mem (cellKey s.bank l) n

/-- The 64-byte lines that `n` bytes from a key on lie in. -/
def linesOf (k n : Nat) : List Nat := if n = 0 then [] else (List.range ((k + n - 1) / 64 + 1 - k / 64)).map (· + k / 64)

/-- The list with the elements of another that it does not hold. -/
def addNew (l m : List Nat) : List Nat := l ++ m.filter (fun x => !l.contains x)

/-- Sets the bytes from a location on. While the active sends IMAGE, the lines written are marked (spec/09 R280). -/
def State.setBytes (s : State) (l : Loc) (bs : List Byte) : State :=
  let k := cellKey s.bank l
  { s with
    mem := msetList k bs s.mem
    pair := if s.pair.marking then { s.pair with marked := addNew s.pair.marked (linesOf k bs.length) } else s.pair }

/-- The number that little-endian bytes stand for. -/
def leNat : List Byte → Nat
  | [] => 0
  | b :: t => b.toNat + 256 * leNat t

/-- The `n` little-endian bytes of a number. -/
def leBytes : Nat → Nat → List Byte
  | 0, _ => []
  | n + 1, v => BitVec.ofNat 8 v :: leBytes n (v / 256)

/-- A list in parts of `n` items; the second number bounds how many parts there are. -/
def chunks {α : Type} (n : Nat) : Nat → List α → List (List α)
  | 0, _ => []
  | k + 1, l => if l = [] then [] else l.take n :: chunks n k (l.drop n)

/-- Little-endian words of a number. -/
def leWords : Nat → Nat → List Nat
  | 0, _ => []
  | n + 1, v => v % 2 ^ 32 :: leWords n (v / 2 ^ 32)

/-- The byte with one bit set to `v`. -/
def setBit (b : Byte) (i : Nat) (v : Bool) : Byte :=
  if v then b ||| BitVec.ofNat 8 (2 ^ i) else b &&& ~~~(BitVec.ofNat 8 (2 ^ i))

/-! ## Time -/

/-- TT now [µs] (spec/04 R116). -/
def State.ttNow (s : State) : Nat := ((s.ns / 1000 : Nat) + s.sch.ttOff).toNat

/-- Whole seconds of TT (spec/06 R188; spec/15 R454). -/
def State.ttSec (s : State) : Nat := s.ttNow / 1000000

/-- The current grid tick k (spec/05 R141). -/
def State.tick (s : State) : Nat := s.get64 W.TICK_LO W.TICK_HI

/-- AON ticks of 32.768 kHz (spec/02 R48). -/
def State.aonTicks (s : State) : Nat := s.ns * 32768 / 1000000000

/-! ## Clock domains (spec/02 R42–R44) -/

/-- A clock domain's mode (spec/02 R42). -/
def State.dom (s : State) (d : Nat) : DomMode := nth .off s.pw.doms (d - 1)
def State.setDom (s : State) (d : Nat) (m : DomMode) : State := { s with pw := { s.pw with doms := putNth 14 .off m s.pw.doms (d - 1) } }

/-- Starts a domain that is stopped (spec/02 R43). -/
def State.startDom (s : State) (d : Nat) : State :=
  match s.dom d with
  | .gated => s.setDom d .startingGated
  | .parked => s.setDom d .startingParked
  | .off => s.setDom d .startingParked
  | _ => s

/-- The clock domain that an access to a system word needs and that does not run of itself: the display block's (spec/02 Table 2-1; spec/03 R96;
spec/00 Table of blocks). -/
def blockDomain (i : Nat) : Option Nat := if 0x1E00 ≤ i && i < 0x1F00 then some 14 else none

/-- An access to a system word starts the stopped domain of its block (spec/02 R44). -/
def State.blockStart (s : State) (i : Nat) : State := match blockDomain i with | some d => s.startDom d | none => s

/-- The loop engine evaluates laws: its domain runs in a slice that the scheduler has planned, and no power-fail sequence has stopped it
(spec/02 R44; spec/08 R225, R241, R244). -/
def State.engineRuns (s : State) : Bool := s.dom 6 == .run && !s.le.access && !s.le.stopped

/-! ## Raising a fault source, and outputs -/

/-- Sources that a checker of the Jig feeds (spec/15 Table 15-6). -/
def jigSources (c : Nat) : List Nat :=
  if c = 2 then [9, 11] else if c = 3 then [20, 21] else if c = 4 then [36] else if c = 5 then [25] else if c = 6 then [33]
  else if c = 7 then [58] else []

/-- A fault source is raised; the collector handles it before the step ends (spec/15 R438). It carries JIG if an inverted check causes
it, or while the Jig is armed on a checker that feeds it (R450). (DEDUCED: log entry 15) -/
def State.raise (s : State) (src agent d1 d2 : Nat) : State :=
  let jig := s.fc.jigNow || (s.on F.FC_JIG_STAT_ARMED && (jigSources (s.rd F.FC_JIG_STAT_CHECKER)).contains src)
  { s with raised := s.raised ++ [⟨src, agent, d1, d2, jig, s.on F.FC_STAT_TRAP⟩] }

/-- A check of checker `c`: if the Jig is armed on it, the check sees inverted check bits, which a healthy checker finds; the Jig disarms
at the last (spec/15 R450). (DEDUCED: log entry 39) -/
def State.jigCheck (s : State) (c : Nat) : Bool × State :=
  if s.on F.FC_JIG_STAT_ARMED && s.rd F.FC_JIG_STAT_CHECKER == c then
    let left := s.rd F.FC_JIG_STAT_LEFT - 1
    let s1 := (s.inc F.FC_JIG_STAT_HITS).wr F.FC_JIG_STAT_LEFT left
    let s2 : State := { s1 with fc := { s1.fc with jigNow := true } }
    (true, if left = 0 then (s2.flag F.FC_JIG_STAT_ARMED false).flag F.FC_JIG_STAT_DONE true else s2)
  else (false, s)

/-- Raises a source on the rising edge of a condition (spec/02 R50). (DEDUCED: log entry 15) -/
def State.raiseEdge (s : State) (src agent d1 d2 : Nat) (b : Bool) : State :=
  if b then
    if s.fc.conds.contains src then s
    else { s with fc := { s.fc with conds := s.fc.conds ++ [src] } }.raise src agent d1 d2
  else { s with fc := { s.fc with conds := s.fc.conds.filter (· != src) } }

/-- Something leaves the module. (DESIGN CHOICE: log entry 14) -/
def State.emit (s : State) (l : Link) (k : TxKind) (d : List Nat) : State := { s with tx := s.tx ++ [⟨l, k, d⟩] }

end Sys2Proof.Machine
end

