-- ==== Sys2Proof/Machine/Records.lean ====
section
/-! DEFINITION. The time base (spec/12 R375), the event recorder (spec/15 R451–R456) and the CRCs that more than one block uses. -/

namespace Sys2Proof.Machine

/-! ## Time base -/

/-- REF ns since `atNs`, in whole clock edges of 4 ns (R375). -/
def State.tbEdges (s : State) : Nat := (s.ns - s.ptp.atNs) / 4

/-- The time base as a count of 2^-32 ns (R375): each edge adds 4 ns × (1 + RATE_ADJ × 2^-32). -/
def State.tbFine (s : State) : Nat :=
  (s.ptp.base * 2 ^ 32 + s.ptp.frac + s.tbEdges * (4 * (2 ^ 32 + (s.word W.RATE_ADJ).toInt)).toNat)

/-- The time base now [ns] (R375). -/
def State.timeBase (s : State) : Nat := s.tbFine / 2 ^ 32 % 2 ^ 64

/-- Takes the time base as it stands for the new starting point of the count. -/
def State.tbHold (s : State) : State :=
  { s with ptp := { s.ptp with base := s.timeBase, frac := s.tbFine % 2 ^ 32, atNs := s.ptp.atNs + 4 * s.tbEdges } }

/-- Changes RATE_ADJ, within ±858,993 (R375); what it was stays known for 10 s (R377). (DESIGN CHOICE: log entry 20) -/
def State.setRate (s : State) (r : Int) : State :=
  let s1 := s.tbHold
  let old := (s.word W.RATE_ADJ).toInt
  let past := (s1.ns, old) :: s1.ptp.rates.filter (fun (e : Nat × Int) => decide (s1.ns ≤ e.1 + 10000000000))
  { s1 with ptp := { s1.ptp with rates := past } }.setWord W.RATE_ADJ (wordOfInt (clampInt (-858993) 858993 r))

/-! ## CRCs -/

/-- One bit of a right-shifting CRC. -/
def crcBit (w : Nat) (poly : BitVec w) (c : BitVec w) : BitVec w :=
  if c.getLsbD 0 then (c >>> 1) ^^^ poly else c >>> 1

/-- One byte of a right-shifting CRC, least significant bit first. -/
def crcByte (w : Nat) (poly : BitVec w) (c : BitVec w) (b : Byte) : BitVec w :=
  let c := c ^^^ b.setWidth w
  crcBit w poly (crcBit w poly (crcBit w poly (crcBit w poly (crcBit w poly (crcBit w poly (crcBit w poly (crcBit w poly c)))))))

/-- Bytes of a right-shifting CRC. -/
def crcBytes (w : Nat) (poly : BitVec w) (c : BitVec w) (l : List Byte) : BitVec w := l.foldl (crcByte w poly) c

/-- The register of the CRC-64 of spec/06 R497 before its final inversion: the polynomial of ECMA-182 bit-reversed, register all ones. -/
def crc64Poly : BitVec 64 := 0xC96C5795D7870F42#64

/-- The register at the start (spec/06 R497). -/
def crc64Start : BitVec 64 := 0xFFFFFFFFFFFFFFFF#64

/-- Feeds bytes (spec/06 R497). -/
def crc64Feed (c : BitVec 64) (l : List Byte) : BitVec 64 := crcBytes 64 crc64Poly c l

/-- The CRC-64 of bytes (spec/06 R497). -/
def crc64 (l : List Byte) : BitVec 64 := ~~~(crc64Feed crc64Start l)

/-- CRC-32C of bytes (the CRC of records, frames and MRAM copies: spec/15 Table 15-7, spec/09 Table 9-3). -/
def crc32c (l : List Byte) : Word := ~~~(crcBytes 32 0x82F63B78#32 0xFFFFFFFF#32 l)

/-! ## Records (spec/15 Table 15-7) -/

/-- Bytes 0–27 of a record. -/
def Rec.body (r : Rec) : List Byte :=
  leBytes 8 r.time ++ leBytes 2 r.code ++ leBytes 2 r.source ++ leBytes 4 r.d0 ++ leBytes 4 r.d1 ++ leBytes 4 r.d2 ++ leBytes 4 r.seq

/-- The 32 bytes of a record, its CRC-32C last. -/
def Rec.image (r : Rec) : List Byte := r.body ++ leBytes 4 (crc32c r.body).toNat

/-- Whether a code is never rate-limited (Table 15-8). -/
def rateExempt (code : Nat) : Bool := [1, 2, 3, 4, 0x10].contains code

/-- The limit of a code in one second: the first REC_LIM slot that names it, else RATE_LIMIT; none for no limit (R454). -/
def State.rateLimit (s : State) (code : Nat) : Option Nat :=
  match (List.range 8).find? (fun n => s.rd (F.REC_LIM_CODE n) == code && code != 0) with
  | some n => if s.rd (F.REC_LIM_LIMIT n) = 0xFFFF then none else some (s.rd (F.REC_LIM_LIMIT n))
  | none => if s.rd F.REC_CFG_RATE_LIMIT = 0 then none else some (s.rd F.REC_CFG_RATE_LIMIT)

/-- Puts a record into the staging buffer, or counts it lost if 16,384 are unflushed (R451, R452). (DEDUCED: log entry 70) -/
def State.stage (s : State) (code source d0 d1 d2 : Nat) : State :=
  if 16384 ≤ s.recd.staging.length then
    { s with recd := { s.recd with lost := s.recd.lost + 1 } }.inc F.REC_LOST
  else
    let q := (s.rd F.REC_SEQ + 1) % 2 ^ 32
    let r : Rec := ⟨s.timeBase, code, source, d0, d1, d2, q⟩
    ({ s with recd := { s.recd with staging := s.recd.staging ++ [r] } }.wr F.REC_SEQ q).wr F.REC_STAT_UNFLUSHED (s.recd.staging.length + 1)

/-- A flush: every unflushed record in SEQ order into the history, whose 65,536 newest stay; a staging-full record follows if records
were lost (R452). -/
def State.flushNow (s : State) : State :=
  let h := s.mram.history ++ s.recd.staging
  let s1 := { s with mram := { s.mram with history := h.drop (h.length - 65536) }, recd := { s.recd with staging := [], lost := 0 } }
  let s2 := (s1.wr F.REC_STAT_UNFLUSHED 0).wr F.REC_FLUSHED (s.rd F.REC_SEQ)
  if s.recd.lost = 0 then s2 else s2.stage 2 0 s.recd.lost 0 0

/-- A flush, unless a freeze stands (R455). -/
def State.flush (s : State) : State := if s.on F.REC_STAT_FROZEN then s else s.flushNow

/-- Writes a record: within its rate limit, and with the flush at 8,192 unflushed records (R451, R452, R454). -/
def State.note (s : State) (code source d0 d1 d2 : Nat) : State :=
  let (n, extra, t0) := tget (0, 0, 0) s.recd.rates code
  let tooMany := match s.rateLimit code with | some l => decide (l ≤ n) && !rateExempt code | none => false
  if tooMany then
    { s with recd := { s.recd with rates := tput code (n, extra + 1, if extra = 0 then s.timeBase else t0) s.recd.rates } }
  else
    let s1 := { s with recd := { s.recd with rates := tput code (n + 1, extra, t0) s.recd.rates } }.stage code source d0 d1 d2
    if 8192 ≤ s1.recd.staging.length then s1.flush else s1

/-- Ends a freeze with the case of D1 (R455). -/
def State.unfreeze (s : State) (why : Nat) : State :=
  if s.on F.REC_STAT_FROZEN then (s.flag F.REC_STAT_FROZEN false).note 3 0 0 why 0 else s

end Sys2Proof.Machine
end

