-- ==== Sys2Proof/Machine/Protect.lean ====
section
/-! DEFINITION. The protection unit's decision on an access and its report of a denial (spec/15 R427–R437). -/

namespace Sys2Proof.Machine

/-- An access as the unit sees it (R428): the units first–last that it touches, in the unit of its area; `len` bytes it reads or
writes, 0 for a bit access (R432). -/
structure Access where
  master : Nat
  write : Bool
  area : Nat
  sel : Nat
  first : Nat
  last : Nat
  len : Nat
  agent : Nat
  deriving DecidableEq, Repr

/-- The unit's decision (R429). -/
inductive Verdict where
  | allowed
  | hard (rule : Nat)
  | straddle (rule : Nat)
  | denied (rule : Nat)
  deriving DecidableEq, Repr

/-- The area codes: I 0, Q 1, M 2, D 3, L 4, T 5, C 6, S 7 (spec/03 Table 3-4). -/
def areaS : Nat := 7

/-- A hard-wired rule that forbids the access (Table 15-2, rules 0–2). -/
def hardRule (a : Access) : Option Nat :=
  if a.area ≠ areaS || !a.write then none
  else if a.first ≤ 0x14EF && 0x1400 ≤ a.last then some 0
  else if a.first ≤ 0x14F3 && 0x14F0 ≤ a.last && a.master ≠ 0 then some 1
  else if ((a.first ≤ 0x1FFF && 0x1F00 ≤ a.last) || (a.first ≤ 0x2020 && 0x2020 ≤ a.last)) && a.master ≠ 0 then some 2
  else none

/-- Rule `r` of a master in a rule set: its two words. -/
def ruleOf (t : Tab Word) (m r : Nat) : Word × Word := (tget 0 t (64 * m + 2 * r), tget 0 t (64 * m + 2 * r + 1))

/-- Fields of the rule words (Table 15-11, R459), on word index 0. -/
def rEN : Fld := ⟨0, 31, 31⟩
def rRD : Fld := ⟨0, 30, 30⟩
def rWR : Fld := ⟨0, 29, 29⟩
def rAREA : Fld := ⟨0, 28, 25⟩
def rSEL : Fld := ⟨0, 15, 0⟩
def rLAST : Fld := ⟨0, 31, 16⟩
def rFIRST : Fld := ⟨0, 15, 0⟩

/-- Whether a rule is enabled, of the access's area, and its selector covers the access (R429). -/
def ruleCovers (a : Access) (w : Word × Word) : Bool :=
  rEN.get w.1 == 1 && rAREA.get w.1 == a.area
    && (if a.area = 3 then rSEL.get w.1 == a.sel || rSEL.get w.1 == 0
        else if a.area = 4 then rSEL.get w.1 == a.sel || rSEL.get w.1 == 0xFFFF
        else true)

/-- Whether the access touches a unit inside the rule's range. -/
def ruleTouches (a : Access) (w : Word × Word) : Bool := decide (a.first ≤ rLAST.get w.2) && decide (rFIRST.get w.2 ≤ a.last)

/-- Whether the access touches units both inside and outside the rule's range. -/
def ruleStraddles (a : Access) (w : Word × Word) : Bool :=
  ruleTouches a w && (decide (a.first < rFIRST.get w.2) || decide (rLAST.get w.2 < a.last))

/-- The decision of the unit under the active rules (R429). -/
def verdict (active : Tab Word) (a : Access) : Verdict :=
  match hardRule a with
  | some r => .hard r
  | none =>
    match (List.range 32).find? (fun r => ruleCovers a (ruleOf active a.master r) && ruleStraddles a (ruleOf active a.master r)) with
    | some r => .straddle r
    | none =>
      match (List.range 32).find? (fun r => ruleCovers a (ruleOf active a.master r) && ruleTouches a (ruleOf active a.master r)) with
      | none => .allowed
      | some r =>
        let w := ruleOf active a.master r
        if (if a.write then rWR.get w.1 else rRD.get w.1) = 1 then .allowed else .denied r

/-- PR_CAP_INFO of a denial (Table 15-11). -/
def capInfo (a : Access) (v : Verdict) : Word :=
  let (h, st, r) := match v with
    | .allowed => (0, 0, 0) | .hard r => (1, 0, r) | .straddle r => (0, 1, r) | .denied r => (0, 0, r)
  BitVec.ofNat 32 (a.master * 2 ^ 29 + bitNat a.write * 2 ^ 28 + a.area * 2 ^ 24 + h * 2 ^ 23 + st * 2 ^ 22 + r * 2 ^ 16
    + (if a.area = 3 || a.area = 4 then a.sel else 0) % 2 ^ 16)

/-- PR_CAP_ADDR of a denial (R459). -/
def capAddr (a : Access) : Word := BitVec.ofNat 32 (a.len % 2 ^ 11 * 2 ^ 16 + a.first % 2 ^ 16)

/-- The capture of a denial, its count and its record (R431, R432). -/
def State.captureDenial (s : State) (master agent : Nat) (i d : Word) : State :=
  let s1 := s.inc (F.PR_VCNT master)
  let s2 := if s1.on F.PR_STAT_FIRST_VIOL then s1 else
    ((((s1.flag F.PR_STAT_FIRST_VIOL true).setWord W.PR_CAP_INFO i).setWord W.PR_CAP_ADDR d).setWord W.PR_CAP_EPOCH
      (s1.word W.PR_EPOCH)).setWord W.PR_CAP_AGENT (BitVec.ofNat 32 (agent % 2 ^ 16))
  s2.note 0x0200 master i.toNat d.toNat (s.word W.PR_EPOCH).toNat

/-- What a denial does beside its effect on the access: the capture, the count, the record and the fault sources (R431, R432, R457). -/
def State.denial (s : State) (a : Access) (v : Verdict) : State :=
  let i := capInfo a v
  let d := capAddr a
  let s3 := s.captureDenial a.master a.agent i d
  if a.master = 4 then s3 else
  let s4 := s3.raise (if a.master = 0 then 44 else 45) a.agent i.toNat d.toNat
  match v with | .straddle _ => s4.raise 46 a.agent i.toNat d.toNat | _ => s4

/-- Decides on an access and reports a denial; answers whether it is allowed (R429, R431). (DEDUCED: log entry 68) -/
def State.access (s : State) (a : Access) : Bool × State :=
  match verdict s.prot.active a with
  | .allowed => (true, s)
  | v => (false, s.denial a v)

/-- The units an access of `n` bytes at an offset touches: instances in T and C, bytes elsewhere (R428). -/
def unitsOf (area off n : Nat) : Nat × Nat :=
  if area = 5 || area = 6 then (off / 32, (off + n - 1) / 32) else (off, off + n - 1)

/-- An access to program data: `n` bytes at a location, `bit` for a bit access (R428, R432). (DEDUCED: log entry 68) -/
def memAccess (master agent : Nat) (write : Bool) (l : Loc) (n : Nat) (bit : Bool) : Access :=
  let u := unitsOf l.area l.off n
  ⟨master, write, l.area, l.sel, u.1, u.2, if bit then 0 else n, agent⟩

/-- An access to a system word. (DEDUCED: log entry 68) -/
def sysAccess (master agent : Nat) (write : Bool) (i : Nat) (bit : Bool) : Access :=
  ⟨master, write, areaS, 0, i, i, if bit then 0 else 4, agent⟩

/-- STAGED of PR_STAT: the staged and active sets differ (R433). -/
def State.showStaged (s : State) : State := s.flag F.PR_STAT_STAGED (s.prot.staged != s.prot.active)

/-- A refused write in the protection block (R437, R458). -/
def State.protRefuse (s : State) (i : Nat) (v : Word) : State := (s.flag F.PR_STAT_CFG_ERR true).raise 47 0 i v.toNat

/-- The largest unit of an area's range (R437). -/
def areaLimit (area : Nat) : Nat := if area = 7 then 0x3FFF else if area = 5 || area = 6 then 8191 else 65535

/-- Whether a rule, as it would stand, breaks R437. -/
def ruleBad (a b : Word) : Bool :=
  decide (8 ≤ rAREA.get a)
    || (rAREA.get a != 3 && rAREA.get a != 4 && rSEL.get a != 0)
    || (rEN.get a == 1 && (decide (rLAST.get b < rFIRST.get b) || decide (areaLimit (rAREA.get a) < rLAST.get b)))

/-- A write to a staged rule word of the selected master, `i` the index 0x1F40–0x1F7F (R433, R435, R437). -/
def State.writeRule (s : State) (i : Nat) (mask v : Word) : State :=
  let m := s.rd F.PR_MSEL
  let k := i - 0x1F40
  let old := tget 0 s.prot.staged (64 * m + k)
  let known : Word := if k % 2 = 0 then 0xFE00FFFF#32 else 0xFFFFFFFF#32
  let new := (old &&& ~~~mask) ||| (v &&& mask &&& known)
  let a := if k % 2 = 0 then new else tget 0 s.prot.staged (64 * m + k - 1)
  let b := if k % 2 = 0 then tget 0 s.prot.staged (64 * m + k + 1) else new
  if ruleBad a b then s.protRefuse i v
  else
    { s with prot := { s.prot with staged := tput (64 * m + k) new s.prot.staged },
             mram := { s.mram with rules := tput (64 * m + k) new s.mram.rules } }.showStaged.reservedWrite i mask v

/-- A write of PR_MSEL (R435, R437). -/
def State.writeMsel (s : State) (mask v : Word) : State :=
  let w := accessWrite W.PR_MSEL (s.word W.PR_MSEL) mask v
  if 4 < F.PR_MSEL.get w then s.protRefuse W.PR_MSEL v else s.plainWrite W.PR_MSEL mask v

/-- A write to PR_STAT: FIRST_VIOL written 1 clears the capture and re-arms it (R432). -/
def State.writePrStat (s : State) (mask v : Word) : State :=
  let s1 := s.plainWrite W.PR_STAT mask v
  if F.PR_STAT_FIRST_VIOL.get (mask &&& v) = 1 then
    (((s1.setWord W.PR_CAP_INFO 0).setWord W.PR_CAP_ADDR 0).setWord W.PR_CAP_EPOCH 0).setWord W.PR_CAP_AGENT 0
  else s1

/-- PSYNC at the unit: the staged set becomes active and the epoch advances modulo 2^32 (R433). -/
def State.epochAdvance (s : State) : State :=
  ({ s with prot := { s.prot with active := s.prot.staged } }.setWord W.PR_EPOCH (s.word W.PR_EPOCH + 1)).showStaged

end Sys2Proof.Machine
end

