-- ==== Sys2Proof/Machine/Dovetail.lean ====
section
/-! DEFINITION. The role, and sending on Dovetail (spec/09 R249, R253–R257, R263). -/

namespace Sys2Proof.Machine

/-! ## Role (spec/02 Table 2-10) -/

def roleLoader : Nat := 0
def roleSolo : Nat := 1
def roleActive : Nat := 2
def roleSync : Nat := 3
def roleUnsync : Nat := 4
def roleFenced : Nat := 5

/-- The role in force. -/
def State.role (s : State) : Nat := s.rd F.MOD_STAT_ROLE

/-- SOLO or ACTIVE: the module acts on the plant (Table 9-1). -/
def State.isActive (s : State) : Bool := s.role == roleSolo || s.role == roleActive

/-- STANDBY-SYNC or STANDBY-UNSYNC. -/
def State.isStandby (s : State) : Bool := s.role == roleSync || s.role == roleUnsync

/-- Own epoch E (R275). -/
def State.epoch (s : State) : Nat := (s.word W.EPOCH).toNat

/-- Takes a role: both role words, ring frames and pair addresses with it, and the role-change record (R249; spec/12 R370; spec/15
Table 15-8). Outside SOLO and ACTIVE no ring transaction and no HART request goes on (Table 9-1). -/
def State.setRole (s : State) (r : Nat) : State :=
  if s.role = r then s
  else
    let act := r == roleSolo || r == roleActive
    let s1 := (((s.wr F.MOD_STAT_ROLE r).wr F.PAIR_STAT_ROLE r).flag F.RING_STAT_RUNNING act).flag F.PLANT_STAT_PAIR_UP
      (act && s.on F.PLANT_CFG_PAIR_EN)
    let s2 : State := { s1 with
      plant := { s1.plant with announces := if act && s.on F.PLANT_CFG_PAIR_EN then 3 else 0 }
      ring := { s1.ring with flight := if act then s1.ring.flight else [] }
      lio := { s1.lio with hart := if act then s1.lio.hart else none } }
    s2.note 0x0011 0 s.role r s.epoch

/-- Slot 2 (R17). -/
def State.inSlot2 (s : State) : Bool := s.rd F.SLOT_STAT_ID % 2 == 1

/-- A higher epoch has been seen (R275): H is the largest. -/
def State.seeEpoch (s : State) (e : Nat) : State :=
  if s.rd F.EPOCH_SEEN < e then s.wr F.EPOCH_SEEN e else s

/-- A copy of an epoch as it is written. (DESIGN CHOICE: log entry 80) -/
def epochCopy (e : Nat) : EpochCopy := ⟨e, crc32c (leBytes 4 e)⟩

/-- A copy passes its CRC. -/
def EpochCopy.ok (c : EpochCopy) : Bool := c == epochCopy c.value

/-- The epoch that MRAM holds: of the first copy that passes its CRC; with none, 0 (R275). (DESIGN CHOICE: log entry 80) -/
def State.storedEpoch (s : State) : Nat :=
  if s.mram.epochA.ok then s.mram.epochA.value else if s.mram.epochB.ok then s.mram.epochB.value else 0

/-- MRAM keeps E, in both copies. -/
def State.storeEpoch (s : State) (e : Nat) : State := { s with mram := { s.mram with epochA := epochCopy e, epochB := epochCopy e } }

/-- Sets E and keeps it in MRAM (R275). -/
def State.setEpoch (s : State) (e : Nat) : State := ((s.wr F.EPOCH e).seeEpoch e).storeEpoch e

/-- Claims or releases ROLE_OUT (Table 9-1): a module whose alive signal has stopped holds no claim (R250). -/
def State.setRoleOut (s : State) (want : Bool) : State :=
  let b := want && s.pw.alvRun
  if s.pw.roleOut = b then s else { s with pw := { s.pw with roleOut := b } }.emit .field .level [0, bitNat (!b)]

/-- ALV_OUT stops toggling and ROLE_OUT is released with it (R250). (DESIGN CHOICE: log entry 80) -/
def State.alvOutStop (s : State) : State :=
  { s with pw := { s.pw with alvRun := false, alvOut := false } }.setRoleOut false

/-! ## Sending -/

/-- The module sends no Dovetail frame: it entered LOADER because of an invalid slot identity (R18, R249, R255), or the link is down. -/
def State.dtMute (s : State) : Bool :=
  !s.on F.DT_STAT_LINK_UP || (s.pw.phase == .loader && !s.on F.SLOT_STAT_VALID)

/-- Bytes a frame takes with header and CRC: the payload is a multiple of 4 (Table 9-3). (DEDUCED: log entry 48) -/
def dtLen (payload : Nat) : Nat := 20 + (payload + 3) / 4 * 4

/-- Oldest frames leave the replay buffer when it would exceed 256 KiB (R256). -/
def trimReplay : Nat → List DtFrame → List DtFrame
  | 0, l => l
  | n + 1, l => if 262144 < (l.map (·.len)).foldl (· + ·) 0 then trimReplay n l.tail else l

/-- The fields of a frame's header behind TYPE (Table 9-3): FLAGS, LEN, SEQ, EPOCH, ACK. Bulk class: resynchronisation, images and Mortise
records (R264). (DEDUCED: log entry 48) -/
def State.dtHead (s : State) (k : TxKind) (replay : Bool) (len seq : Nat) : List Nat :=
  [bitNat replay + 2 * bitNat (k == .bulk || k == .mrec), len, seq, s.epoch, s.pair.rxSeq]

/-- Sends a frame that is replayed if lost, with the next SEQ (R254, R256). -/
def State.dtSend (s : State) (k : TxKind) (payload : Nat) (d : List Nat) : State :=
  if s.dtMute then s else
  let q := s.pair.txSeq + 1
  { s with pair := { s.pair with txSeq := q, replay := trimReplay (s.pair.replay.length + 1) (s.pair.replay ++ [DtFrame.mk q (dtLen payload) k d]) } }.emit
    .dovetail k (s.dtHead k false (dtLen payload - 20) q ++ d)

/-- Sends HB or NAK, whose SEQ is 0 and which are not replayed (Table 9-3, R256). -/
def State.dtSendPlain (s : State) (k : TxKind) (payload : Nat) (d : List Nat) : State :=
  if s.dtMute then s else s.emit .dovetail k (s.dtHead k false payload 0 ++ d)

/-- The partner's role by its heartbeats, 0xF when it is not present. -/
def State.partnerRole (s : State) : Nat := s.rd F.PAIR_STAT_PARTNER_ROLE

/-- The partner shadows: it is STANDBY-SYNC, or STANDBY-UNSYNC in TRACK or on trial (R257). -/
def State.partnerShadows (s : State) : Bool :=
  s.partnerRole == roleSync || (s.partnerRole == roleUnsync && ((s.pair.partner.map (·.phase)).getD 0 == 6 || s.pair.partnerTrial))

/-- Forwards a frame of R257: counted whether or not a standby is present (R263); sent from MARK on, from which the partner shadows,
until forwarding stops. (DEDUCED: log entry 48) -/
def State.forward (s : State) (k : TxKind) (payload : Nat) (d : List Nat) : State :=
  if !s.isActive then s else
  let s1 := { s with pair := { s.pair with fwdTick := s.pair.fwdTick + dtLen payload } }
  if s.role == roleActive && !s.pair.fwdStopped then s1.dtSend k payload d else s1

/-- Forwards a write into program data from outside the program (R257): kind 0 before a task cycle's latch, 1 after a release. What exceeds
one frame goes on in the next (R254). -/
def State.forwardExt (s : State) (cells : List (Loc × Byte)) (p : ExtPoint) : State :=
  let (k, t, c) := match p with | .beforeLatch t c => (0, t, c) | .afterRelease t c => (1, t, c)
  (chunks 4080 cells.length cells).foldl (fun (s : State) (l : List (Loc × Byte)) =>
    s.forward .extwrite (16 + l.length) (k :: t :: c :: l.flatMap (fun x => [x.1.area, x.1.sel, x.1.off, x.2.toNat]))) s

/-- This module runs the standby's shadow execution: STANDBY-SYNC, or STANDBY-UNSYNC in TRACK or on trial (R258, R281). -/
def State.shadowing (s : State) : Bool :=
  s.role == roleSync || (s.role == roleUnsync && (5 ≤ s.rd F.RESYNC_STAT_PHASE || s.on F.OC_STAT_TRIAL || s.oc.toTrial) && s.pair.marked0)

/-- The standby drops synchronisation with a cause of Table 9-5 (R262). -/
def State.syncDrop (s : State) (cause : Nat) : State :=
  if !s.shadowing || (s.role == roleUnsync && s.rd F.RESYNC_STAT_PHASE == 5) then s else
  let s1 := (s.setRole roleUnsync).wr F.SYNC_INFO_CAUSE cause
  let s2 := s1.inc F.SYNC_INFO_LOSSES
  let s3 := if cause = 1 then s2.flag F.PAIR_EVT_BUDGET true else if cause = 2 then s2.flag F.PAIR_EVT_HASH true
            else if cause = 3 then s2.flag F.PAIR_EVT_LINK true else s2
  let s4 := (s3.raise 26 0 cause 0).dtSend .syncDropped 4 [cause]
  let track := s.rd F.RESYNC_STAT_PHASE = 6
  let s5 : State := { s4 with pair := { s4.pair with marked0 := false, releases := [], inputs := [], preempts := [], extwrites := [],
                                                     theirs := [], ours := [], retryWait := s4.pair.retryWait || track,
                                                     budgetDrop := cause == 1 } }
  if track then ((s5.wr F.RESYNC_STAT_PHASE 0).inc F.RESYNC_STAT_FAILS).raise 31 0 6 0 else s5

/-- The active stops forwarding; FS27 if its standby was STANDBY-SYNC (R262, R284). -/
def State.stopForward (s : State) : State :=
  let s1 := { s with pair := { s.pair with fwdStopped := true, marking := false, marked := [], cutover := false } }
  if s.partnerRole == roleSync && !s.pair.fwdStopped then s1.raise 27 0 0 0 else s1

end Sys2Proof.Machine
end

