-- ==== Sys2Proof/Machine/Scheduler.lean ====
section
/-! DEFINITION. The scheduler's own operations: the program's declarations, releasing, triggering, disabling and aborting a task
(spec/05). -/

namespace Sys2Proof.Machine

/-! ## Declarations and settings -/

/-- The declaration of a task in the running program. -/
def State.decl (s : State) (t : Nat) : Option TaskDecl :=
  match s.prog with | some p => p.tasks.find? (·.id == t) | none => none

/-- The running program declares the task (R139). -/
def State.declared (s : State) (t : Nat) : Bool := (s.decl t).isSome

/-- Code length of the running version. -/
def State.codeLen (s : State) : Nat := match s.prog with | some p => p.code.length | none => 0

/-- Cyclic tasks are 0–31, event tasks 32–95, start tasks 96 and 97 (Table 5-1). -/
def isCyclic (t : Nat) : Bool := decide (t < 32)
def isEvent (t : Nat) : Bool := decide (32 ≤ t) && decide (t < 96)
def isStart (t : Nat) : Bool := t == 96 || t == 97

/-- Run-time data of a task. -/
def State.rt (s : State) (t : Nat) : TaskRt := tget {} s.sch.tasks t
def State.setRt (s : State) (t : Nat) (r : TaskRt) : State := { s with sch := { s.sch with tasks := tput t r s.sch.tasks } }

/-- The task is enabled (Table 5-9). -/
def State.enabled (s : State) (t : Nat) : Bool := decide (t < 96) && s.on (F.TCFG_EN t)

/-- Period of a cyclic task in ticks (R141). -/
def State.period (s : State) (t : Nat) : Nat := s.rd (F.TPER_N t)

/-- SRC and ARG of an event task (Table 5-3). TTRIG lies where TPER lies for a cyclic task. -/
def fTrigSrc (t : Nat) : Fld := ⟨0x0241 + 4 * t, 31, 28⟩
def fTrigArg (t : Nat) : Fld := ⟨0x0241 + 4 * t, 27, 0⟩

/-- Watchdog limit [µs] that a release latches (R146). -/
def State.watchdog (s : State) (t : Nat) : Nat :=
  if 96 ≤ t then 1000000 else
  if s.rd (F.TWDOG t) ≠ 0 then s.rd (F.TWDOG t) else if isCyclic t then 50 * s.period t else 100000

/-- Execution mode of a task (spec/06 R187): DUAL for the start tasks. -/
def State.xmode (s : State) (t : Nat) : Nat := if isStart t then 2 else s.rd (F.XMODE_MODE t)

/-- IDLE and TASK of SCH_STAT (Table 5-12). -/
def State.showIdle (s : State) : State :=
  let busy := s.sch.tasks.any (fun e => e.2.st != .idle || e.2.again)
  (s.flag F.SCH_STAT_IDLE (!busy)).wr F.SCH_STAT_TASK ((s.sch.running.getD (s.rd F.SCH_STAT_TASK)))

/-- PENDING and RUNNING of TSTAT follow the task's standing (Table 5-11). -/
def State.showTask (s : State) (t : Nat) : State :=
  let r := s.rt t
  ((s.flag (F.TSTAT_PENDING t) (r.st == .ready || r.again)).flag (F.TSTAT_RUNNING t) (r.st == .cycle)).showIdle

/-- Every task becomes idle, with its standing shown: what a cycle, a release or a trigger has left is gone. -/
def State.idleTasks (s : State) : State :=
  let s1 : State := { s with sch := { s.sch with
    running := none, held := [], due := []
    tasks := s.sch.tasks.map fun (e : Nat × TaskRt) =>
      (e.1, { e.2 with st := .idle, again := false, calls := [], preempted := false, waitEpoch := none, ending := false, armed := none, trap := false }) } }
  s.sch.tasks.foldl (fun (s : State) (e : Nat × TaskRt) => (s.flag (F.TSTAT_ARMED e.1) false).showTask e.1) s1.showIdle

/-- Length of a declared data block (R73); none if undeclared. -/
def State.blockLen (s : State) (n : Nat) : Option Nat :=
  match s.prog with | some p => (p.blocks.find? (·.1 == n)).map (·.2) | none => none

/-- Declared local size of a task (spec/03 R71). -/
def State.localLen (s : State) (t : Nat) : Nat := ((s.decl t).map (·.locals)).getD 0

/-- Size of an area as the operand rules see it (spec/03 R70, R73); none for an undeclared block. -/
def State.areaLen (s : State) (area sel : Nat) : Option Nat :=
  if area = 3 then (if sel = 0 then none else s.blockLen sel) else if area = 4 then some (s.localLen sel) else some 65536

/-! ## What MRAM keeps of program data (spec/02 R60–R62) -/

/-- Location of an identity-table entry's object (spec/04 Table 4-14). -/
def IdEntry.loc (e : IdEntry) : Loc :=
  if e.area = 5 || e.area = 6 then ⟨e.area, 0, 32 * e.off⟩ else ⟨e.area, e.block, e.off⟩

/-- Bytes of the object: a bit lies in one byte. -/
def IdEntry.bytes (e : IdEntry) : Nat := if e.size = 0 then 1 else e.size

/-- The keys of the retentive ranges, without the bank. -/
def Image.retained (p : Image) : List (Nat × Nat) :=
  (p.ids.filter (·.retain)).map (fun e => (cellKey 0 e.loc, cellKey 0 e.loc + e.bytes))

/-- The cells of a bank, with keys as in bank 0. -/
def bankCells (bank : Nat) (m : List Host.Cell) : List Host.Cell :=
  (m.filter (fun c => c.1 / 2 ^ 44 == bank)).map (fun c => (c.1 % 2 ^ 44, c.2))

/-- The module is in HOT mode (spec/02 R61). -/
def State.hotMode (s : State) : Bool := s.rd F.RESTART_CFG_AFTER_POWER == 3

/-- MRAM after writes to program data: the retentive ranges, and in HOT mode the full copy once it is in step (spec/02 R60, R61;
spec/07 R212). -/
def State.mramKeep (s : State) : State :=
  match s.prog with
  | none => s
  | some p =>
    let cells := bankCells s.bank s.mem
    let ranges := p.retained
    let kept := cells.filter (fun c => ranges.any (fun r => decide (r.1 ≤ c.1) && decide (c.1 < r.2)))
    { s with mram := { s.mram with
        retain := if s.mram.rewriting then s.mram.retain else kept
        copy := if s.hotMode && s.on F.OC_STAT_MRAM_SYNC then cells else s.mram.copy } }

/-- MRAM once a program runs: its data areas are this program's, and its retentive ranges are kept from now on (spec/02 R60). -/
def State.mramRuns (s : State) : State :=
  let own := s.prog.map Image.lineage
  if s.mram.ran && s.mram.dataOwner == own then s
  else { s with mram := { s.mram with
    ran := true, dataOwner := own, retainFor := own, retainOk := s.mram.retainOk || !s.mram.rewriting } }.mramKeep

/-- Writes into program data from outside the program: applied, kept in MRAM and forwarded with their point (spec/09 R257). -/
def State.extWrite (s : State) (l : Loc) (bs : List Byte) (p : ExtPoint) : State :=
  ((s.setBytes l bs).mramKeep).forwardExt ((List.range bs.length).map (fun i => (⟨l.area, l.sel, l.off + i⟩, nth 0 bs i))) p

/-- The point of writes applied now, outside an input update point (R257). -/
def State.pointNow (s : State) : ExtPoint := .afterRelease s.sch.lastRel.1 s.sch.lastRel.2

/-- No task is in its cycle. -/
def State.noCycle (s : State) : Bool := !s.sch.tasks.any (fun e => e.2.st == .cycle)

/-! ## Release and trigger -/

/-- The scheduler may release tasks: it is cycling, the LP is not halted or stopped, no switch holds releases and no LOAD_STOP
has stopped them (R140, R163; spec/06 R192; spec/07 R199; spec/17 R488). -/
def State.mayRelease (s : State) : Bool :=
  s.rd F.SCH_STAT_STATE == 2 && !s.lp.halted && !s.lp.stopped && s.rd F.OC_STAT_PHASE != 5 && !s.upd.stopping

/-- The instant at which the current tick began (R141). -/
def State.tickNs (s : State) : Nat := ((((50 * s.tick : Nat) : Int) - s.sch.ttOff).toNat * 1000)

/-- The task is a fastest task (R149). -/
def State.fastest (s : State) (t : Nat) : Bool :=
  isCyclic t && s.enabled t && (List.range 32).all (fun u => !s.enabled u || decide (s.period t ≤ s.period u))

/-- The task becomes ready: release instant (of a grid release the tick's) and order, and the settings of this cycle latched (R142, R166). Causes of RELEASE: 0 grid,
1 trigger source, 2 TRIG, 3 timer, 4 collector. (DEDUCED: log entry 40) -/
def State.release (s : State) (t cause : Nat) (trap : Bool) : State :=
  let r := s.rt t
  let r1 : TaskRt := { r with
    st := .ready, relNs := if isCyclic t && cause = 0 then min s.ns s.tickNs else s.ns, relOrd := s.sch.ord
    budgetNs := if s.fastest t then some (20000 * s.period t) else none, prio := if t < 96 then s.rd (F.TCFG_PRIO t) else 0,
    fact := if t < 96 then s.rd (F.TCFG_FAULT_ACT t) else 0, wdUs := s.watchdog t, wdHeld := 0, mode := s.xmode t, trap := trap, preempted := false }
  let s0 := if trap then s.flag F.FC_STAT_TRAP true else s
  let s1 := ({ s0 with sch := { s0.sch with ord := s0.sch.ord + 1, lastRel := (t, r.cyc + 1) } }.setRt t r1).showTask t
  s1.forward .release 12 [t, r.cyc + 1, cause]

/-- What a trigger did (R153, R440). -/
inductive Trig where
  | released | merged | again | dropped | held
  deriving DecidableEq, Repr

/-- A handling of class 4 waits for a cycle of the task (spec/15 R441, R445). -/
def State.trapHeld (s : State) (t : Nat) : Bool := s.fc.stack.any (fun h => h.task == t && h.cls == 4 && !h.ended)

/-- A trigger reaches an event task (R152, R153). `force` releases it whatever its EN (spec/15 R441). Before the first grid point, during a
switch and while the LP is halted it is held. EVT_DROP counts every trigger that is dropped, be it for EN = 0 or because the scheduler may
not release. (DEDUCED, DESIGN CHOICE: log entries 49, 77) -/
def State.trigger (s : State) (t cause : Nat) (force trap : Bool) : Trig × State :=
  if !s.declared t || (!force && !s.enabled t) then (.dropped, s.inc F.EVT_DROP)
  else if s.rd F.SCH_STAT_STATE = 1 || s.rd F.OC_STAT_PHASE = 5 || (s.rd F.SCH_STAT_STATE = 2 && s.lp.halted) then
    (.held, if s.sch.held.contains t then s else { s with sch := { s.sch with held := s.sch.held ++ [t] } })
  else if !s.mayRelease then (.dropped, s.inc F.EVT_DROP)
  else if !force && (s.rt t).trigNs == some s.ns then (.merged, s)
  else
    let s0 := s.setRt t { s.rt t with trigNs := some s.ns }
    match (s.rt t).st with
    | .idle => (.released, s0.release t cause trap)
    | .ready =>
      let s1 := if trap then (s0.setRt t { s0.rt t with trap := true }).flag F.FC_STAT_TRAP true else s0
      (.merged, s1.inc (F.TSTAT_OVR_CNT t))
    | .cycle =>
      if (s.rt t).again then (.merged, s0.inc (F.TSTAT_OVR_CNT t))
      else (.again, (s0.setRt t { s0.rt t with again := true, againCause := cause }).showTask t)

/-- An event of a source selects a task whose TTRIG names it (Table 5-3). `a` names the event in the form of ARG: the channel with [4] for a rising
and [5] for a falling edge; the loop; the buffer with [8] the channel; the station. -/
def trigMatches (src arg a : Nat) : Bool :=
  if src = 1 then arg % 16 == a % 16 && ((arg.testBit 4 && a.testBit 4) || (arg.testBit 5 && a.testBit 5))
  else if src = 2 then arg == 0xFFF || arg == a
  else if src = 3 then arg.testBit 8 == a.testBit 8 && (arg.testBit 6 || arg % 64 == a % 64)
  else if src = 4 then arg == 0xFF || arg == a
  else src == 5

/-- An event of a trigger source reaches every event task that selects it (R152). A standby uses none of its own (spec/09 R258). (DEDUCED: log entry 40) -/
def State.sourceEvent (s : State) (src a : Nat) : State :=
  if !s.isActive then s
  else ((List.range 64).map (· + 32)).foldl (fun (s : State) t =>
    if s.rd (fTrigSrc t) == src && trigMatches src (s.rd (fTrigArg t)) a then (s.trigger t 1 false false).2 else s) s

/-- EN is cleared: no further release, any pending release dropped, the timer disarmed (R154, R166). A cycle in progress goes on, and a
release by the collector's NMT stands, which takes no account of EN (spec/15 R441). (DEDUCED: log entry 41) -/
def State.dropPending (s : State) (t : Nat) : State :=
  let r := s.rt t
  let keep := s.trapHeld t
  let s1 := (s.setRt t { r with st := if r.st = .ready && !keep then .idle else r.st, again := r.again && keep, armed := none }).flag (F.TSTAT_ARMED t) false
  let hs := s1.fc.stack.map fun (h : Handling) =>
    if h.task = t && h.cls = 1 && r.st != TaskSt.cycle && !keep then { h with await := 0, ended := true }
    else if h.task = t && h.cls = 1 && r.again && !keep then { h with await := 1 } else h
  { s1 with
    sch := { s1.sch with held := s1.sch.held.filter (fun u => u != t || keep), due := s1.sch.due.filter (· != t) }
    fc := { s1.fc with stack := hs } }.showTask t

/-- EN cleared by the module itself, the settings image with it (R148; spec/02 R63). -/
def State.disable (s : State) (t : Nat) : State := (s.wrSet (F.TCFG_EN t) 0).dropPending t

/-! ## Choosing a task (R143) -/

/-- A ranks before B: trap task first, then the higher priority, then the earlier release, then the lower identifier. -/
def ranksBefore (a b : Nat × TaskRt) : Bool :=
  if a.2.trap != b.2.trap then a.2.trap
  else if a.2.prio != b.2.prio then decide (b.2.prio < a.2.prio)
  else if a.2.relNs != b.2.relNs then decide (a.2.relNs < b.2.relNs)
  else decide (a.1 < b.1)

/-- The first of a list by R143. -/
def bestOf : List (Nat × TaskRt) → Option (Nat × TaskRt)
  | [] => none
  | e :: t => match bestOf t with
    | none => some e
    | some b => if ranksBefore b e then some b else some e

/-- The ready task the LP would start next (R143). -/
def State.bestReady (s : State) : Option (Nat × TaskRt) := bestOf (s.sch.tasks.filter (·.2.st == .ready))

/-- The preempted task that would resume next. -/
def State.bestPreempted (s : State) : Option (Nat × TaskRt) := bestOf (s.sch.tasks.filter (fun e => e.2.st == .cycle && e.2.preempted))

/-- A preempted task resumes if the LP is free and no ready task ranks before it (R143, R144). -/
def State.resumeTask (s : State) : State :=
  match s.bestPreempted with
  | none => s
  | some p =>
    if s.sch.running.isSome then s
    else if s.bestReady.any (fun r => ranksBefore r p) then s
    else
      (({ s with ns := s.ns + 40, sch := { s.sch with running := some p.1 } }).setRt p.1 { p.2 with preempted := false }).showTask p.1

/-! ## End of a cycle -/

/-- The output hash of a cycle end (spec/09 R260). -/
def outputHash (t cyc endKind : Nat) (bytes : List Byte) : BitVec 64 :=
  crc64 (leBytes 1 t ++ leBytes 8 cyc ++ leBytes 1 endKind ++ bytes)

/-- A fault, an overrun, a budget excess or a differing hash fails a trial on this module (spec/07 Table 7-5, step 3a). (DEDUCED: log entry 44) -/
def State.trialBad (s : State) : State := if s.on F.OC_STAT_TRIAL then { s with oc := { s.oc with failed := true } } else s

/-- Synchronisation is judged on hashes that are both present (spec/09 R260, R280); a trial counts them (spec/07 Table 7-5). -/
def State.hashJudge (s : State) (o : HashRec) : State :=
  match s.pair.theirs.find? (fun h => h.task == o.task && h.cycle == o.cycle) with
  | none => { s with pair := { s.pair with ours := s.pair.ours ++ [o] } }
  | some h =>
    let s1 := { s with pair := { s.pair with theirs := s.pair.theirs.filter (fun x => !(x.task == o.task && x.cycle == o.cycle)) } }
    if h.hash = o.hash then
      let s2 := s1.inc F.HASH_SAME
      { (if s.on F.OC_STAT_TRIAL then s2.inc F.OC_TRIAL_SAME else s2) with
        pair := { s1.pair with
          agreeCnt := s1.pair.agreeCnt + 1
          agreed := if s1.pair.agreed.contains o.task then s1.pair.agreed else s1.pair.agreed ++ [o.task] } }
    else
      let s2 := s1.inc F.HASH_DIFF
      if !s.on F.OC_STAT_TRIAL then s2.syncDrop 2
      else
        let s3 := s2.inc F.OC_TRIAL_DIFF
        if s.on F.OC_CFG_EXPECT_DIFF then s3 else s3.trialBad

/-- Each module forms the hash; the active forwards it, a shadowing standby compares it (spec/09 R257, R260). -/
def State.hashOut (s : State) (t endKind : Nat) (bytes : List Byte) : State :=
  let c := (s.rt t).cyc
  let h := outputHash t c endKind bytes
  let s1 := s.forward .hash 24 [t, c, endKind, h.toNat]
  if s.shadowing then s1.hashJudge ⟨t, c, endKind, h⟩ else s1

/-- A cycle end counts for the handlings that wait for it, and clears TRAP for a trap task (spec/15 R440, Table 15-4). -/
def State.handlingCycleEnd (s : State) (t : Nat) : State :=
  let s1 := if (s.rt t).trap then s.flag F.FC_STAT_TRAP false else s
  { s1 with fc := { s1.fc with stack := s1.fc.stack.map fun (h : Handling) =>
      if h.task = t && (h.cls = 1 || h.cls = 4) && !h.ended then { h with await := h.await - 1, ended := decide (h.await ≤ 1) } else h } }

/-- Statistics of a completed cycle (Table 5-7). -/
def State.cycleStats (s : State) (t : Nat) : State :=
  let r := s.rt t
  let resp := s.ns - r.relNs
  s.setRt t { r with lastNs := resp, maxNs := max r.maxNs resp, lastLp := r.lpNs, cycles := r.cycles + 1 }

/-- The budget of a fastest task's cycle (R150). -/
def State.budget (s : State) (t : Nat) : State :=
  match (s.rt t).budgetNs with
  | none => s
  | some b =>
    let n := (s.rt t).lpNs
    let s1 := s.peak F.BUDGET_STAT_FAST_MAX_NS n
    if n ≤ b then s1 else (((s1.flag (F.TSTAT_BUDGET t) true).flag F.BUDGET_STAT_EXC true).raise 18 t n 0).trialBad

/-- The cycle is over: the task is idle, or ready again (R153), and the LP, if it ran the task, is free; the cycle's journal entries go
(spec/02 R61). A task made ready again is released now, or, with the LP halted, once it runs again (spec/06 R192). (DESIGN CHOICE: log entry 77) -/
def State.leaveCycle (s : State) (t : Nat) : State :=
  let r := s.rt t
  let s1 := s.setRt t { r with st := .idle, again := false, calls := [], waitEpoch := none, ending := false, preempted := false, jovf := false, trap := false }
  let s2 : State := { s1 with sch := { s1.sch with running := if s1.sch.running = some t then none else s1.sch.running },
                              mram := { s1.mram with journal := s1.mram.journal.filter (·.task != t) } }
  let s3 : State := match s2.lp.win with
    | some w => if w.task = t then { s2 with lp := { s2.lp with win := none, snap := none, stepping := s2.lp.stepping && !s2.lp.halted } } else s2
    | none => s2
  let trap := s3.trapHeld t
  let s4 := if !r.again then s3
    else if s3.lp.halted then { s3 with sch := { s3.sch with held := addNew s3.sch.held [t] } }
    else s3.release t (if trap then 4 else r.againCause) trap
  (s4.showTask t).resumeTask

/-- Fails a start task: STATE 3 and FS19 (R163). In a pair the module becomes STANDBY-UNSYNC (spec/09 R266); a lone module stays SOLO, so
that a program can be loaded (spec/17 R488). (DESIGN CHOICE: log entry 77) -/
def State.startFailed (s : State) (t : Nat) : State :=
  let s1 := ({ s.wr F.SCH_STAT_STATE 3 with sch := { s.sch with held := [], due := [] } }).raise 19 t 0 0
  if s.role = roleActive then (((s1.setRoleOut false).dtSend .syncDropped 4 [7]).setRole roleUnsync) else s1

/-- A cycle is aborted with LAST_CAUSE `cause` and hash byte `code` (R147, R148; spec/06 R183, R184; spec/09 R260): the window goes, there
is no output update point, and FAULT_ACT applies. -/
def State.abortCycle (s : State) (t cause code : Nat) : State :=
  let r := s.rt t
  let s0 := (s.wr (F.TSTAT_LAST_CAUSE t) cause).trialBad
  let s1 := if r.st = .cycle then s0.budget t else s0
  let s2 := (s1.hashOut t 1 (leBytes 1 code)).handlingCycleEnd t
  let s3 := s2.leaveCycle t
  if isStart t then s3.startFailed t
  else if r.fact = 0 then s3
  else (s3.disable t).flag (F.TSTAT_DIS_FAULT t) true

end Sys2Proof.Machine
end

