-- ==== Sys2Proof/Machine/Rings.lean ====
section
/-! DEFINITION. The system rings and the CRC unit (spec/16). -/

namespace Sys2Proof.Machine

/-! ## Ring assignment (R462, Table 16-1) -/

/-- Rings open to RPOST. -/
def ringOpen (r : Nat) : Bool := decide (r ≤ 6)
/-- Posted rings of Table 16-1. -/
def ringPosted (r : Nat) : Bool := decide (r ≤ 6) || (decide (8 ≤ r) && decide (r ≤ 11))
/-- Delivered rings. -/
def ringDelivered (r : Nat) : Bool := decide (16 ≤ r) && decide (r ≤ 18)

/-- KIND of a ring, 0 for none. -/
def ringKind (r : Nat) : Nat :=
  if r ≤ 3 || (8 ≤ r && r ≤ 11) then 1 else if r = 4 then 2 else if r = 5 then 3 else if r = 6 then 4
  else if r = 16 || r = 17 then 0x81 else if r = 18 then 0x82 else 0

/-- The declaration of a delivered ring (R464). -/
def State.ringDecl (s : State) (r : Nat) : Option RingDecl :=
  match s.prog with | some p => p.rings.find? (·.ring == r) | none => none

/-- Depth of a ring in slots, 0 where there is none. -/
def State.ringDepth (s : State) (r : Nat) : Nat :=
  if ringDelivered r then ((s.ringDecl r).map (·.depth)).getD 0
  else if r = 5 then 16 else if r = 6 then 32 else if ringPosted r then 64 else 0

/-- RNG_INFO (Table 16-6). -/
def State.ringInfo (s : State) (r : Nat) : Word :=
  BitVec.ofNat 32 (bitNat (ringOpen r) * 2 ^ 31 + bitNat (ringDelivered r) * 2 ^ 30 + ringKind r * 2 ^ 16 + s.ringDepth r % 2 ^ 16)

def State.ringPi (s : State) (r : Nat) : Nat := s.rd (F.RNG_PI r)
def State.ringCi (s : State) (r : Nat) : Nat := s.rd (F.RNG_CI r)
def State.ringDi (s : State) (r : Nat) : Nat := s.rd (F.RNG_DONE_DI r)

/-- The ring is full: PI − DI of a posted ring, PI − CI of a delivered one (R463, R464). -/
def State.ringFull (s : State) (r : Nat) : Bool :=
  s.ringDepth r != 0 && (s.ringPi r + 65536 - (if ringDelivered r then s.ringCi r else s.ringDi r)) % 65536 == s.ringDepth r

/-- RNG_FULL. -/
def State.ringsFull (s : State) : Word :=
  BitVec.ofNat 32 ((List.range 32).foldl (fun n r => n + bitNat (s.ringFull r) * 2 ^ r) 0)

/-- Posts a descriptor: the slot of PI is written and PI advances (R463). -/
def State.ringPost (s : State) (r : Nat) (d : List Byte) : State :=
  let i := s.ringPi r
  { s with sr := { s.sr with slots := tput (65536 * r + i) d s.sr.slots } }.wr (F.RNG_PI r) (i + 1)

/-! ## Delivered rings (R464) -/

/-- Writes an item into its slot of a delivered ring and advances PI. -/
def State.ringItem (s : State) (p : ExtPoint) (r size : Nat) (item : List Byte) : State :=
  match s.ringDecl r with
  | none => s
  | some d =>
    let l : Loc := ⟨if d.block = 0 then 2 else 3, d.block, d.base + size * (s.ringPi r % d.depth)⟩
    (s.extWrite l item p).bump (F.RNG_PI r)

/-- Items of a delivered ring that wait for their point. -/
def State.itemsWaiting (s : State) (r : Nat) : Nat :=
  (s.sr.jobs.filter (fun (j : Job) => match j with | .item k _ _ => k == r | _ => false)).length

/-- A write of CI to a delivered ring (R464): refused outside the range from the old CI to PI. -/
def State.writeCi (s : State) (r : Nat) (mask v : Word) : State :=
  if !ringDelivered r then s
  else
    let new := F.RNG_CI r |>.get (accessWrite (W.RNG_CI r) (s.word (W.RNG_CI r)) mask v)
    let ci := s.ringCi r
    if (new + 65536 - ci) % 65536 ≤ (s.ringPi r + 65536 - ci) % 65536 then s.wr (F.RNG_CI r) new
    else s.flag F.RNG_STAT_CFG_ERR true

/-! ## Descriptors (R466–R469) -/

/-- A number in a descriptor. -/
def dNat (d : List Byte) (off n : Nat) : Nat := leNat ((d.drop off).take n)

/-- The location an address field names (R466): block 0 is area M. -/
def dLoc (a : Nat) : Loc := if a / 65536 = 0 then ⟨2, 0, a % 65536⟩ else ⟨3, a / 65536, a % 65536⟩

/-- Whether `n` bytes at an address lie inside the area or block. -/
def State.dFits (s : State) (a n : Nat) : Bool :=
  let l := dLoc a
  match s.areaLen l.area l.sel with | some m => decide (l.off + n ≤ m) | none => false

/-- Whether every byte of a descriptor outside the listed ranges is 0 (R466). -/
def dZeros (d : List Byte) (used : List (Nat × Nat)) : Bool :=
  (List.range 32).all fun i => used.any (fun u => decide (u.1 ≤ i) && decide (i < u.1 + u.2)) || nth 0 d i == 0

/-- The header's named bytes (Table 16-2). -/
def dHeader : List (Nat × Nat) := [(0, 1), (2, 2), (4, 4)]

/-- Whether a descriptor keeps the format of its ring (R466–R468). -/
def State.dGood (s : State) (r : Nat) (d : List Byte) : Bool :=
  let n := dNat d
  n 0 1 == ringKind r && d.length == 32 &&
  (if ringKind r = 1 then
    dZeros d (dHeader ++ [(8, 2), (10, 1), (12, 4), (16, 2), (20, 4)]) && decide (n 8 2 ≤ 239)
      && decide (1 ≤ n 10 1) && decide (n 10 1 ≤ 3) && decide (n 16 2 ≤ 1024) && s.dFits (n 20 4) (n 16 2)
  else if ringKind r = 2 then
    dZeros d (dHeader ++ [(8, 1), (9, 1), (10, 1), (12, 2), (20, 4), (24, 4)]) && decide (n 8 1 ≤ 7)
      && decide (n 12 2 ≤ 255) && s.dFits (n 20 4) (n 10 1) && s.dFits (n 24 4) (n 12 2)
  else if ringKind r = 3 then
    dZeros d (dHeader ++ [(8, 4), (12, 2), (20, 4)]) && decide (1 ≤ n 12 2) && decide (n 12 2 ≤ 1024)
      && s.dFits (n 20 4) (32 * n 12 2)
  else
    dZeros d (dHeader ++ [(8, 2), (10, 2), (20, 4)]) && (decide (n 8 2 ≤ 63) || n 8 2 == 0xFFFF)
      && decide (1 ≤ n 10 2) && decide (n 10 2 ≤ 1024) && s.dFits (n 20 4) (n 10 2))

/-- The descriptor of a ring that is in execution: taken and not done. -/
def State.taken (s : State) (r : Nat) : Option (List Byte) :=
  if s.ringCi r = s.ringDi r then none else some (tget [] s.sr.slots (65536 * r + s.ringDi r))

/-- A checked read by the ring DMA (R467; spec/15 R431): none if denied. (DEDUCED: log entry 63) -/
def State.dmaRead (s : State) (a n : Nat) : Option (List Byte) × State :=
  if n = 0 then (some [], s) else
  let (ok, s1) := s.access (memAccess 2 0 false (dLoc a) n false)
  (if ok then some (s.bytes (dLoc a) n) else none, s1)

/-! ## Results (R467) -/

/-- The 16 bytes of a result record (Table 16-3). -/
def resultBytes (r : Result) (code len : Nat) : List Byte :=
  leBytes 1 code ++ [0x80#8] ++ leBytes 2 r.tag ++ leBytes 4 len ++ (r.detail ++ List.replicate 8 0#8).take 8

/-- Issues the reply writes of a result: all of them or, with one denied, none. -/
def State.dmaReply (s : State) : List (Loc × List Byte) → Bool × State
  | [] => (true, s)
  | (l, bs) :: t =>
    if bs = [] then s.dmaReply t else
    let (ok, s1) := s.access (memAccess 2 0 true l bs.length false)
    let (ok2, s2) := s1.dmaReply t
    (ok && ok2, s2)

/-- The reply data of a result are written. -/
def State.writeReply (s : State) (p : ExtPoint) (l : List (Loc × List Byte)) : State :=
  l.foldl (fun s (x : Loc × List Byte) => if x.2 = [] then s else s.extWrite x.1 x.2 p) s

/-- Applies a result: reply data and result record together, DI advances, and the ring is free for its next descriptor (R463, R467). -/
def State.applyResult (s : State) (r : Result) (p : ExtPoint) : State :=
  let (ok, s1) := s.dmaReply r.reply
  let s2 := if ok then s1.writeReply p r.reply else s1
  let code := if ok then r.code else 6
  let len := if ok then (r.reply.map (fun x => x.2.length)).foldl (· + ·) 0 else 0
  let (fits, s3) :=
    if s2.dFits r.res 16 && r.res % 8 == 0 then s2.access (memAccess 2 0 true (dLoc r.res) 16 false) else (false, s2)
  let s4 := if fits then s3.extWrite (dLoc r.res) (resultBytes r code len) p else s3.inc F.RNG_STAT_BAD_RES
  let s5 : State := { s4 with sr := { s4.sr with
    slots := tdel (65536 * r.ring + s4.ringDi r.ring) s4.sr.slots
    ended := s4.sr.ended.filter (· != r.ring) } }
  let s6 := s5.wr (F.RNG_DONE_DI r.ring) (s5.ringDi r.ring + 1)
  if ringKind r.ring = 1 then s6.bump F.ACYC_STAT_DONE else s6

/-- One datagram's writes are issued and, if all are allowed, applied together; answered DENIED otherwise (spec/12 R373; spec/15 R431). -/
def State.applyDatagram (s : State) (session seq : Nat) (port2 : Bool) (ws : List (Loc × List Byte)) (p : ExtPoint) : State :=
  let chk := ws.foldl (fun (a : Bool × State) (w : Loc × List Byte) =>
    let (ok, s1) := a.2.access (memAccess 3 session true w.1 w.2.length false)
    (a.1 && ok, s1)) (true, s)
  let link := if port2 then Link.plant2 else Link.plant1
  if chk.1 then (chk.2.writeReply p ws).emit link .reply [session, seq, 1]
  else chk.2.emit link .denied [session, seq]

/-- Applies one job at a point. (DESIGN CHOICE: log entry 80) -/
def State.applyJob (s : State) (p : ExtPoint) : Job → State
  | .datagram n q port ws => s.applyDatagram n q port ws p
  | .result r => s.applyResult r p
  | .bench l bs => s.extWrite l bs p
  | .item r size bs => s.ringItem p r size bs

/-- Applies every waiting job in order of arrival (spec/12 R373; R467). -/
def State.applyJobs (s : State) (p : ExtPoint) : State :=
  s.sr.jobs.foldl (fun s j => s.applyJob p j) { s with sr := { s.sr with jobs := [] } }

/-- Adds a job; it is applied at once while no task is in its cycle. -/
def State.addJob (s : State) (j : Job) : State :=
  let s1 : State := { s with sr := { s.sr with jobs := s.sr.jobs ++ [j] } }
  if s1.noCycle then s1.applyJobs s1.pointNow else s1

/-- Delivers an item into a ring at its point; a ring that is full, with the items that wait, discards it and counts it (R464; spec/09 R257).
Answers whether it was taken. (DESIGN CHOICE: log entry 80) -/
def State.ringDeliver (s : State) (r size : Nat) (item : List Byte) : Bool × State :=
  let depth := s.ringDepth r
  let used := (s.ringPi r + 65536 - s.ringCi r) % 65536 + s.itemsWaiting r
  if (s.ringDecl r).isNone || depth ≤ used then (false, s.inc (F.RNG_DONE_LOST r)) else (true, s.addJob (.item r size item))

/-- Ends the descriptor in execution of a ring with a result. -/
def State.ringEnd (s : State) (r code : Nat) (detail : List Byte) (reply : List (Loc × List Byte)) : State :=
  match s.taken r with
  | none => s
  | some d =>
    { s with sr := { s.sr with ready := s.sr.ready.filter (· != r), ended := addNew s.sr.ended [r] } }.addJob
      (.result ⟨r, dNat d 4 4, dNat d 2 2, code, detail, reply⟩)

/-! ## The CRC unit (R470–R473) -/

/-- Width and polynomial of POLY. -/
def crcWidth (p : Nat) : Nat := if p = 0 then 8 else if p = 1 then 16 else 32
def crcPoly (p : Nat) : Nat := if p = 0 then 0x07 else if p = 1 then 0x1021 else if p = 2 then 0x04C11DB7 else 0x1EDC6F41

/-- One bit of an unreflected CRC of width `w`. -/
def crcStep (w poly v : Nat) : Nat :=
  if v.testBit (w - 1) then (2 * v % 2 ^ w) ^^^ poly else 2 * v % 2 ^ w

/-- `n` bits. -/
def crcSteps (w poly : Nat) : Nat → Nat → Nat
  | 0, v => v
  | n + 1, v => crcSteps w poly n (crcStep w poly v)

/-- A number with its `w` bits in reverse order. -/
def reflect : Nat → Nat → Nat
  | 0, _ => 0
  | w + 1, v => v % 2 * 2 ^ w + reflect w (v / 2)

/-- VAL after one byte under the settings of a context (R470). -/
def crcFeedByte (cfg : Word) (v : Nat) (b : Byte) : Nat :=
  let p := (F.CRC_CFG_POLY 0).get cfg
  let w := crcWidth p
  let x := if (F.CRC_CFG_REFIN 0).get cfg = 1 then reflect 8 b.toNat else b.toNat
  crcSteps w (crcPoly p) 8 ((v % 2 ^ w) ^^^ (x * 2 ^ (w - 8)))

/-- RESULT of a context (R470). -/
def crcResult (cfg : Word) (v : Nat) : Nat :=
  let w := crcWidth ((F.CRC_CFG_POLY 0).get cfg)
  let x := if (F.CRC_CFG_REFOUT 0).get cfg = 1 then reflect w (v % 2 ^ w) else v % 2 ^ w
  if (F.CRC_CFG_INV 0).get cfg = 1 then 2 ^ w - 1 - x else x

/-- Bits of VAL that the context's width has (R470). -/
def crcMask (cfg : Word) (v : Nat) : Nat := v % 2 ^ crcWidth ((F.CRC_CFG_POLY 0).get cfg)

/-- The context a feed belongs to. -/
def Feed.ctx : Feed → Nat
  | .bytes c _ => c
  | .val c _ => c
  | .cfg c _ _ => c

/-- Time of a feed: 1, 2 or 4 datapath cycles of 2 ns (R471); a context write takes none. -/
def Feed.ns : Feed → Nat
  | .bytes _ l => 2 * l.length
  | _ => 0

/-- The datapath takes a feed or a context write (R471). -/
def State.crcTake (s : State) : Feed → State
  | .bytes c l =>
    let cfg := s.word (W.CRC_CFG c)
    s.setWord (W.CRC_VAL c) (BitVec.ofNat 32 (l.foldl (crcFeedByte cfg) (s.word (W.CRC_VAL c)).toNat))
  | .val c v => s.setWord (W.CRC_VAL c) (BitVec.ofNat 32 (crcMask (s.word (W.CRC_CFG c)) v.toNat))
  | .cfg c mask v => s.plainWrite (W.CRC_CFG c) mask v

/-- The datapath takes the next queued feed or context write (R471). -/
def State.crcNext (s : State) : State :=
  match s.sr.feeds with
  | [] => s
  | f :: t => ({ s with sr := { s.sr with feeds := t } }).crcTake f

/-- The same while something waits for it. -/
def State.crcWait (s : State) : State :=
  let t := ((s.sr.feeds.head?).map Feed.ns).getD 0
  let s1 := s.crcNext
  { s1 with ns := s1.ns + t }

/-- The datapath takes queued feeds until none of a context is left, at most `n` of them (R472). -/
def State.crcDrain (c : Nat) : Nat → State → State
  | 0, s => s
  | n + 1, s => if s.sr.feeds.any (·.ctx == c) then State.crcDrain c n s.crcWait else s

/-- A committed feed or context write enters the queue; with the queue full it waits for the oldest (R471). -/
def State.crcPut (s : State) (f : Feed) : State :=
  let s1 := if 256 ≤ s.sr.feeds.length then s.crcWait else s
  { s1 with sr := { s1.sr with feeds := s1.sr.feeds ++ [f] } }

/-- CRC_CFG as it reads: the value last written, over the writes that still wait in the queue (spec/00 R8; R471). -/
def State.crcCfg (s : State) (c : Nat) : Word :=
  s.sr.feeds.foldl (fun (w : Word) (f : Feed) => match f with
    | .cfg k mask v => if k = c then accessWrite (W.CRC_CFG c) w mask v else w
    | _ => w) (s.word (W.CRC_CFG c))

/-- A write to VAL: the bits of the mask over the value that earlier queued work leaves. -/
def State.crcVal (s : State) (c : Nat) (mask v : Word) : State :=
  if mask = 0xFFFFFFFF#32 then s.crcPut (.val c v)
  else
    let s1 := State.crcDrain c s.sr.feeds.length s
    s1.crcPut (.val c ((s1.word (W.CRC_VAL c) &&& ~~~mask) ||| (v &&& mask)))

/-- A read of VAL or RESULT after every feed committed before it (R472). -/
def State.crcRead (s : State) (c : Nat) (result : Bool) : Word × State :=
  let s1 := State.crcDrain c s.sr.feeds.length s
  let cfg := s1.word (W.CRC_CFG c)
  let v := (s1.word (W.CRC_VAL c)).toNat
  (BitVec.ofNat 32 (if result then crcResult cfg v else crcMask cfg v), s1)

end Sys2Proof.Machine
end

