-- ==== Sys2Proof/Machine/Loops.lean ====
section
/-! DEFINITION. The loop engine (spec/08): the law, the schedule, the checks of written fields, the contexts and their swaps. -/

namespace Sys2Proof.Machine

/-! ## Fields (Tables 8-7, 8-8, 8-12) -/

/-- Field `i` of a context. -/
def lf (f : List Word) (i : Nat) : Word := nth 0 f i
/-- Field `i` as a signed raw Q8.24 value. -/
def lq (f : List Word) (i : Nat) : Int := (nth 0 f i).toInt
/-- Bits [hi:lo] of field `i`. -/
def lbits (f : List Word) (i hi lo : Nat) : Nat := (Fld.mk 0 hi lo).get (nth 0 f i)

def lMode (f : List Word) : Nat := lbits f 0 1 0
def lPin (f : List Word) : Bool := lbits f 0 15 15 == 1
def lFault (f : List Word) : Bool := lbits f 70 9 9 == 1

/-- Reset column of Table 8-7; OUT takes MANOUT. -/
def loopReset : List Word :=
  [0x00004010#32, 1, 0, 0xF0000000#32, 0xF0000000#32, 0xF0000000#32, 0xF0000000#32, 0xF0000000#32] ++
  [0, 0, 0, 0, 0, 0, 0x01000000#32, 0] ++
  [0, 0, 0x00004189#32, 0x01000000#32, 0, 0, 0, 0] ++
  [0, 0, 0, 0, 0, 0x7FFFFFFF#32, 0x80000000#32, 0x7FFFFFFF#32] ++
  ([0x01000000#32, 0, 0, 0] ++ [0x01000000#32, 0, 0, 0] ++ [0x01000000#32, 0, 0, 0] ++ [0x01000000#32, 0, 0, 0]) ++
  ([0x01000000#32, 0, 0, 0] ++ [0x01000000#32, 0, 0, 0] ++ [0x01000000#32, 0, 0, 0] ++ [0x01000000#32, 0, 0, 0]) ++
  [0, 0, 0, 0, 0, 0, 0, 0]

/-- The context a loop-table entry declares (R243): state fields 64–70 as R243 states. -/
def LoopDecl.context (d : LoopDecl) : List Word :=
  let f := d.fields.foldl (fun f (x : Nat × Word) => if x.1 < 64 || x.1 = 71 then setNth x.2 f x.1 else f) loopReset
  setNth (lf f 12) f 64

/-- A loop as its declaration sets it up. -/
def LoopDecl.rt (d : LoopDecl) : LoopRt :=
  let f := d.context
  { f := f, pub := f, host := lbits f 1 28 24, div := lbits f 1 17 0, lph := lbits f 2 17 0 }

/-! ## The law (R227–R233, R236) -/

/-- Clamps to 32 bits; whether it clipped. -/
def sat32 (x : Int) : Int × Bool :=
  let y := clampInt (-2147483648) 2147483647 x
  (y, y != x)

/-- The rounded product, clamped (R115, R228). -/
def mulq32 (a b : Int) : Int × Bool := sat32 (roundQ (a * b))

/-- Moves `a` towards `b` by at most `s`. -/
def stepTo (a b s : Int) : Int := if a < b then (if a + s < b then a + s else b) else (if b < a - s then a - s else b)

/-- Region climbs while v ≥ BP[r+1] + HYS (R233). -/
def regionUp (f : List Word) (v : Int) (c : Nat) : Nat → Nat → Nat
  | 0, r => r
  | n + 1, r => if r < c ∧ lq f (22 + r) + lq f 21 ≤ v then regionUp f v c n (r + 1) else r

/-- Region falls while v < BP[r] − HYS (R233). -/
def regionDown (f : List Word) (v : Int) (c : Nat) : Nat → Nat → Nat
  | 0, r => r
  | n + 1, r => if c < r ∧ v < lq f (21 + r) - lq f 21 then regionDown f v c n (r - 1) else r

/-- REGION after the rule of R233. -/
def region (f : List Word) (v : Int) : Nat :=
  let n := lbits f 0 7 4
  let r0 := lbits f 69 2 0
  let r := if n ≤ r0 then n - 1 else r0
  let c := ((List.range (n - 1)).filter (fun j => decide (lq f (22 + j) ≤ v))).length
  if r < c then regionUp f v c 8 r else if c < r then regionDown f v c 8 r else r

/-- An alarm that stood at `was` (R236). -/
def alarm (was set clr : Bool) : Bool := if was then !clr else set

/-- What an evaluation leaves: the new context, from the fields and whether it is a start, and the output it continues from. (DEDUCED: log entry 45) -/
def law (f : List Word) (start : Bool) (out0 : Int) : List Word :=
  let mode := lMode f
  let sgn : Int := if lbits f 0 13 13 = 1 then -1 else 1
  let pv := lq f 9
  let ff := lq f 10
  let v := if lbits f 0 12 10 = 1 then lq f 11 else if lbits f 0 12 10 = 2 then lq f 65 else pv
  let r := region f v
  let moved := r != lbits f 69 2 0
  let kp := lq f (32 + 4 * r)
  let ci := lq f (33 + 4 * r)
  let cd := lq f (34 + 4 * r)
  let ad := lq f (35 + 4 * r)
  let spr := if mode ≠ 2 ∨ start = true then pv else stepTo (lq f 65) (lq f 8) (lq f 18)
  let e := sat32 (sgn * (spr - pv))
  let wp := mulq32 (lq f 19) spr
  let ep := sat32 (sgn * (wp.1 - pv))
  let wd := mulq32 (lq f 20) spr
  let ed := sat32 (sgn * (wd.1 - pv))
  let db := lq f 17
  let edb := if e.1 > db then e.1 - db else if e.1 < -db then e.1 + db else 0
  let p := mulq32 kp ep.1
  let d1 := mulq32 ad (lq f 67)
  let d2 := sat32 (ed.1 - lq f 68)
  let d3 := mulq32 cd d2.1
  let d4 := sat32 (d1.1 + d3.1)
  let d := if start then 0 else d4.1
  let satD := !start && (d1.2 || d2.2 || d3.2 || d4.2)
  let oh := lq f 14
  let ol := lq f 15
  -- AUTO
  let reset := start || (moved && lbits f 0 14 14 == 1)
  let i0 := sat32 ((if start then out0 else lq f 64) - p.1 - d - ff)
  let ist := if reset then i0.1 else lq f 66
  let di := mulq32 ci edb
  let inew := sat32 (ist + di.1)
  let u := sat32 (p.1 + inew.1 + d + ff)
  let vv := clampInt ol oh u.1
  let rl := lq f 16
  let rated := rl > 0 && !start
  let w := if rated then clampInt (lq f 64 - rl) (lq f 64 + rl) vv else vv
  let hold := (w < u.1 && inew.1 > ist) || (w > u.1 && inew.1 < ist)
  let istA := if hold then ist else inew.1
  -- MAN, TRACK
  let outM := clampInt ol oh (if mode = 1 then lq f 12 else lq f 13)
  let iM := sat32 (outM - p.1 - d - ff)
  let auto := mode == 2
  let out := if auto then w else outM
  let istN := if auto then istA else iM.1
  let flags :=
    2 * bitNat (e.2 || wp.2 || ep.2 || wd.2 || ed.2) + 4 * bitNat p.2
      + 8 * bitNat (if auto then (reset && i0.2) || di.2 || inew.2 else iM.2)
      + 16 * bitNat satD + 32 * bitNat (auto && u.2) + 64 * bitNat (auto && decide (oh < u.1)) + 128 * bitNat (auto && decide (u.1 < ol))
      + 256 * bitNat (auto && rated && w != vv)
  -- alarms
  let ramping := auto && spr != lq f 8
  let ahys := lq f 71
  let dev : Int := min 2147483647 (lq f 8 - pv).natAbs
  let hi := alarm (lbits f 69 8 8 == 1) (decide (pv > lq f 29)) (decide (pv < lq f 29 - ahys))
  let lo := alarm (lbits f 69 9 9 == 1) (decide (pv < lq f 30)) (decide (pv > lq f 30 + ahys))
  let dv := alarm (lbits f 69 10 10 == 1) (auto && !ramping && decide (dev > lq f 31)) (decide (dev < lq f 31 - ahys) || !auto || ramping)
  let os := alarm (lbits f 69 11 11 == 1) (auto && (out == oh || out == ol)) ((decide (ol < out) && decide (out < oh)) || !auto)
  let stat := 2048 * bitNat os + 1024 * bitNat dv + 512 * bitNat lo + 256 * bitNat hi + 128 * bitNat ramping + 16 * mode + r
  let g := putNth 72 0 (wordOfInt out) f 64
  let g := setNth (wordOfInt spr) g 65
  let g := setNth (wordOfInt istN) g 66
  let g := setNth (wordOfInt d) g 67
  let g := setNth (wordOfInt ed.1) g 68
  let g := setNth (BitVec.ofNat 32 stat) g 69
  setNth (lf f 70 ||| BitVec.ofNat 32 flags) g 70

/-! ## The engine's table -/

def State.loop (s : State) (n : Nat) : Option LoopRt := tfind s.le.tab n
def State.setLoop (s : State) (n : Nat) (r : LoopRt) : State := { s with le := { s.le with tab := tput n r s.le.tab } }

/-- LE_STAT: declared and pinned loops (Table 8-10). -/
def State.showLoops (s : State) : State :=
  (s.wr F.LE_STAT_DECLARED s.le.tab.length).wr F.LE_STAT_PINNED (s.le.tab.filter (fun (e : Nat × LoopRt) => lPin e.2.f)).length

/-- A bit of SFLAGS that the engine sets outside an evaluation, in the context and its published copy. -/
def LoopRt.mark (r : LoopRt) (bit : Nat) : LoopRt :=
  let m := BitVec.ofNat 32 (2 ^ bit)
  { r with f := setNth (lf r.f 70 ||| m) r.f 70, pub := setNth (lf r.pub 70 ||| m) r.pub 70 }

/-- LE_LAST takes an event (Table 8-13). -/
def State.leLast (s : State) (kind n : Nat) : State := (s.wr F.LE_LAST_KIND kind).wr F.LE_LAST_LOOP n

/-- The loop is evaluated at its due releases (R218, R235). -/
def State.loopRuns (s : State) (r : LoopRt) : Bool := lMode r.f != 0 && s.enabled r.host && !lFault r.f

/-- A late evaluation (R226). -/
def State.loopLate (s : State) (n : Nat) : State :=
  match s.loop n with
  | none => s
  | some r =>
    let s1 := (((s.setLoop n { r.mark 11 with late := satAdd (2 ^ 32 - 1) r.late 1 }).inc F.LE_LATE_TOTAL).leLast 3 n)
    s1.raise 22 n (s1.word W.LE_LAST).toNat 0

/-- Writes refused (R237) or a bound access denied (R239): SFLAGS bit, LE_LAST and FS23. -/
def State.loopRefuse (s : State) (n bit : Nat) : State :=
  match s.loop n with
  | none => s
  | some r =>
    let s1 := (s.setLoop n (r.mark bit)).leLast 4 n
    s1.raise 23 n (s1.word W.LE_LAST).toNat 0

/-! ## Written fields (R224, R237) -/

/-- Bits of a field that its map names; the others are reserved. -/
def loopKnown (i : Nat) : Word :=
  if i = 1 then 0x1F03FFFF#32 else if i = 2 then 0x0003FFFF#32 else if 3 ≤ i && i ≤ 7 then 0xF000FFFF#32 else 0xFFFFFFFF#32

/-- One written field: RW takes the value, SFLAGS clears the bits written 1, a read-only field stays (Table 8-7). -/
def writeField (f : List Word) (i : Nat) (v : Word) : List Word :=
  if i < 64 || i = 71 then setNth (v &&& loopKnown i) f i
  else if i = 70 then setNth (lf f 70 &&& ~~~v) f 70
  else f

/-- A binding field keeps Table 8-5: `out` for OUT_DST. -/
def bindingOk (b : Word) (out : Bool) : Bool :=
  let a := b.toNat / 2 ^ 28
  (a == 15 || (if out then a == 1 || a == 2 else decide (a ≤ 2))) && b.toNat % 4 == 0

/-- Whether the context of loop `n` keeps Table 8-5. -/
def State.loopFits (s : State) (n : Nat) (f : List Word) : Bool :=
  let nreg := lbits f 0 7 4
  allOf [lf f 0 &&& 0xFFFF030C#32 == 0, decide (1 ≤ nreg), decide (nreg ≤ 8), decide (lbits f 0 12 10 ≤ 2),
    !lPin f || decide ((s.le.tab.filter (fun (e : Nat × LoopRt) => lPin e.2.f && e.1 != n)).length < 248),
    isCyclic (lbits f 1 28 24) && s.declared (lbits f 1 28 24),
    decide (1 ≤ lbits f 1 17 0), decide (lbits f 1 17 0 ≤ 200000), decide (lbits f 2 17 0 < lbits f 1 17 0),
    bindingOk (lf f 3) false, bindingOk (lf f 4) false, bindingOk (lf f 5) false, bindingOk (lf f 6) false, bindingOk (lf f 7) true,
    decide (lq f 15 ≤ lq f 14), decide (0 ≤ lq f 16), decide (0 ≤ lq f 17), decide (0 ≤ lq f 21), decide (0 ≤ lq f 31),
    decide (0 ≤ lq f 71), decide (0 < lq f 18),
    (List.range 8).all (fun r => decide (0 ≤ lq f (32 + 4 * r)) && decide (0 ≤ lq f (33 + 4 * r)) && decide (0 ≤ lq f (34 + 4 * r))
      && decide (0 ≤ lq f (35 + 4 * r)) && decide (lq f (35 + 4 * r) < 0x01000000)),
    decide (0 ≤ lq f 19), decide (lq f 19 ≤ 0x01000000), decide (0 ≤ lq f 20), decide (lq f 20 ≤ 0x01000000),
    (List.range (nreg - 2)).all (fun j => decide (lq f (22 + j) < lq f (23 + j)))]

/-- Whether a window's writes set a reserved bit of a field that Table 8-5 does not refuse (spec/00 R10). -/
def loopReservedWritten (b : List (Nat × Word)) : Bool :=
  b.any (fun x => x.1 != 70 && x.2 &&& ~~~(loopKnown x.1) != 0)

/-- Applies one window's writes to a loop, or refuses them (R224, R237, R238). (DESIGN CHOICE: log entry 12) -/
def State.applyBatch (s : State) (n : Nat) (b : List (Nat × Word)) : State :=
  match s.loop n with
  | none => s
  | some r =>
    let g := b.foldl (fun f (x : Nat × Word) => writeField f x.1 x.2) r.f
    if s.loopFits n g then
      let r1 : LoopRt := { r with
        f := g
        resched := r.resched || lf g 1 &&& 0x1F03FFFF#32 != lf r.f 1 &&& 0x1F03FFFF#32 || lf g 2 != lf r.f 2
        nonAuto := r.nonAuto || lMode g != 2 || lMode r.f != 2
        faultStart := r.faultStart || (lFault r.f && !lFault g) }
      let s1 := (s.setLoop n r1).showLoops
      let s2 := if loopReservedWritten b then { s1.drawn with openState := Config.reservedEffect s1.freeCtr } else s1
      let saved := tget g s2.mram.loops n
      { s2 with mram := { s2.mram with loops := tput n (g.take 64 ++ saved.drop 64) s2.mram.loops } }
    else s.loopRefuse n 10

/-- Applies every window's waiting writes, each window on its own. (DEDUCED: log entry 46) -/
def State.applyBatches (s : State) (n : Nat) : State :=
  match s.loop n with
  | none => s
  | some r => r.batches.foldl (fun s b => s.applyBatch n b) (s.setLoop n { r with batches := [] })

/-- The published copy takes the context as it stands. (DEDUCED: log entry 45) -/
def State.publish (s : State) (n : Nat) : State :=
  match s.loop n with | none => s | some r => s.setLoop n { r with pub := r.f }

/-- An evaluation of the loop is requested or in progress. -/
def State.loopAsked (s : State) (n : Nat) : Bool := s.le.queue.any (·.loop == n) || s.le.cur.any (·.req.loop == n)

/-- The LPWR writes of a committed window to one loop (R223, R224, R242). (DEDUCED: log entry 46) -/
def State.loopWrites (s : State) (n : Nat) (b : List (Nat × Word)) : State :=
  match s.loop n with
  | none => s
  | some r =>
    let s1 := s.setLoop n { r with batches := r.batches ++ [b] }
    if s.loopRuns r || s.loopAsked n || r.staged.isSome then s1 else (s1.applyBatches n).publish n

/-- Value of a field as LPRD gives it (R223): the published copy, or the statistics; RESIDENT as it stands. -/
def State.loopField (s : State) (n i : Nat) : Option Word :=
  match s.loop n with
  | none => none
  | some r =>
    if i = 69 then some (lf r.pub 69 ||| BitVec.ofNat 32 (64 * bitNat (s.le.resident.contains n)))
    else if i < 72 then some (lf r.pub i)
    else if i = 80 then some (BitVec.ofNat 32 r.evals)
    else if i = 81 then some (BitVec.ofNat 32 r.swaps)
    else if i = 82 then some (BitVec.ofNat 32 r.latNs)
    else if i = 83 then some (BitVec.ofNat 32 r.latMax)
    else if i = 84 then some (BitVec.ofNat 32 r.mm)
    else if i = 85 then some (BitVec.ofNat 32 r.late)
    else if i = 86 then some (BitVec.ofNat 32 r.resp)
    else none

/-! ## Schedule (R217–R219) -/

/-- A release of task `t` by its grid reaches a loop (R217, R238): a changed schedule applies, and the release is numbered. Answers whether
the loop is due at it. (DEDUCED: log entry 45) -/
def LoopRt.release (r : LoopRt) (t : Nat) : LoopRt × Bool :=
  let h := lbits r.f 1 28 24
  if r.resched && h == t then
    let d := lbits r.f 1 17 0
    let p := lbits r.f 2 17 0
    ({ r with host := h, div := d, lph := p, resched := false, j := 1 }, p == 0)
  else if r.host = t then ({ r with j := r.j + 1 }, r.j % r.div == r.lph)
  else (r, false)

/-- A release of a host by its grid (R217, R226): `made` if the host took it: the loop's request is to come at the host's input update point,
with one that an earlier release still has to make; if it was dropped, a due loop is late. A disabled host only numbers it. (DEDUCED: log entry 45) -/
def State.loopGrid (s : State) (t : Nat) (made : Bool) : State :=
  let hit := (s.le.tab.filter (fun (e : Nat × LoopRt) => (e.2.release t).2)).map (·.1)
  let next := fun (e : Nat × LoopRt) => let x := e.2.release t; (e.1, { x.1 with due := x.1.due || (made && x.2) })
  let s0 := s.setRt t { s.rt t with grid := (s.rt t).grid + 1 }
  let s1 : State := { s0 with le := { s0.le with tab := s0.le.tab.map next } }
  if made then s1 else hit.foldl (fun s n => if (s.loop n).any (fun r => s.loopRuns r) then s.loopLate n else s) s1

/-- Reads a bound source (R219, R239): none for an unbound input; whether the read was denied. -/
def State.loopSource (s : State) (n : Nat) (b : Word) : Option Word × Bool × State :=
  if b.toNat / 2 ^ 28 = 15 then (none, false, s)
  else
    let l : Loc := ⟨b.toNat / 2 ^ 28, 0, b.toNat % 65536⟩
    let (ok, s1) := s.access (memAccess 1 n false l 4 false)
    if ok then (some (BitVec.ofNat 32 (leNat (s.bytes l 4))), false, s1) else (none, true, s1)

/-- Requests one loop at its host's input update point (R219, R226). -/
def State.loopRequest (s : State) (n : Nat) : State :=
  match s.loop n with
  | none => s
  | some r =>
    let s0 := s.setLoop n { r with due := false }
    if !s.loopRuns r then s0
    else
      let (pv, e1, s1) := s0.loopSource n (lf r.f 3)
      let (sp, e2, s2) := s1.loopSource n (lf r.f 4)
      let (ff, e3, s3) := s2.loopSource n (lf r.f 5)
      let (sv, e4, s4) := s3.loopSource n (lf r.f 6)
      let q : LoopReq := ⟨n, r.host, s.ns, [pv, sp, ff, sv], e1 || e2 || e3 || e4⟩
      if s4.le.queue.any (·.loop == n) then
        { s4 with le := { s4.le with queue := s4.le.queue.map (fun (x : LoopReq) => if x.loop = n then q else x) } }.loopLate n
      else if s4.le.cur.any (·.req.loop == n) then
        { s4 with le := { s4.le with cur := none, queue := q :: s4.le.queue } }.loopLate n
      else { s4 with le := { s4.le with queue := s4.le.queue ++ [q] } }

/-- Requests every due loop of a host, in ascending loop number (R219). -/
def State.loopRequests (s : State) (t : Nat) : State :=
  ((s.le.tab.filter (fun (e : Nat × LoopRt) => e.2.host == t && e.2.due)).map (·.1)).foldl (fun s n => s.loopRequest n) s

/-! ## Contexts (R240, R241) -/

/-- Ticks to a loop's next due release; none with MODE OFF or a disabled host (R240). -/
def State.nextDue (s : State) (r : LoopRt) : Option Nat :=
  if lMode r.f = 0 || !s.enabled r.host then none
  else
    let n := s.period r.host
    let k := s.tick
    let p := s.rd (F.TCFG_PHASE r.host)
    some (n - (k + n * (p + 1) - p) % n + (r.lph + r.div - r.j % r.div) % r.div * n)

/-- `a` is given up rather than `b`: the further due release, then the higher number. -/
def giveUp (a b : Nat × Option Nat) : Bool :=
  match a.2, b.2 with
  | none, none => decide (b.1 < a.1)
  | none, some _ => true
  | some _, none => false
  | some x, some y => if x = y then decide (b.1 < a.1) else decide (y < x)

/-- The loop whose context is given up (R240). -/
def State.victim (s : State) : Option Nat :=
  let cand := s.le.resident.filter (fun n => !(s.loop n).any (fun r => lPin r.f) && !s.le.queue.any (·.loop == n))
  (cand.foldl (fun (b : Option (Nat × Option Nat)) n =>
    let x := (n, (s.loop n).bind (fun r => s.nextDue r))
    match b with | none => some x | some y => if giveUp x y then some x else some y) none).map (·.1)

/-- Swaps a loop in if it holds no context; answers whether a swap was made (R240, R241). -/
def State.swapIn (s : State) (n : Nat) : Bool × State :=
  if s.le.resident.contains n then (false, s)
  else match s.loop n with
    | none => (false, s)
    | some r =>
      let keep := if s.le.resident.length < 256 then s.le.resident
        else match s.victim with | some v => s.le.resident.filter (· != v) | none => s.le.resident
      let s1 := s.setLoop n { r with swaps := satAdd (2 ^ 32 - 1) r.swaps 1 }
      (true, { s1 with le := { s1.le with resident := keep ++ [n], swapsS := s1.le.swapsS + 1 } })

/-! ## Evaluation (R228–R235) -/

/-- Engine time is used. -/
def State.engineBusy (s : State) (t : Nat) : State :=
  { s with le := { s.le with busyTick := s.le.busyTick + t, busyS := s.le.busyS + t } }

/-- The inputs that bound sources overwrite (R228). -/
def takeSources (f : List Word) (src : List (Option Word)) : List Word :=
  let put := fun (f : List Word) (i j : Nat) => match nth none src j with | some v => putNth 72 0 v f i | none => f
  put (put (put (put f 9 0) 8 1) 10 2) 11 3

/-- The engine takes the next queued request: swap, waiting writes, and the law on the true values (R224, R225, R228, R239, R240). -/
def State.evaluate (s : State) : State :=
  if !s.engineRuns || s.le.cur.isSome then s else
  match s.le.queue with
  | [] => s
  | q :: rest =>
    let start := if s.le.free < q.ns then q.ns else s.le.free
    let (sw, s1) := ({ s with le := { s.le with queue := rest } }).swapIn q.loop
    let lat := if sw then 240 else 0
    let s2 := (s1.engineBusy lat).applyBatches q.loop
    match s2.loop q.loop with
    | none => s2
    | some r =>
      let s3 : State := { s2 with le := { s2.le with free := start + lat } }
      if !s3.loopRuns r then s3.publish q.loop
      else if q.denied then s3.loopRefuse q.loop 13
      else
        let f := takeSources r.f q.src
        let go := lMode f == 2 && !r.cont && (r.first || r.nonAuto || r.faultStart)
        let g := law f go (if r.first then lq f 12 else lq f 64)
        let r1 := { r with latNs := lat, latMax := if r.latMax < lat then lat else r.latMax }
        let s4 := s3.setLoop q.loop r1
        { s4 with le := { s4.le with cur := some ⟨q, start + lat, g⟩ } }

/-- The result is staged (R220). -/
def State.stageLoop (s : State) (c : LoopCur) (t : Nat) : State :=
  match s.loop c.req.loop with
  | none => s
  | some r =>
    s.setLoop c.req.loop { r with staged := some c.out, resp := c.start + t - c.req.ns }

/-- The evaluation in progress ends: the comparison, its repetition or a loop fault (R234, R235). The Jig's checker 3 (R450). -/
def State.evalDone (s : State) (rep : LoopReport) : State :=
  match s.le.cur with
  | none => s
  | some c =>
    if s.dom 6 != .run then s else
    let n := c.req.loop
    let (j1, s1) := s.jigCheck 3
    let bad1 := j1 || rep != .agree
    let (j2, s2) := if bad1 then s1.jigCheck 3 else (false, s1)
    let bad2 := bad1 && (j2 || rep == .disagree)
    let t := if bad1 then 780 else 390
    let s3 : State := (({ s2 with le := { s2.le with cur := none, free := c.start + t } }).engineBusy t)
    if bad2 then
      match s3.loop n with
      | none => s3
      | some r =>
        let s4 := ((s3.setLoop n (r.mark 9)).inc F.LE_FLT_TOTAL).leLast 2 n
        s4.raise 21 n (s4.word W.LE_LAST).toNat 0
    else if bad1 then
      match s3.loop n with
      | none => s3
      | some r =>
        let s4 := s3.setLoop n { r.mark 12 with mm := satAdd (2 ^ 32 - 1) r.mm 1 }
        let s5 := ((s4.stageLoop c t).inc F.LE_MM_TOTAL).leLast 1 n
        s5.raise 20 n (s5.word W.LE_LAST).toNat 0
    else s3.stageLoop c t

/-- The output update point waits until every request of the host has ended (R220): the engine works through its queue, up to the instant `limit`. -/
def State.runHost (t limit : Nat) : Nat → State → State
  | 0, s => s
  | n + 1, s =>
    if !s.engineRuns || s.le.cur.any (fun c => decide (limit < c.start + 390)) then s
    else if s.le.cur.any (fun c => c.req.host == t) then State.runHost t limit n (s.evalDone .agree)
    else if s.le.queue.any (·.host == t) then
      State.runHost t limit n (if s.le.cur.isSome then s.evalDone .agree else s.evaluate)
    else s

/-- The alarms that an evaluation raises, by the loop's published copy before and after it (R236), are events of source 2 (spec/05 Table 5-3). -/
def State.alarmEvent (s : State) (n : Nat) (old new : List Word) : State :=
  if lbits new 69 11 8 &&& (15 - lbits old 69 11 8) != 0 then s.sourceEvent 2 n else s

/-- Writes a staged result to OUT_DST and publishes it (R220, R223, R236, R239); the starts of Table 8-3 that the evaluation has made are no
longer to come. Writes that have waited for it are applied if the loop is not evaluated any more. -/
def State.writeLoop (s : State) (n : Nat) : State :=
  match s.loop n with
  | none => s
  | some r =>
    match r.staged with
    | none => s
    | some g =>
      let s0 := s.setLoop n { r with staged := none }
      let b := lf g 7
      let l : Loc := ⟨b.toNat / 2 ^ 28, 0, b.toNat % 65536⟩
      let (ok, s1) := if b.toNat / 2 ^ 28 = 15 then (true, s0) else s0.access (memAccess 1 n true l 4 false)
      if !ok then s1.loopRefuse n 13
      else
        let h := setNth (lf g 70 ||| lf r.f 70) g 70
        let auto := lMode g == 2
        let s2 := s1.setLoop n { r with
          f := h, pub := h, staged := none, evals := (r.evals + 1) % 2 ^ 32, cont := false
          first := r.first && !auto, nonAuto := !auto, faultStart := r.faultStart && !auto }
        let s3 := if b.toNat / 2 ^ 28 = 15 then s2 else (s2.setBytes l (leBytes 4 (lf g 64).toNat)).mramKeep
        let s4 := s3.alarmEvent n r.pub h
        if r.batches = [] || (s4.loop n).any (fun x => s4.loopRuns x) || s4.loopAsked n then s4 else (s4.applyBatches n).publish n

/-- Every staged result of a host is written and published (R220, R221). -/
def State.writeLoops (s : State) (t : Nat) : State :=
  ((s.le.tab.filter (fun (e : Nat × LoopRt) => e.2.host == t && e.2.staged.isSome)).map (·.1)).foldl (fun s n => s.writeLoop n) s

/-! ## Starts, online change, resets (R243–R245; spec/15 Table 15-5) -/

/-- The first 256 declared loops hold contexts. -/
def State.loopContexts (s : State) : State :=
  let keys := (s.le.tab.map (fun (e : Nat × LoopRt) => e.1)).take 256
  State.showLoops { s with le := { s.le with resident := keys } }

/-- The releases of every host are numbered afresh from a start on (R217). -/
def State.gridFresh (s : State) : State :=
  { s with sch := { s.sch with tasks := s.sch.tasks.map (fun (e : Nat × TaskRt) => (e.1, { e.2 with grid := 0 })) } }

/-- COLD and WARM start (R243). (DEDUCED: log entry 45) -/
def State.loopsFresh (s : State) : State :=
  let t := match s.prog with
    | some p => p.loops.foldl (fun (t : Tab LoopRt) (d : LoopDecl) => tput d.n d.rt t) []
    | none => []
  { s.gridFresh with
    le := { s.le with tab := t, queue := [], cur := none }
    mram := { s.mram with loops := t.map (fun (e : Nat × LoopRt) => (e.1, e.2.f)) } }.loopContexts

/-- HOT start (R244): every context from MRAM, and the loops continue (R231). -/
def State.loopsHot (s : State) : State :=
  let t := match s.prog with
    | some p => p.loops.foldl (fun (t : Tab LoopRt) (d : LoopDecl) =>
        let f := tget d.context s.mram.loops d.n
        let r := d.rt
        tput d.n { r with
          f := f, pub := f, host := lbits f 1 28 24, div := lbits f 1 17 0, lph := lbits f 2 17 0
          first := false, nonAuto := false, cont := true } t) []
    | none => []
  { s.gridFresh with le := { s.le with tab := t, queue := [], cur := none } }.loopContexts

/-- Fields 64–71 go to MRAM in the retentive commit (R244). -/
def State.loopsSave (s : State) : State :=
  { s with mram := { s.mram with
      loops := s.le.tab.map (fun (e : Nat × LoopRt) => (e.1, (tget e.2.f s.mram.loops e.1).take 64 ++ e.2.f.drop 64)) } }

/-- Queued requests are completed before the switch ends (R245). -/
def State.runAll : Nat → State → State
  | 0, s => s
  | n + 1, s =>
    if !s.engineRuns then s
    else if s.le.cur.isSome then State.runAll n (s.evalDone .agree)
    else if s.le.queue = [] then s else State.runAll n s.evaluate

/-- The loop table at a switch (R245). -/
def State.loopsSwitch (s : State) (new : Image) : State :=
  let t := new.loops.foldl (fun (t : Tab LoopRt) (d : LoopDecl) =>
    match s.loop d.n with
    | none => let r := d.rt; tput d.n { r with j := (s.rt r.host).grid } t
    | some r =>
      let f := (d.context.take 8) ++ r.f.drop 8
      tput d.n { r with
        f := f, pub := (d.context.take 8) ++ r.pub.drop 8, staged := r.staged.map (fun g => d.context.take 8 ++ g.drop 8)
        resched := r.resched || lf f 1 != lf r.f 1 || lf f 2 != lf r.f 2, nonAuto := r.nonAuto || lMode f != 2, cont := true } t) []
  let keep := s.le.resident.filter (fun n => (tfind t n).isSome)
  let more := (t.map (·.1)).filter (fun n => !keep.contains n)
  { s with
    le := { s.le with tab := t, resident := keep ++ more.take (256 - keep.length) }
    mram := { s.mram with loops := t.map (fun (e : Nat × LoopRt) => (e.1, e.2.f)) } }.showLoops

/-- Block reset of the engine (Table 15-5): the queue is emptied and its requests count as late. -/
def State.engineReset (s : State) : State :=
  (s.le.queue.map (·.loop)).foldl (fun s n => s.loopLate n) { s with le := { s.le with queue := [], cur := none } }

/-- The engine's part of a tick end (Table 8-10 LE_LOAD) [0.01 %]. -/
def State.engineTick (s : State) : State :=
  let x := min 65535 (s.le.busyTick * 10000 / 50000)
  { s.peak F.LE_LOAD_PEAK_TICK x with le := { s.le with busyTick := 0 } }

/-- The engine's part of a whole second. -/
def State.engineSecond (s : State) : State :=
  let s1 := (s.wr F.LE_LOAD_LOAD_1S (min 65535 (s.le.busyS / 100000))).wr F.LE_SWAPS_1S s.le.swapsS
  { s1 with le := { s1.le with busyS := 0, swapsS := 0 } }

/-- CLR_STATS (Table 8-13). -/
def State.engineClear (s : State) : State :=
  let s1 := (((s.wr F.LE_MM_TOTAL 0).wr F.LE_FLT_TOTAL 0).wr F.LE_LATE_TOTAL 0).wr F.LE_LOAD_PEAK_TICK 0
  { s1 with le := { s1.le with tab := s1.le.tab.map (fun (e : Nat × LoopRt) => (e.1, { e.2 with swaps := 0, latNs := 0, latMax := 0, mm := 0, late := 0 })) } }

/-- LE_ALM and LE_FLT (Table 8-10): 32 loops from 32 × `w`. -/
def State.loopMap (s : State) (w : Nat) (p : LoopRt → Bool) : Word :=
  BitVec.ofNat 32 ((s.le.tab.filter (fun (e : Nat × LoopRt) => e.1 / 32 == w && p e.2)).foldl (fun n e => n + 2 ^ (e.1 % 32)) 0)

def loopAlarmed (r : LoopRt) : Bool := lbits r.pub 69 11 8 != 0
def loopFaulted (r : LoopRt) : Bool := lFault r.f

end Sys2Proof.Machine
end

