-- ==== Sys2Proof/Machine/Mortise.lean ====
section
/-! DEFINITION. The Mortise and its mailbox, request and sealed links (spec/10). -/

namespace Sys2Proof.Machine

/-- `a / b` where the spec does not state the rounding of an inexact quotient: one of its two neighbours, which is open. (DESIGN CHOICE: log entry 16) -/
def openRound (a b : Int) : Int :=
  if a % b = 0 then a / b else a / b + (if Config.roundUp a b then 1 else 0)

/-- `a / b` rounded to the nearest whole number; a half up. (DESIGN CHOICE: log entry 16) -/
def nearest (a b : Nat) : Nat := (2 * a + b) / (2 * b)

/-- The same for a count that is not negative. -/
def openRoundN (a b : Nat) : Nat := (openRound a b).toNat

/-! ## Parts -/

def Mrt.run (m : Mrt) (r : Nat) : RunSt := if r = 0 then m.run0 else m.run1
def Mrt.setRun (m : Mrt) (r : Nat) (x : RunSt) : Mrt := if r = 0 then { m with run0 := x } else { m with run1 := x }

/-- A run that the parameters do not configure. -/
def noRun : RunParams :=
  ⟨false, false, false, 1, 0, 1, 9000, 4500, 0, 0, 0, 0, 0, 0, 0, [], [], [], [], [], [], 0, 0, 0, 0⟩

/-- Parameters of a run (R305). -/
def Mrt.rp (m : Mrt) (r : Nat) : RunParams := nth noRun m.par.runs r

/-- Parameters of an MA channel. -/
def Mrt.mp (m : Mrt) (c : Nat) : MaParams := nth ⟨0, false, false, 0, 0, false, 0⟩ m.par.ma c

/-- Mortise time [ns] (R313). -/
def State.mrtTime (s : State) : Nat := ((s.ns : Int) + s.mrt.clk).toNat

/-- MSTATE (Table 10-7, R302). -/
def Mrt.mstate (m : Mrt) : Nat :=
  if m.installing then 4 else if m.failed then 5 else if m.sealOpen then 3 else if m.starting then 1 else 2

/-- The Mortise measures: it is supplied, its start check has passed, and it is not starting or installing. -/
def Mrt.works (m : Mrt) : Bool := m.powered && !m.failed && !m.installing && !m.starting

/-- The Mortise acts on requests: MSTATE 2 or 3 (Table 10-4). -/
def Mrt.measuring (m : Mrt) : Bool := m.mstate == 2 || m.mstate == 3

def State.setMrt (s : State) (m : Mrt) : State := { s with mrt := m }

/-- A request-link frame tells the Mortise its slot (R294). -/
def State.tellSlot (s : State) : State := if s.mrt.powered then s.setMrt { s.mrt with slot2 := s.inSlot2 } else s

/-! ## The copies in FRAM (R298) -/

/-- What of a run is kept: totalisers, residues, pulse counts and ticket state. -/
def RunSt.kept (x : RunSt) : RunSt :=
  { ({} : RunSt) with
    pulses := x.pulses, iv := x.iv, gsv := x.gsv, mass := x.mass, almGsv := x.almGsv, rIv := x.rIv, rGsv := x.rGsv, rMass := x.rMass
    err := x.err, rev := x.rev, batch := x.batch, bGsv := x.bGsv, bMass := x.bMass, bP := x.bP, bT := x.bT, bD := x.bD }

/-- The kept numbers of a run. -/
def RunSt.flat (x : RunSt) : List Int :=
  [(x.pulses : Int), x.iv, x.gsv, x.mass, x.almGsv, x.rIv, x.rGsv, x.rMass, x.err, x.rev, x.batch, x.bGsv, x.bMass, x.bP, x.bT, x.bD]

/-- The CRC-32 that a copy's content has. -/
def Fram.check (c : Fram) : Word :=
  Config.framCrc ((c.seq : Int) :: (c.run0.flat ++ c.run1.flat
    ++ c.tickets.flatMap (fun (k : Ticket) => [(k.run : Int), k.no, k.gsv, k.mass, k.p, k.t, k.d])
    ++ c.recs.flatMap (fun (r : List Nat) => r.map (fun (n : Nat) => (n : Int))) ++ [(c.recSeq : Int), c.recLost]))

/-- A copy that passes its check, with what has become of its stored CRC. -/
def Fram.passed (c : Option Fram) (damage : Word) : Option Fram := c.filter (fun (x : Fram) => (x.crc ^^^ damage) == x.check)

/-- The newer of two copies. (DEDUCED: log entry 53) -/
def Fram.newer : Option Fram → Option Fram → Option Fram
  | some a, some b => if a.seq < b.seq then some b else some a
  | some a, none => some a
  | none, b => b

/-- Writes FRAM: the copy that is not the newer one. -/
def Mrt.framWrite (m : Mrt) : Mrt :=
  let n := ((Fram.newer m.fram0 m.fram1).map (·.seq)).getD 0 + 1
  let c : Fram := ⟨n, m.run0.kept, m.run1.kept, m.tickets, m.recs, m.recSeq, m.recLost, 0⟩
  let c1 := { c with crc := c.check }
  if n % 2 = 1 then { m with fram0 := some c1 } else { m with fram1 := some c1 }

/-- Takes a copy into use; the hardware counts stay. -/
def Mrt.framLoad (m : Mrt) (c : Fram) : Mrt :=
  { m with
    run0 := { c.run0 with a := m.run0.a, b := m.run0.b }, run1 := { c.run1 with a := m.run1.a, b := m.run1.b }
    tickets := c.tickets, recs := c.recs, recSeq := c.recSeq, recLost := c.recLost }

/-! ## Records and the audit trail (R303, R304, R310) -/

/-- A record is made: sent by MORTISE_RECORD, held while the link is down, dropped beyond 64 (R310, Table 10-2). -/
def State.mrtRecord (s : State) (code run : Nat) (w : List Nat) : State :=
  let m := s.mrt
  if 64 ≤ m.recs.length then s.setMrt { m with recLost := m.recLost + 1 }
  else
    let q := (m.recSeq + 1) % 65536
    let t := s.mrtTime
    let w3 := bitNat m.sealOpen * 2 ^ 31 + run % 2 * 2 ^ 30 + m.recLost % 65536
    let rec8 := (code * 65536 + q) :: t % 2 ^ 32 :: t / 2 ^ 32 % 2 ^ 32 :: w3 :: (w ++ [0, 0, 0, 0]).take 4
    s.setMrt { m with recs := m.recs ++ [rec8], recSeq := q, recLost := 0 }

/-- One audit entry per change, before the changes take effect; a change whose entries do not all fit is refused (R303, R304). -/
def State.auditAll (s : State) (origin : Nat) (changes : List (Nat × Int × Int)) : Bool × State :=
  let m := s.mrt
  if 1024 < m.audit.length + changes.length then (false, s.setMrt { m with auditFull := true })
  else
    (true, changes.foldl (fun s (c : Nat × Int × Int) =>
      let m := s.mrt
      let e : Audit := ⟨m.nextEntry, s.mrtTime, m.sealCnt, origin, c.1, c.2.1, c.2.2⟩
      (s.setMrt { m with audit := m.audit ++ [e], nextEntry := m.nextEntry + 1 }).mrtRecord 0x30 0 [e.no, origin, c.1]) s)

/-- The parameters of a run as one list of numbers, each its own parameter. -/
def RunParams.flat (p : RunParams) : List Int :=
  [(bitNat p.configured : Int), bitNat p.twin, bitNat p.trainB, p.kf, p.mf, p.errLim, p.nomPhase, p.phaseTol, p.lfCut, p.fixedP, p.fixedT,
    p.fixedD, p.fallP, p.fallT, p.fallD, p.total1, p.total2, p.bpv, p.csp] ++ p.ctlT ++ p.ctlD ++ p.ctl.flatten ++ p.cplP ++ p.cplD ++
    p.cpl.flatten

/-- The parameters of a set as one list of numbers. (DESIGN CHOICE: log entry 54) -/
def MrtParams.flat (p : MrtParams) : List Int :=
  [(p.repeatLim : Int), p.detTimeoutS, bitNat p.singleDet] ++ p.allow.map (fun b => (bitNat b : Int))
    ++ p.ma.flatMap (fun m => [(m.quantity : Int), bitNat m.run0, bitNat m.run1, m.lo, m.hi, bitNat m.hart, m.hartDev])
    ++ p.runs.flatMap (·.flat)

/-- The parameters that differ: identifier, old and new value. -/
def changesOf (a b : List Int) : List (Nat × Int × Int) :=
  ((List.range (max a.length b.length)).map (fun i => (i, nth 0 a i, nth 0 b i))).filter (fun c => c.2.1 != c.2.2)

/-! ## Tables (R296) -/

/-- Index of the axis segment that holds `x`: the last point not above it, but not the last of all. -/
def segment (l : List Int) (x : Int) : Nat := min ((l.filter (fun y => decide (y ≤ x))).length - 1) (l.length - 2)

/-- A table value over two axes, bilinear, at the nearest edge outside them; and whether it was clamped (R296). -/
def table2 (ax ay : List Int) (v : List (List Int)) (x y : Int) : Int × Bool :=
  let cx := clampInt (nth 0 ax 0) (nth 0 ax (ax.length - 1)) x
  let cy := clampInt (nth 0 ay 0) (nth 0 ay (ay.length - 1)) y
  let i := segment ax cx
  let j := segment ay cy
  let at_ := fun (a b : Nat) => nth 0 (nth [] v a) b
  let dx := if ax.length < 2 then 1 else nth 0 ax (i + 1) - nth 0 ax i
  let dy := if ay.length < 2 then 1 else nth 0 ay (j + 1) - nth 0 ay j
  let u := if ax.length < 2 then 0 else cx - nth 0 ax i
  let w := if ay.length < 2 then 0 else cy - nth 0 ay j
  (openRound (at_ i j * (dx - u) * (dy - w) + at_ (i + 1) j * u * (dy - w) + at_ i (j + 1) * (dx - u) * w + at_ (i + 1) (j + 1) * u * w)
    (dx * dy), cx != x || cy != y)

/-! ## Analog values (R292–R295) -/

/-- A current classified by NAMUR NE 43 (R293): (fail, range). -/
def ne43 (ua : Nat) : Bool × Bool :=
  let fail := decide (ua ≤ 3600000) || decide (21000000 ≤ ua)
  (fail, !fail && (decide (ua < 3800000) || decide (20500000 < ua)))

/-- Value of a channel from its current, linear over 4–20 mA (R292, R293). -/
def maValue (p : MaParams) (ua : Nat) : Int := p.lo + openRound (((ua : Int) - 4000000) * (p.hi - p.lo)) 16000000

/-- The channels that serve a quantity of a run. -/
def Mrt.channels (m : Mrt) (q r : Nat) : List Nat :=
  (List.range 4).filter (fun c => (m.mp c).quantity == q && (if r = 0 then (m.mp c).run0 else (m.mp c).run1))

/-- A quantity of a run: value, INVALID, MA_DEV (R292–R295). -/
def Mrt.quantity (m : Mrt) (q r : Nat) (fixed fall : Int) : Int × Bool × Bool :=
  match m.channels q r with
  | [] => (fixed, false, false)
  | c :: _ =>
    let p := m.mp c
    let x := nth {} m.ma c
    let analog := if x.fail then fall else maValue p x.ua
    if !p.hart then (analog, x.fail, false)
    else
      let h := Config.hartValue x.pv
      let dev := decide (5 ≤ x.quiet) || (!x.fail && decide (p.hartDev < (h - analog).natAbs))
      (if x.fail then fall else if dev then analog else h, x.fail, dev)

/-! ## Booking a cycle (R291, R296, R297) -/

/-- An alarm of Table 10-1 after a cycle with or without its condition. -/
def stepAlarm (a : Bool × Nat) (cond : Bool) : Bool × Nat :=
  if cond then (true, 0) else if a.1 then (if 10 ≤ a.2 + 1 then (false, 0) else (true, a.2 + 1)) else (false, 0)

/-- RUN_STAT [9:0] (Table 10-7). -/
def RunSt.bits (x : RunSt) : Nat :=
  let a := fun i => bitNat (nth (false, 0) x.alm i).1
  let v := fun i => bitNat (nth false x.inv i)
  a 0 + 2 * a 1 + 4 * a 2 + 8 * a 3 + 16 * a 4 + 32 * v 0 + 64 * v 1 + 128 * v 2 + 256 * v 3 + 512 * v 4

/-- Adds an increment [2^-32] to a totaliser and its residue (R296): total, residue, whole part booked. -/
def totalise (total res incr : Nat) : Nat × Nat × Nat :=
  ((total + (res + incr) / 2 ^ 32) % 2 ^ 64, (res + incr) % 2 ^ 32, (res + incr) / 2 ^ 32)

/-- Books a run's cycle with the cycle's factors (R291, R296): `ph` the mean phase, `revd` whether B led A, `rates` false for the partial
cycle of a supply loss. -/
def Mrt.book (m : Mrt) (r : Nat) (ph : Int) (revd rates : Bool) : RunSt :=
  let x := m.run r
  let p := m.rp r
  if !p.configured then { x with a := 0, b := 0 }
  else
    let cnt := if p.twin then max x.a x.b else x.a
    let diff := max x.a x.b - min x.a x.b
    let rev := revd && cnt != 0 && (p.twin || p.trainB)
    let n := if rev then 0 else cnt
    let loss := if p.twin && ((x.a == 0 && decide (10 ≤ x.b)) || (x.b == 0 && decide (10 ≤ x.a))) then x.loss + 1 else 0
    let fast := decide (5000 < x.a) || ((p.twin || p.trainB) && decide (5000 < x.b))
    let outside := decide (ph < p.nomPhase - p.phaseTol) || decide (p.nomPhase + p.phaseTol < ph)
    let al := fun i c => stepAlarm (nth (false, 0) x.alm i) c
    let (vp, ip, mp) := m.quantity 1 r p.fixedP p.fallP
    let (vt, it, mt) := m.quantity 2 r p.fixedT p.fallT
    let (vd, id_, md) := m.quantity 3 r p.fixedD p.fallD
    let (ctl, tr1) := table2 p.ctlT p.ctlD p.ctl vt vd
    let (cpl, tr2) := table2 p.cplP p.cplD p.cpl vp vd
    let iIv := openRoundN (n * 10 ^ 9 * 2 ^ 32) p.kf
    let iGsv := openRoundN (n * 10 ^ 9 * p.mf * ctl.toNat * cpl.toNat * 2 ^ 32) (p.kf * 10 ^ 27)
    let iMass := openRoundN (n * p.mf * vd.toNat * 2 ^ 32) (p.kf * 10 ^ 6)
    let (iv, rIv, _) := totalise x.iv x.rIv iIv
    let (gsv, rGsv, gBook) := totalise x.gsv x.rGsv iGsv
    let (mass, rMass, mBook) := totalise x.mass x.rMass iMass
    let y : RunSt := { x with
      a := 0, b := 0, pulses := (x.pulses + n) % 2 ^ 64, iv := iv, gsv := gsv, mass := mass, rIv := rIv, rGsv := rGsv, rMass := rMass
      err := if p.twin then (x.err + diff) % 2 ^ 32 else x.err, rev := if rev then (x.rev + cnt) % 2 ^ 32 else x.rev
      loss := loss
      alm := [al 0 (p.twin && decide (p.errLim < diff)), al 1 (decide (10 ≤ loss)), al 2 (p.twin && decide (100 ≤ cnt) && outside),
        al 3 rev, al 4 fast]
      inv := [ip, it, id_, tr1 || tr2, mp || mt || md]
      bGsv := x.bGsv + gBook, bMass := x.bMass + mBook, bP := x.bP + gBook * vp, bT := x.bT + gBook * vt, bD := x.bD + gBook * vd
      phase := if p.twin then ph else 0, p := vp, t := vt, d := vd, ctl := ctl, cpl := cpl }
    let z : RunSt := if y.bits % 512 ≠ 0 then { y with almGsv := (y.almGsv + gBook) % 2 ^ 64 } else y
    if !rates then z
    else
      let rate := openRoundN (iIv * 10) (2 ^ 32)
      let flowing := decide (p.lfCut < rate)
      { z with
        flowing := flowing, freq := n * 10000, ivRate := if flowing then rate else 0
        gsvRate := if flowing then openRoundN (iGsv * 10) (2 ^ 32) else 0
        massRate := if flowing then openRoundN (iMass * 10) (2 ^ 32) else 0 }

/-- Records for alarms of a run raised or cleared (R310): RUN_STAT before and after. -/
def State.alarmRecords (s : State) (r old new : Nat) : State :=
  (List.range 10).foldl (fun s b =>
    if new.testBit b == old.testBit b then s else s.mrtRecord (if new.testBit b then 1 else 2) r [b]) s

/-! ## Proving (R299–R301) -/

/-- Proving is in progress. -/
def Prove.busy (p : Prove) : Bool := p.st == 1 || p.st == 2

/-- Proving ends as aborted (R301). -/
def State.proveAbort (s : State) (reason : Nat) : State :=
  if !s.mrt.prove.busy then s
  else
    let p := s.mrt.prove
    (s.setMrt { s.mrt with prove := { p with st := 4, reason := reason, tA := none, tB := none, t1 := none }, proveDone := true }).mrtRecord
      0x12 p.run [reason]

/-- Largest and smallest of a list of Ni. -/
def maxOf (l : List Nat) : Nat := l.foldl max 0
def minOf (l : List Nat) : Nat := l.foldl min (l.headD 0)

/-- A pass ends with its interpolated count (R299); proving completes, aborts or goes on (R300, R301). -/
def State.passEnd (s : State) (tA tB t1 t2 n : Nat) : State :=
  let p := s.mrt.prove
  let ni := (2 * (n * 1000 * (tB - tA)) + (t2 - t1)) / (2 * (t2 - t1))
  let nis := (ni :: p.nis).take 5
  let p1 : Prove := { p with
    st := 1, tA := none, tB := none, t1 := none, n := 0, done := p.done + 1, nis := nis, niLast := ni }
  let s1 := (s.setMrt { s.mrt with prove := p1 }).mrtRecord 0x10 p.run [ni]
  let lo := minOf nis
  let spread := maxOf nis - lo
  if nis.length = 5 ∧ spread * 10 ^ 6 ≤ s.mrt.par.repeatLim * lo then
    let sum := nis.foldl (· + ·) 0
    let run := s.mrt.run p.run
    let rp := s.mrt.rp p.run
    let mf := nearest (rp.bpv * Config.steelCorrection rp.csp run.p run.t * rp.kf * 5) (sum * 10 ^ 6)
    let p2 : Prove := { p1 with st := 3, niMean := nearest sum 5, rep := nearest (spread * 10 ^ 6) lo, mf := mf }
    (s1.setMrt { s1.mrt with prove := p2, proveDone := true }).mrtRecord 0x11 p.run [p2.niMean, p2.rep, mf]
  else if p.np ≤ p1.done then s1.proveAbort 6
  else s1

/-- A pulse edge of the proved run (R299): the first at or after tA starts the count, the first at or after tB ends it. (DEDUCED: log entry 53) -/
def State.provePulse (s : State) (t : Nat) : State :=
  let p := s.mrt.prove
  match p.tA with
  | none => s
  | some tA =>
    match p.t1 with
    | none => if tA ≤ t then s.setMrt { s.mrt with prove := { p with t1 := some t, n := 0 } } else s
    | some t1 =>
      match p.tB with
      | some tB =>
        if tB ≤ t then s.passEnd tA tB t1 t (p.n + 1) else s.setMrt { s.mrt with prove := { p with n := p.n + 1 } }
      | none => s.setMrt { s.mrt with prove := { p with n := p.n + 1 } }

/-- MP_PULSE_EDGE (R290): an accepted pulse is counted, from 50 ms after the supply came up; a pulse whose high or low time is below 8 µs is
rejected. Inputs 0, 1 are trains A, B of run 0, inputs 2, 3 of run 1. -/
def mpPulseEdgeOp (input tNs highNs lowNs : Nat) (s : State) : State :=
  if !s.mrt.powered || s.ns < s.mrt.countsFrom || highNs < 8000 || lowNs < 8000 || 4 ≤ input then s
  else
    let r := input / 2
    let x := s.mrt.run r
    let s1 := s.setMrt (s.mrt.setRun r (if input % 2 = 0 then { x with a := x.a + 1 } else { x with b := x.b + 1 }))
    if s1.mrt.prove.busy && s1.mrt.prove.run == r && input % 2 == 0 then s1.provePulse tNs else s1

/-- PROVER_DETECTOR_EDGE (R299): MD0 begins a pass, MD1 ends it; with one detector MD0 does both. -/
def proverDetectorEdgeOp (det tNs : Nat) (s : State) : State :=
  let p := s.mrt.prove
  if !s.mrt.works || !p.busy then s
  else if p.st = 1 then
    (if det = 0 then s.setMrt { s.mrt with prove := { p with st := 2, tA := some tNs, tB := none, t1 := none, n := 0 } } else s)
  else if p.tB.isSome then s
  else if det = (if s.mrt.par.singleDet then 0 else 1) then s.setMrt { s.mrt with prove := { p with tB := some tNs } }
  else s

/-- DET_TIMEOUT (R301): reason 3. -/
def detTimeoutOp (s : State) : State := if s.mrt.works then s.proveAbort 3 else s

/-! ## The mailbox frame (R307, Table 10-6) -/

/-- Two words of a 64-bit count. -/
def words64 (i v : Nat) : List (Nat × Word) := [(i, BitVec.ofNat 32 v), (i + 1, BitVec.ofNat 32 (v / 2 ^ 32))]

/-- The words of a run. -/
def Mrt.runWords (m : Mrt) (r : Nat) : List (Nat × Word) :=
  let x := m.run r
  let p := m.rp r
  let b := 0x1410 + 32 * r
  let w := fun (i v : Nat) => (b + i, BitVec.ofNat 32 v)
  [w 0 (bitNat p.configured * 2 ^ 31 + bitNat x.flowing * 2 ^ 30 + bitNat p.twin * 2 ^ 29 + x.bits), w 1 x.freq,
    w 2 (natOfInt 16 x.phase), w 3 x.err] ++ words64 (b + 4) x.pulses ++ words64 (b + 6) x.iv ++ words64 (b + 8) x.gsv
    ++ words64 (b + 10) x.mass ++ words64 (b + 12) x.almGsv
    ++ [w 14 x.ivRate, w 15 x.gsvRate, w 16 x.massRate, (b + 17, wordOfInt x.p), (b + 18, wordOfInt x.t), (b + 19, wordOfInt x.d),
      w 20 x.ctl.toNat, w 21 x.cpl.toNat, w 22 p.mf, w 23 p.kf, w 24 x.rev, w 25 x.batch]

/-- The words of an MA channel. -/
def Mrt.maWords (m : Mrt) (c : Nat) : List (Nat × Word) :=
  let x := nth {} m.ma c
  let p := m.mp c
  let st := 32 * bitNat (decide (x.quiet < 5)) + 16 * bitNat (!m.slot2) + 8 * bitNat p.hart + 4 * bitNat x.fail + 2 * bitNat x.range
    + bitNat (p.quantity != 0)
  [(0x1460 + 4 * c, BitVec.ofNat 32 x.ua), (0x1461 + 4 * c, BitVec.ofNat 32 st), (0x1462 + 4 * c, x.pv)]

/-- Every word that a mailbox frame carries (R307): MB_STAT without the host's own bits. -/
def State.mrtFrame (s : State) : List (Nat × Word) :=
  let m := s.mrt
  let p := m.prove
  [(0x1400, BitVec.ofNat 32 (m.mstate * 2 ^ 28 + bitNat m.timeDev * 2 ^ 27 + bitNat m.auditFull * 2 ^ 26 + bitNat m.staged.isSome * 2 ^ 25)),
    (0x1401, BitVec.ofNat 32 m.seq), (0x1404, Config.mrtId), (0x1405, Config.mrtFwCrc m.fw), (0x1406, Config.paramCrc m.par.flat),
    (0x1407, BitVec.ofNat 32 m.sealCnt), (0x1408, BitVec.ofNat 32 (m.nextEntry % 65536 * 65536 + m.audit.length))]
    ++ words64 0x1409 s.mrtTime ++ m.runWords 0 ++ m.runWords 1
    ++ [(0x1450, BitVec.ofNat 32 (p.st * 2 ^ 28 + p.run * 2 ^ 27 + p.done % 256 * 65536 + p.np % 256 * 256 + p.reason)),
      (0x1451, BitVec.ofNat 32 p.niLast), (0x1452, BitVec.ofNat 32 p.niMean), (0x1453, BitVec.ofNat 32 p.rep), (0x1454, BitVec.ofNat 32 p.mf)]
    ++ m.maWords 0 ++ m.maWords 1 ++ m.maWords 2 ++ m.maWords 3

/-- The Mortise sends its mailbox frame. -/
def State.sendFrame (s : State) : State := s.setMrt { s.mrt with frame := some s.mrtFrame }

/-- MORTISE_CYCLE_END (R291–R296, R298, R301, R305, R307): while it starts, installs or has failed, the Mortise books nothing, and its frame
carries MSTATE. (DEDUCED: log entry 53) -/
def mortiseCycleEndOp (c : CycleMeas) (s : State) : State :=
  if !s.mrt.powered then s
  else if !s.mrt.works then (s.setMrt { s.mrt with seq := (s.mrt.seq + 1) % 2 ^ 32 }).sendFrame
  else
    let m := s.mrt
    let old0 := m.run0.bits
    let old1 := m.run1.bits
    let ma := (List.range 4).map (fun i =>
      let ua := (nth 0 c.ma i).toNat
      { nth {} m.ma i with ua := ua, fail := (ne43 ua).1, range := (ne43 ua).2 })
    let m1 : Mrt := { m with ma := ma }
    let m2 : Mrt := { m1 with
      run0 := m1.book 0 (nth 0 c.phase 0) (nth false c.reverse 0) true
      run1 := m1.book 1 (nth 0 c.phase 1) (nth false c.reverse 1) true, seq := (m.seq + 1) % 2 ^ 32 }
    let s1 := ((s.setMrt m2).alarmRecords 0 old0 m2.run0.bits).alarmRecords 1 old1 m2.run1.bits
    let pr := m2.run m2.prove.run
    let s2 := if pr.bits % 32 ≠ 0 then s1.proveAbort 2 else if !pr.flowing then s1.proveAbort 4 else s1
    let s3 := (s2.setMrt s2.mrt.framWrite).sendFrame
    match s3.mrt.next with
    | some p => s3.setMrt { s3.mrt with par := p, next := none }
    | none => s3

/-- MREC from a standby: a mailbox frame's words 0x1400–0x146F, or a record (R319). -/
def State.sendMrec (s : State) (w : List Nat) : State :=
  if s.isStandby then s.dtSend .mrec (4 * w.length) w else s

/-- Fault sources of Table 10-5 that a frame shows, from the words before and after it. (DEDUCED: log entry 55) -/
def State.frameFaults (s old : State) : State :=
  let rise := fun (i m : Nat) => (s.word i).toNat &&& m &&& ((old.word i).toNat ^^^ 0xFFFFFFFF)
  let run := fun (s : State) (r : Nat) =>
    if rise (W.RUN_STAT r) 0x3FF ≠ 0 then s.raise 34 0 (s.word (W.RUN_STAT r)).toNat r else s
  let ma := fun (s : State) (c : Nat) => if rise (W.MA_STAT c) 4 ≠ 0 then s.raise 34 0 (s.word (W.MA_STAT c)).toNat c else s
  let s1 := ma (ma (ma (ma (run (run s 0) 1) 0) 1) 2) 3
  let opened := (old.word W.SEAL_CNT).toNat < (s.word W.SEAL_CNT).toNat && s.rd F.MB_STAT_MSTATE == 3
  let failed := s.rd F.MB_STAT_MSTATE == 5 && old.rd F.MB_STAT_MSTATE != 5
  let full := s.on F.MB_STAT_AUDIT_FULL && !old.on F.MB_STAT_AUDIT_FULL
  let dev := s.on F.MB_STAT_TIME_DEV && !old.on F.MB_STAT_TIME_DEV
  let fire := fun (s : State) (b : Bool) => if b then s.raise 35 0 (s.word W.MB_STAT).toNat 0 else s
  fire (fire (fire (fire s1 opened) failed) full) dev

/-- Bytes of `n` words from an index on. -/
def State.wordBytes (s : State) (i n : Nat) : List Byte := (List.range n).flatMap (fun k => leBytes 4 (s.word (i + k)).toNat)

/-- Words 0x1400–0x14BF as view 0 carries them. -/
def State.view0 (s : State) : List Byte := s.wordBytes 0x1400 192

/-- View 0 between a frame and the records that wait: it stays as it stood before (R309). (DEDUCED: log entry 55) -/
def State.holdView (s : State) : Option (List Byte) :=
  if s.mrt.recs = [] then none else some (s.mrt.viewHold.getD s.view0)

/-- MAILBOX_FRAME (R307, R311, R322): the host checks the frame on its way and writes its words at one instant, or drops it. The Jig's
checker 6 (spec/15 R450). (DEDUCED: log entry 55) -/
def mailboxFrameOp (crcOk : Bool) (s : State) : State :=
  match s.mrt.frame with
  | none => s
  | some f =>
    let s0 := s.setMrt { s.mrt with frame := none, viewHold := s.holdView }
    let (jig, s1) := s0.jigCheck 6
    if jig || !crcOk then
      let s2 := (s1.setMrt { s1.mrt with viewHold := s.mrt.viewHold }).bump F.MB_STAT_FRAME_ERR
      s2.raise 33 0 (s2.word W.MB_STAT).toNat 0
    else
      let host := s1.word W.MB_STAT &&& 0x0100FFFF#32
      let s2 := f.foldl (fun s (w : Nat × Word) => s.setWord w.1 w.2) s1
      let s3 := (s2.setWord W.MB_STAT (s2.word W.MB_STAT ||| host ||| 0x80000000#32)).set64 W.MB_PTP_LO W.MB_PTP_HI s1.timeBase
      -- the answer (R311): an unknown CODE is refused, an accepted START_PROVE that has ended is done
      let st := s3.rd F.REQ_RESP_STATE
      let code := s3.rd F.REQ_RESP_CODE
      let s4 :=
        if st = 1 ∧ (code = 0 ∨ 4 < code) then (s3.wr F.REQ_RESP_STATE 3).wr F.REQ_RESP_REASON 3
        else if s3.mrt.proveDone && st == 2 && code == 1 then s3.wr F.REQ_RESP_STATE 4 else s3
      let s5 := (s4.setMrt { s4.mrt with proveDone := false }).raiseEdge 32 0 0 0 false
      (s5.frameFaults s1).sendMrec ((List.range 0x70).map (fun i => (s5.word (0x1400 + i)).toNat))

/-- MAILBOX_LINK_TIMEOUT (R307): FS32 once, until a valid frame has come. (DEDUCED: log entry 55) -/
def mailboxLinkTimeoutOp (s : State) : State :=
  let s1 := (s.flag F.MB_STAT_LINK_OK false).setMrt { s.mrt with viewHold := none }
  s1.raiseEdge 32 0 (s1.word W.MB_STAT).toNat 0 true

/-- MORTISE_RECORD (R310; spec/15 Table 15-8): the oldest unsent record reaches the record ring, REC_HEAD and the event recorder. -/
def mortiseRecordOp (s : State) : State :=
  match s.mrt.recs with
  | [] => s
  | r :: rest =>
    if !s.on F.MB_STAT_LINK_OK then s
    else
      let q := nth 0 r 0 % 65536
      let m := nth 0 r 0 / 65536
      let s1 := s.setMrt { s.mrt with recs := rest, viewHold := if rest = [] then none else s.mrt.viewHold }
      let s2 := (List.range 8).foldl (fun s i => s.setWord (0x1480 + 8 * (q % 8) + i) (BitVec.ofNat 32 (nth 0 r i))) s1
      let s3 := s2.wr F.REC_HEAD q
      let s4 := (s3.note (0x4000 + m) q (nth 0 r 3) (nth 0 r 4) (nth 0 r 5)).note (0x4100 + m) q (nth 0 r 6) (nth 0 r 7) 0
      (s4.sendMrec r).sourceEvent 5 0

/-- MORTISE_HART_POLL (R294, R295): each transmitter is asked for its primary variable (command 1) and its status (command 48), and gives both
or no reply. (DESIGN CHOICE: log entry 19) -/
def mortiseHartPollOp (replies : List (Option (Word × Nat))) (s : State) : State :=
  if !s.mrt.works then s
  else
    let ma := (List.range 4).map (fun i =>
      let x := nth {} s.mrt.ma i
      match nth none replies i with
      | some v => { x with pv := v.1, st := v.2, quiet := 0 }
      | none => { x with quiet := satAdd 5 x.quiet 1 })
    (s.setMrt { s.mrt with ma := ma }).emit .hart .query [0, 1, 0, 48, 1, 1, 1, 48, 2, 1, 2, 48, 3, 1, 3, 48]

/-! ## Requests (R311, R312, R320) -/

/-- A write of REQ_CMD reaches the host (R311, Table 10-4). -/
def State.requestWrite (s : State) (v : Word) : State :=
  if s.rd F.REQ_RESP_STATE = 1 then s.flag F.MB_STAT_REQ_DROPPED true
  else
    let t := F.REQ_CMD_TOKEN.get v
    let c := F.REQ_CMD_CODE.get v
    let s1 := (s.flag F.MB_STAT_REQ_DROPPED false).setWord W.REQ_RESP (BitVec.ofNat 32 (t * 2 ^ 24 + 2 ^ 20 + c))
    let arg := fun n => (s.word (W.REQ_ARG n)).toNat
    s1.tellSlot.emit .mortise .request [t, c, arg 0, arg 1, arg 2]

/-- The Mortise's answer. (DEDUCED: log entry 53) -/
def State.answer (s : State) (st reason : Nat) : State := (s.wr F.REQ_RESP_STATE st).wr F.REQ_RESP_REASON reason

/-- The conditions of Table 10-4 for a request in its order: the reason of the first that holds, 0 for none. `run` for a request that
names a run, `arg1` whether REQ_ARG1 is as Table 10-3 demands, `full` whether it needs an audit entry. (DEDUCED: log entry 53) -/
def State.refusal (s : State) (code : Nat) (run arg1 full : Bool) : Nat :=
  let m := s.mrt
  let a0 := (s.word (W.REQ_ARG 0)).toNat
  let named := run && decide (a0 ≤ 1)
  if code = 1 && m.prove.busy then 1
  else if named && !(m.rp a0).configured then 4
  else if code = 1 && named && !(m.run a0).flowing then 4
  else if (run && !named) || (!run && a0 != 0) || !arg1 || (s.word (W.REQ_ARG 2)) != 0 then 3
  else if full && decide (1024 ≤ m.audit.length) then 6
  else if !nth false m.par.allow (code - 1) then 2
  else if !m.measuring then 7
  else 0

/-- The request in STATE 1 has this CODE. -/
def State.requested (s : State) (code : Nat) : Bool := s.rd F.REQ_RESP_STATE == 1 && s.rd F.REQ_RESP_CODE == code && s.mrt.powered

/-- START_PROVE (R300, R311, R312). -/
def startProveOp (s : State) : State :=
  if !s.requested 1 then s
  else
    let np := (s.word (W.REQ_ARG 1)).toNat
    let e := s.refusal 1 true (decide (5 ≤ np) && decide (np ≤ 100)) false
    if e ≠ 0 then s.answer 3 e
    else
      let p : Prove := { s.mrt.prove with
        st := 1, run := (s.word (W.REQ_ARG 0)).toNat, np := np, done := 0, nis := [], reason := 0, tA := none, tB := none, t1 := none, mf := 0 }
      (s.setMrt { s.mrt with prove := p, proveDone := false }).answer 2 0

/-- ABORT_PROVE (R301, R311). (DEDUCED: log entry 53) -/
def abortProveOp (s : State) : State :=
  if !s.requested 2 then s
  else
    let e := s.refusal 2 false ((s.word (W.REQ_ARG 1)) == 0) false
    if e ≠ 0 then s.answer 3 e else (s.proveAbort 1).answer 4 0

/-- ACCEPT_MF (R301, R303, R311): the proposed factor is the run's from the next cycle. -/
def acceptMfOp (s : State) : State :=
  if !s.requested 3 then s
  else
    let m := s.mrt
    let r := (s.word (W.REQ_ARG 0)).toNat
    let v := (s.word (W.REQ_ARG 1)).toNat
    let e := s.refusal 3 true (m.prove.st == 3 && m.prove.mf != 0 && v == m.prove.mf && (r == m.prove.run || decide (1 < r))) true
    if e ≠ 0 then
      let s1 := s.answer 3 e
      if e = 6 then s1.setMrt { s1.mrt with auditFull := true } else s1
    else
      let base := m.next.getD m.par
      let new : MrtParams := { base with runs := setNth { nth noRun base.runs r with mf := v } base.runs r }
      let s1 := (s.auditAll 2 (changesOf m.par.flat { m.par with runs := setNth { m.rp r with mf := v } m.par.runs r }.flat)).2
      (s1.setMrt { s1.mrt with next := some new, prove := { s1.mrt.prove with mf := 0 } }).answer 4 0

/-- ISSUE_TICKET (R311): closes the run's batch, sends the ticket and opens the next batch. (DESIGN CHOICE: log entry 54) -/
def issueTicketOp (s : State) : State :=
  if !s.requested 4 then s
  else
    let m := s.mrt
    let e := s.refusal 4 true ((s.word (W.REQ_ARG 1)) == 0) false
    if e ≠ 0 then s.answer 3 e
    else
      let r := (s.word (W.REQ_ARG 0)).toNat
      let x := m.run r
      let mean := fun (sum : Int) => if x.bGsv = 0 then 0 else openRound sum x.bGsv
      let k : Ticket := ⟨r, x.batch, x.bGsv, x.bMass, mean x.bP, mean x.bT, mean x.bD⟩
      let y : RunSt := { x with batch := (x.batch + 1) % 2 ^ 32, bGsv := 0, bMass := 0, bP := 0, bT := 0, bD := 0 }
      let l := m.tickets ++ [k]
      ((s.setMrt { (m.setRun r y) with tickets := l.drop (l.length - 64) }).mrtRecord 0x20 r
        [x.batch, x.bGsv % 2 ^ 32, x.bMass % 2 ^ 32]).answer 4 0

/-- REQUEST_TIMEOUT (R311): the request is void. -/
def requestTimeoutOp (s : State) : State := if s.rd F.REQ_RESP_STATE = 1 then s.wr F.REQ_RESP_STATE 5 else s

/-! ## Seal, parameters and the sealed path (R302–R306) -/

/-- SEAL_OPEN (R302): an opening without supply is not counted. -/
def sealOpenOp (s : State) : State :=
  let m := s.mrt
  if m.sealOpen then s
  else if !m.powered then s.setMrt { m with sealOpen := true }
  else (s.setMrt { m with sealOpen := true, sealCnt := satAdd (2 ^ 32 - 1) m.sealCnt 1 }).mrtRecord 0x31 0 [satAdd (2 ^ 32 - 1) m.sealCnt 1]

/-- SEAL_CLOSE (R305): a staged set that has not been activated is discarded. -/
def sealCloseOp (s : State) : State :=
  let m := s.mrt
  if !m.sealOpen then s
  else if !m.powered then s.setMrt { m with sealOpen := false, staged := none }
  else (s.setMrt { m with sealOpen := false, staged := none }).mrtRecord 0x32 0 [m.sealCnt]

/-- STAGE_PARAMETERS (R305): only while the seal is open. -/
def stageParametersOp (p : MrtParams) (s : State) : State :=
  if s.mrt.works && s.mrt.sealOpen then s.setMrt { s.mrt with staged := some p } else s

/-- ACTIVATE_PARAMETERS (R304, R305). -/
def activateParametersOp (s : State) : State :=
  match s.mrt.staged with
  | none => s
  | some p =>
    if !s.mrt.works || !s.mrt.sealOpen || s.mrt.prove.busy then s
    else
      let (ok, s1) := s.auditAll 1 (changesOf s.mrt.par.flat p.flat)
      if ok then s1.setMrt { s1.mrt with next := some p, staged := none } else s1

/-- SEALED_READ (R305): 0 parameters, 1 the audit trail, 2 tickets, from an entry on; a read changes nothing in the Mortise. (DESIGN CHOICE: log entry 54) -/
def sealedReadOp (what first : Nat) (s : State) : State :=
  if !s.mrt.powered then s
  else
    let m := s.mrt
    let n := fun (x : Int) => natOfInt 64 x
    let d :=
      if what = 0 then m.par.flat.map n
      else if what = 1 then (m.audit.filter (fun e => decide (first ≤ e.no))).flatMap
        (fun e => [e.no, e.time, e.sealNo, e.origin, e.param, n e.old, n e.new])
      else (m.tickets.filter (fun k => decide (first ≤ k.no))).flatMap (fun k => [k.run, k.no, k.gsv, k.mass, n k.p, n k.t, n k.d])
    s.emit .sealed .reply (what :: d)

/-- AUDIT_ARCHIVE (R304): with the seal open, entries up to a number are freed; AUDIT_FULL clears once any is. -/
def auditArchiveOp (upTo : Nat) (s : State) : State :=
  let m := s.mrt
  let left := m.audit.filter (fun e => decide (upTo < e.no))
  if m.works && m.sealOpen then s.setMrt { m with audit := left, auditFull := m.auditFull && left.length == m.audit.length } else s

/-! ## Time, display, supply, firmware (R313–R318) -/

/-- TIME_OFFER (R313). (DEDUCED: log entry 56) -/
def timeOfferOp (s : State) : State :=
  if s.rd F.TIME_STAT_STATE ≠ 2 then s
  else
    let s0 := s.tellSlot.emit .mortise .time [s.timeBase]
    if !s.mrt.works then s0
    else
      let m := s0.mrt
      let d : Int := (s.timeBase : Int) - s.mrtTime
      let minute : Int := 60000000000
      let far := decide (minute < d) || decide (d < -minute)
      if !m.clkValid || (m.sealOpen && far) then
        let (ok, s1) := s0.auditAll 4 [(0, s.mrtTime, s.timeBase)]
        if ok then s1.setMrt { s1.mrt with clk := m.clk + d, clkValid := true, timeDev := false } else s1
      else if far then s0.setMrt { m with timeDev := true }
      else s0.setMrt { m with clk := m.clk + clampInt (-10000) 10000 d, timeDev := false }

/-- A total that a sealed parameter chooses for the display (R314). -/
def RunSt.total (x : RunSt) (k : Nat) : Nat :=
  if k = 0 then x.gsv else if k = 1 then x.mass else if k = 2 then x.iv else if k = 3 then x.pulses else x.almGsv

/-- Content of the legal display area (R314). -/
def Mrt.legal (m : Mrt) : List Nat :=
  [m.run0.total (m.rp 0).total1, m.run0.total (m.rp 0).total2, m.run1.total (m.rp 1).total1, m.run1.total (m.rp 1).total2,
    (Config.mrtFwCrc m.fw).toNat, m.sealCnt, bitNat m.sealOpen, bitNat (m.mstate == 5)]

/-- MORTISE_SUPPLY_WARNING (R316): the partial cycle is booked with its factors, the time is recorded, and the supply goes. -/
def mortiseSupplyWarningOp (s : State) : State :=
  if !s.mrt.powered then s
  else
    let m := s.mrt
    let m1 : Mrt :=
      if m.failed then m
      else ({ m with run0 := m.book 0 m.run0.phase false false, run1 := m.book 1 m.run1.phase false false } : Mrt).framWrite
    s.setMrt { m1 with
      powered := false, starting := true, failed := false, installing := false, offTime := s.mrtTime, seq := 0, frame := none
      slot2 := false, prove := {}, proveDone := false }

/-- The Mortise's supply comes up while it is off: it starts (MSTATE 1), and its hardware counters run from 50 ms later (R290, R315). (DESIGN CHOICE: log entry 76) -/
def State.mrtSupply (s : State) : State :=
  let m := s.mrt
  if m.powered then s
  else s.setMrt { m with
    powered := true, starting := true, failed := false, countsFrom := s.ns + 50000000, onTime := s.mrtTime
    run0 := { m.run0 with a := 0, b := 0 }, run1 := { m.run1 with a := 0, b := 0 }, ma := [{}, {}, {}, {}] }

/-- MORTISE_START (R317): its start ends; `fwOk` whether its firmware passes, `damage` what has become of the CRC of each FRAM copy. Copies
that were never written are nothing to check. (DEDUCED: log entry 53) -/
def mortiseStartOp (fwOk : Bool) (damage : List Word) (s : State) : State :=
  if s.mrt.powered && !s.mrt.starting then s
  else
    let s0 := s.mrtSupply
    let m := s0.mrt
    let copy := Fram.newer (Fram.passed m.fram0 (nth 0 damage 0)) (Fram.passed m.fram1 (nth 0 damage 1))
    let ok := fwOk && (copy.isSome || (m.fram0.isNone && m.fram1.isNone))
    let m1 := match copy with | some c => if ok then m.framLoad c else m | none => m
    let t := m.onTime
    (s0.setMrt { m1 with starting := false, failed := !ok, seq := 0 }).mrtRecord 0x40 0
      [m.offTime % 2 ^ 32, m.offTime / 2 ^ 32 % 2 ^ 32, t % 2 ^ 32, t / 2 ^ 32 % 2 ^ 32]

/-- MRT_INSTALL_COMPLETE (R303, R318): the audit entry, the new bank, the restart, the record 0x41; without room for the entry the old
firmware stays. -/
def mrtInstallCompleteOp (s : State) : State :=
  if !s.mrt.installing then s
  else
    let old := Config.mrtFwCrc s.mrt.fw
    let new := Config.mrtFwCrc (s.mrt.fw + 1)
    let (ok, s1) := s.auditAll 3 [(0, old.toNat, new.toNat)]
    if !ok then s1.setMrt { s1.mrt with installing := false }
    else
      ({ s1 with upd := { s1.upd with mrtFw := s1.mrt.part } }.setMrt
        { s1.mrt with installing := false, fw := s1.mrt.fw + 1, seq := 0, slot2 := false }).mrtRecord 0x41 0 [old.toNat, new.toNat]

/-! ## The partner's Mortise (R319) -/

/-- MREC at the active's host: a mailbox frame's words 0x1400–0x146F, or a record of 8 words. (DEDUCED: log entry 57) -/
def State.takeMrec (s : State) (w : List Word) : State :=
  let s0 := s.setMrt { s.mrt with mrecNs := some s.ns }
  if w.length < 0x70 then s0.flag F.PTN_STAT_PTN_VALID true
  else
    let x := fun i => nth 0 w i
    let put := fun (s : State) (p : Nat × Nat) => s.setWord p.1 (x p.2)
    let s1 := [(W.PTN_MRT_ID, 4), (W.PTN_FW_CRC, 5), (W.PTN_SEAL_CNT, 7), (W.PTN_GSV0_LO, 0x18), (W.PTN_GSV0_HI, 0x19),
      (W.PTN_MASS0_LO, 0x1A), (W.PTN_MASS0_HI, 0x1B), (W.PTN_GSV1_LO, 0x38), (W.PTN_GSV1_HI, 0x39), (W.PTN_MASS1_LO, 0x3A),
      (W.PTN_MASS1_HI, 0x3B), (W.PTN_SEQ, 1)].foldl put s0
    ((s1.flag F.PTN_STAT_PTN_VALID true).wr F.PTN_STAT_MSTATE ((x 0).toNat / 2 ^ 28 % 8)).flag F.PTN_STAT_SLOT (!s1.inSlot2)

/-- PARTNER_MREC_TIMEOUT (R319). -/
def partnerMrecTimeoutOp (s : State) : State := s.flag F.PTN_STAT_PTN_VALID false

/-- PTN_STAT with the age of the latest MREC as it stands (Table 10-7). (DEDUCED: log entry 57) -/
def State.ptnStat (s : State) : Word :=
  match s.mrt.mrecNs with
  | none => s.word W.PTN_STAT
  | some t => F.PTN_STAT_AGE_MS.set (s.word W.PTN_STAT) (min 255 ((s.ns - t) / 1000000))

end Sys2Proof.Machine
end

