-- ==== Sys2Proof/Machine/FieldIo.lean ====
section
/-! DEFINITION. Local field inputs and outputs and the isolation link (spec/11). -/

namespace Sys2Proof.Machine

/-! ## Parts -/

def State.setLio (s : State) (x : Lio) : State := { s with lio := x }
def State.diCh (s : State) (n : Nat) : DiSt := nth {} s.lio.di n
def State.setDi (s : State) (n : Nat) (x : DiSt) : State := s.setLio { s.lio with di := putNth 16 {} x s.lio.di n }
def State.ucCh (s : State) (n : Nat) : UcSt := nth {} s.lio.uc n
def State.setUc (s : State) (n : Nat) (x : UcSt) : State := s.setLio { s.lio with uc := putNth 8 {} x s.lio.uc n }

/-- Bit `n` of a word's field. -/
def State.bitOf (s : State) (f : Fld) (n : Nat) : Bool := (s.rd f).testBit n

/-- Sets bit `n` of a word's field. -/
def State.putBit (s : State) (f : Fld) (n : Nat) (b : Bool) : State :=
  let v := s.rd f
  if v.testBit n == b then s else s.wr f (if b then v + 2 ^ n else v - 2 ^ n)

/-- A number with bit `n` for every index of a list of Booleans. -/
def bitsNat (l : List Bool) : Nat := l.foldr (fun b n => 2 * n + bitNat b) 0

/-- A condition of a channel arises: its live bit, its sticky bit, and its source once until it has cleared (R350). (DEDUCED: log entry 58) -/
def State.arise (s : State) (live evt : Fld) (n src : Nat) : State :=
  if s.bitOf live n then s
  else
    let s1 := (s.putBit live n true).putBit evt n true
    s1.raise src n (s1.word evt.idx).toNat 0

/-! ## Digital inputs (R327–R334) -/

/-- An edge of the debounced value: the report waits for a frame, or is dropped (R332). -/
def State.edgeReport (s : State) (n : Nat) (rising : Bool) (t : Nat) : State :=
  if 64 ≤ s.lio.edges.length then s.inc F.EDGE_LOST
  else s.setLio { s.lio with edges := s.lio.edges ++ [⟨n, rising, t, false⟩] }

/-- The debounced value takes a level: edge report, end of a stuck condition (R331, R332). -/
def State.debounced (s : State) (n : Nat) (v : Bool) (t : Nat) : State :=
  let d := s.diCh n
  if d.deb == v then s
  else
    let s1 := (s.setDi n { d with deb := v }).edgeReport n v t
    if v then s1 else s1.putBit F.DI_LIVE_STUCK n false

/-- Counting (R334). -/
def State.countEdge (s : State) (n tNs : Nat) : State :=
  let d := s.diCh n
  let near := match d.lastRise with | some t => decide (tNs - t < 9975) | none => false
  let s1 := s.setDi n { d with count := (d.count + 1) % 2 ^ 32, lastRise := some tNs }
  if near && !s1.bitOf F.CNT_STAT_OVERRUN n then
    let s2 := s1.putBit F.CNT_STAT_OVERRUN n true
    (s2.setLio { s2.lio with cntValid := s2.lio.cntValid - (if s2.lio.cntValid.testBit n then 2 ^ n else 0) }).raise 39 n
      (s2.word W.CNT_STAT).toNat 0
  else s1

/-- DI_FILTERED_CHANGE (R329, R330, R332, R334): the filtered input takes a level; it is captured in units of 25 ns of the REF time. (DEDUCED:
log entry 58) (DEDUCED: log entry 58) -/
def diFilteredChangeOp (ch : Nat) (level : Bool) (atNs : Nat) (s : State) : State :=
  let tNs := atNs / 25 * 25
  let d := s.diCh ch
  if 16 ≤ ch || d.level == level then s
  else
    let s1 := s.setDi ch { d with level := level }
    let s2 := if ch < 4 && s1.on (F.DI_CFG_CNT_EN ch) && level then s1.countEdge ch tNs else s1
    let deb := s.rd (F.DI_CFG_DEB_US ch)
    let d2 := s2.diCh ch
    if deb = 0 then (s2.setDi ch { d2 with waiting := false, changes := 0, since := tNs }).debounced ch level (tNs - 1000)
    else
      let n := d2.changes + 1
      let s3 := s2.setDi ch { d2 with waiting := true, debUs := deb, changes := n, since := tNs }
      if n = 16 then
        let s4 := s3.putBit F.DI_EVT_CHATTER ch true
        s4.raise 38 ch (s4.word W.DI_EVT).toNat 0
      else s3

/-- DI_DEBOUNCE_COMPLETE (R329, R330, R332): the filtered input has held its level for DEB_US. (DESIGN CHOICE: log entry 4) -/
def diDebounceCompleteOp (ch : Nat) (s : State) : State :=
  let d := s.diCh ch
  if 16 ≤ ch || !d.waiting then s
  else (s.setDi ch { d with waiting := false, changes := 0 }).debounced ch d.level (d.since - 1000)

/-- DI_WIRE_BREAK (R328): the current has been below the threshold for 10 ms, or at or above it again for 10 ms. -/
def diWireBreakOp (ch : Nat) (broken : Bool) (s : State) : State :=
  if 16 ≤ ch || (broken && !s.on (F.DI_CFG_WB_EN ch)) then s
  else if broken then s.arise F.DI_LIVE_WBRK F.DI_EVT_WBRK_SEEN ch 38
  else s.putBit F.DI_LIVE_WBRK ch false

/-- DI_STUCK_TIMEOUT (R331). -/
def diStuckTimeoutOp (ch : Nat) (s : State) : State :=
  if 16 ≤ ch || s.rd (F.DI_STUCK ch) = 0 || !(s.diCh ch).deb then s
  else s.arise F.DI_LIVE_STUCK F.DI_STUCK_EVT ch 38

/-- CNT_CLR (R334): the count is 0 at the field side. -/
def cntClrOp (ch : Nat) (s : State) : State :=
  if 4 ≤ ch then s else s.setDi ch { s.diCh ch with count := 0 }

/-- OVERRUN_CLEAR (R334): CNT_VALID may return. -/
def overrunClearOp (ch : Nat) (s : State) : State := if 4 ≤ ch then s else s.putBit F.CNT_STAT_OVERRUN ch false

/-! ## Digital outputs (R335–R337) -/

/-- What each DO drives: the followed command, off while it is switched off, while FLD is below 15 V, and before the first frame
(R336, R337, R348). -/
def State.doDriven (s : State) : Nat :=
  if s.lio.fldMv < 15000 then 0
  else bitsNat ((List.range 8).map (fun n => s.lio.doCmd.testBit n && !s.bitOf F.DO_LIVE_OFF n))

/-- The output switches itself off (R336). -/
def State.doOff (s : State) (ch : Nat) (evt : Fld) : State :=
  if 8 ≤ ch then s else s.arise F.DO_LIVE_OFF evt ch 40

def doShortOffOp (ch : Nat) (s : State) : State := s.doOff ch F.DO_EVT_SHORT
def doThermalOffOp (ch : Nat) (s : State) : State := s.doOff ch F.DO_EVT_THERM

/-- DO_FAULT_CLEAR (R336): writing 1 to SHORT or THERM lets the output follow its command again. -/
def doFaultClearOp (ch : Nat) (s : State) : State :=
  if 8 ≤ ch then s else ((s.putBit F.DO_EVT_SHORT ch false).putBit F.DO_EVT_THERM ch false).putBit F.DO_LIVE_OFF ch false

/-- DO_OPEN_LOAD (R337): the condition has held for 10 ms, or has ended. -/
def doOpenLoadOp (ch : Nat) (holds : Bool) (s : State) : State :=
  if 8 ≤ ch then s
  else if !holds then s.putBit F.DO_LIVE_OPEN ch false
  else if s.on (F.DO_CFG_OPEN_EN ch) && s.doDriven.testBit ch then s.arise F.DO_LIVE_OPEN F.DO_EVT_OPEN ch 40
  else s

/-- DO_READBACK_MISMATCH (R337). -/
def doReadbackMismatchOp (ch : Nat) (holds : Bool) (s : State) : State :=
  if 8 ≤ ch then s
  else if !holds then s.putBit F.DO_LIVE_MISMATCH ch false
  else if s.on (F.DO_CFG_RB_CHK ch) then s.arise F.DO_LIVE_MISMATCH F.DO_EVT_MISMATCH ch 40
  else s

/-- ALV_EXT is held low: FLD is below 15 V, or its output is in current limit (spec/01 R25). -/
def State.alvHeldLow (s : State) : Bool := decide (s.lio.fldMv < 15000) || s.pw.alvLimit

/-- ALV_EXT goes low at once where it is held low (spec/01 R25). -/
def State.alvExtUnder (s : State) : State :=
  if s.alvHeldLow && s.pw.alvExt then { s with pw := { s.pw with alvExt := false } }.emit .field .level [1, 0] else s

/-- FLD_OUT_OF_RANGE (R350; spec/01 R25): FLD has stood at a voltage for 10 ms, outside or again inside 19.2–30.0 V; the report also says whether
ALV_EXT is in current limit. (DEDUCED: log entry 58) -/
def fldOutOfRangeOp (fld : FldReport) (s : State) : State :=
  let mv := fld.mv
  let ok := decide (19200 ≤ mv) && decide (mv ≤ 30000)
  let s0 := (s.setLio { s.lio with fldMv := mv, fldOk := ok, doQual := if ok then s.lio.doQual else 0 }).flag F.LIO_STAT_FLD_OK ok
  let s1 := ({ s0 with pw := { s0.pw with alvLimit := fld.alvLimit } } : State).alvExtUnder
  if s.lio.fldOk && !ok then s1.raise 43 0 (s1.word W.LIO_STAT).toNat 0 else s1

/-! ## Universal channels (R339–R343) -/

/-- Modes with a current input, a current output, and HART (R344). -/
def ucIn (m : Nat) : Bool := decide (1 ≤ m) && decide (m ≤ 4)
def ucOutI (m : Nat) : Bool := decide (7 ≤ m) && decide (m ≤ 10)

/-- Range of a mode, in the unit of UCn (Tables 11-5, 11-6). -/
def ucRange (m sens : Nat) : Int × Int :=
  if ucIn m || ucOutI m then (0, 24000000) else if m = 5 then (-11000000, 11000000) else if m = 6 then (0, 11000000)
  else if m = 11 then (if sens = 2 then (-60000, 250000) else (-200000, 850000))
  else if m = 12 then (0, 4000000)
  else if m = 13 then
    (if sens = 0 then (-200000, 1200000) else if sens = 1 then (-200000, 1372000) else if sens = 2 then (-200000, 400000)
     else if sens = 3 then (-200000, 1000000) else if sens = 4 then (-200000, 1300000)
     else if sens = 7 then (250000, 1820000) else (0, 1768000))
  else (0, 0)

/-- A channel that is high-impedance; every command is below it. (DEDUCED: log entry 58) -/
def hiZ : Nat := 65536

/-- What the channel drives (R339, R343): high-impedance outside the output modes and while it settles; a current is clipped at 24,000 µA, a
voltage at 11 V. -/
def State.ucDriven (s : State) (n : Nat) : Nat :=
  let u := s.ucCh n
  let c := nth hiZ s.lio.ucCmd n
  if u.settling || !(u.mode == 6 || ucOutI u.mode) || c == hiZ then hiZ else if u.mode = 6 then min 55000 c else min 24000 c

/-- What the field side drives: the DO, then every UC channel. (DEDUCED: log entry 58) -/
def State.fieldLevel (s : State) : List Nat := s.doDriven :: (List.range 8).map (fun n => s.ucDriven n)

/-- A sticky event of a channel. -/
def State.ucEvt (s : State) (f : Fld) (b : Bool) : State := if b then s.flag f true else s

/-- UC_SETTLE_COMPLETE (R339). -/
def ucSettleCompleteOp (ch : Nat) (s : State) : State :=
  let u := s.ucCh ch
  if 8 ≤ ch || !u.settling then s
  else s.setUc ch { mode := s.rd (F.UC_CFG_MODE ch), hartNs := u.hartNs }

/-- UC_CONVERSION (R340–R343): the measured value in the mode's unit, whether the loop carries the commanded current, and whether the
short or overload test holds. -/
def ucConversionOp (ch : Nat) (val : Int) (reached short : Bool) (s : State) : State :=
  let u := s.ucCh ch
  if 8 ≤ ch || u.settling || u.mode = 0 then s
  else
    let m := u.mode
    let (lo, hi) := ucRange m (s.rd (F.UC_CFG_SENS ch))
    let x := clampInt lo hi val
    let cmd := s.ucDriven ch
    let class_ := m == 1 || m == 3
    let almLo := class_ && decide (val ≤ 3600000)
    let almHi := class_ && decide (21000000 ≤ val)
    let ne43 := class_ && !almLo && !almHi && (decide (val < 3800000) || decide (20500000 < val))
    let short_ := ucOutI m && !reached && cmd != hiZ
    let loopOpen := short_ && decide (val < 500000) && decide (1000 < cmd)
    let comply := short_ && !loopOpen
    let ne43Fail := short_ && (decide (cmd ≤ 3600) || decide (21000 ≤ cmd))
    let sh := short && (m == 11 || m == 6 || m == 1 || m == 2 || m == 7 || m == 8)
    let opened := if ucOutI m then loopOpen else u.opened
    let over_ := decide (hi < val) || (ucOutI m && cmd != hiZ && decide (24000 < nth 0 s.lio.ucCmd ch))
    let under := decide (val < lo)
    let bad := decide (hi < val) || under || almLo || almHi || (opened && !ucOutI m) || u.cjFail
    let v : UcSt := { u with
      val := x, valid := !bad, over_ := over_, under := under, opened := opened, short := sh, almLo := almLo, almHi := almHi
      ne43 := ne43, comply := comply }
    let s1 := (((((((s.setUc ch v).ucEvt (F.UC_EVT_OVER ch) over_).ucEvt (F.UC_EVT_UNDER ch) under).ucEvt (F.UC_EVT_ALARM_LO ch) almLo).ucEvt
      (F.UC_EVT_ALARM_HI ch) almHi).ucEvt (F.UC_EVT_SHORT ch) sh).ucEvt (F.UC_EVT_COMPLY ch) comply).ucEvt (F.UC_EVT_OPEN ch) loopOpen
    let d := (s1.word (W.UC_EVT ch)).toNat
    let rise := (almLo && !u.almLo) || (almHi && !u.almHi) || (sh && !u.short)
    let s2 := if rise then s1.raise 42 ch d 0 else s1
    if ne43Fail && !s2.on (F.UC_EVT_NE43_FAIL ch) then (s2.flag (F.UC_EVT_NE43_FAIL ch) true).raise 41 ch d 0 else s2

/-- UC_OPEN_SENSOR_TEST (R341): modes 11–13. -/
def ucOpenSensorTestOp (ch : Nat) (isOpen : Bool) (s : State) : State :=
  let u := s.ucCh ch
  if 8 ≤ ch || u.settling || u.mode < 11 then s
  else
    let s1 := s.setUc ch { u with opened := isOpen, valid := u.valid && !isOpen }
    if isOpen && !u.opened then
      let s2 := s1.flag (F.UC_EVT_OPEN ch) true
      s2.raise 42 ch (s2.word (W.UC_EVT ch)).toNat 0
    else s1

/-- COLD_JUNCTION_FAIL for one channel (R341). -/
def State.cjChannel (s : State) (failed : Bool) (ch : Nat) : State :=
  let u := s.ucCh ch
  if u.mode ≠ 13 || s.on (F.UC_CFG_CJ_FIXED ch) then s
  else if !failed then s.setUc ch { u with cjFail := false }
  else
    let s1 := s.setUc ch { u with cjFail := true, valid := false }
    if u.cjFail then s1
    else
      let s2 := s1.flag (F.UC_EVT_CJ_FAIL ch) true
      s2.raise 42 ch (s2.word (W.UC_EVT ch)).toNat 0

/-- COLD_JUNCTION_FAIL (R341): the sensor fails; a reading [0.01 °C] is the sensor back in order. -/
def coldJunctionFailOp (reading : Option Int) (s : State) : State :=
  let s1 := match reading with | some t => s.wr F.CJ_TEMP (natOfInt 16 t) | none => s
  (List.range 8).foldl (fun s n => s.cjChannel reading.isNone n) s1

/-! ## The isolation link (R325, R346–R349) -/

/-- UCS of a channel (Table 11-7). -/
def State.ucsOf (s : State) (n : Nat) : Nat :=
  let u := s.ucCh n
  let hart := match u.hartNs with | some t => decide (s.ns ≤ t + 5000000000) | none => false
  u.mode * 4096 + 2048 * bitNat u.settling + 1024 * bitNat u.cjFail + 512 * bitNat hart + 256 * bitNat u.comply + 128 * bitNat u.ne43
    + 64 * bitNat u.almHi + 32 * bitNat u.almLo + 16 * bitNat u.short + 8 * bitNat u.opened + 4 * bitNat u.under + 2 * bitNat u.over_
    + bitNat (u.valid && s.on F.LIO_STAT_LINK_OK)

/-- The field image takes UC channel `n`. -/
def State.takeUc (s : State) (n : Nat) : State :=
  s.setLio { s.lio with ucVal := setNth (s.ucCh n).val s.lio.ucVal n, ucs := setNth (s.ucsOf n) s.lio.ucs n }

/-- A capture time on the PTP time base (R332). -/
def State.onTimeBase (s : State) (t : Nat) : Nat := ((s.timeBase : Int) - ((s.ns : Int) - t)).toNat

/-- The ARG of a local digital input edge (spec/05 Table 5-3). -/
def edgeArg (ch : Nat) (rising : Bool) : Nat := ch + (if rising then 16 else 32)

/-- A valid edge report at the host (R332, R333): the time goes to the PTP time base; an edge that the DI bits did not show fires SRC 1. -/
def State.takeEdge (s : State) : State :=
  match s.lio.edges with
  | [] => s
  | e :: t =>
    let s1 := ((s.setLio { s.lio with edges := t }).set64 (W.DI_TS_LO e.ch) (W.DI_TS_HI e.ch) (s.onTimeBase e.timeNs)).putBit F.DI_EDGE_DIR e.ch e.rising
    if e.shown then s1 else s1.sourceEvent 1 (edgeArg e.ch e.rising)

/-- The first report of an edge that the DI bits have now shown is marked. -/
def markShown (ch : Nat) (rising : Bool) : List EdgeReport → List EdgeReport
  | [] => []
  | e :: t => if e.ch == ch && e.rising == rising && !e.shown then { e with shown := true } :: t else e :: markShown ch rising t

/-- A frame that shows a changed DI bit fires SRC 1 (R333). -/
def State.diEvents (s : State) (old : Nat) : State :=
  (List.range 16).foldl (fun (s : State) n =>
    let v := s.lio.diBits.testBit n
    if v == old.testBit n then s
    else (s.setLio { s.lio with edges := markShown n v s.lio.edges }).sourceEvent 1 (edgeArg n v)) s

/-- A valid frame updates the field image (R325): inputs in every frame, the rest in the rotation. -/
def State.takeFrame (s : State) : State :=
  let ok := s.on F.LIO_STAT_LINK_OK
  let slot := (s.lio.slot + 1) % 8
  let chan := fun (p : Nat → Bool) (k : Nat) => bitsNat ((List.range k).map p)
  let driven := s.doDriven
  let s1 := s.setLio { s.lio with
    slot := slot
    diBits := chan (fun n => (s.diCh n).deb && !s.bitOf F.DI_LIVE_WBRK n) 16
    diQual := chan (fun n => ok && !s.bitOf F.DI_LIVE_WBRK n) 16
    doRb := chan (fun n => driven.testBit n != s.bitOf F.DO_LIVE_MISMATCH n) 8
    doQual := chan (fun n => s.lio.fldOk && !s.bitOf F.DO_LIVE_OFF n && !s.bitOf F.DO_LIVE_OPEN n && !s.bitOf F.DO_LIVE_MISMATCH n) 8 }
  let s2 := (s1.diEvents s.lio.diBits).takeEdge
  if slot < 4 then (s2.takeUc (2 * slot)).takeUc (2 * slot + 1)
  else if slot = 4 then
    s2.setLio { s2.lio with
      cnt := (List.range 4).map (fun n => (s2.diCh n).count)
      cntValid := chan (fun n => ok && s2.on (F.DI_CFG_CNT_EN n) && !s2.bitOf F.CNT_STAT_OVERRUN n) 4 }
  else (s2.wr F.LIO_STAT_FLD_MV s2.lio.fldMv).flag F.LIO_STAT_FLD_OK s2.lio.fldOk

/-- A missed frame at the host side (R347). -/
def State.frameMissed (s : State) : State :=
  let n := s.lio.missed + 1
  let s1 := (s.setLio { s.lio with missed := n, good := 0 }).inc F.LINK_ERR_HOST
  if n ≠ 3 then s1
  else
    let clearV := fun (x : Nat) => x - x % 2
    let s2 := (s1.setLio { s1.lio with
      diQual := 0, cntValid := 0, ucs := s1.lio.ucs.map clearV, lossNs := some s1.ns, held := false }).flag F.LIO_STAT_LINK_OK false
    let s3 := s2.inc F.LINK_LOSS
    s3.raise 36 0 (s3.word W.LIO_STAT).toNat 0

/-- ISOLATION_FRAME (R325, R347, R349): a frame of the field side arrives valid, unless the Jig inverts its check (spec/15 R450). -/
def isolationFrameOp (s : State) : State :=
  let (jig, s1) := s.jigCheck 4
  if jig then s1.frameMissed
  else
    let g := s1.lio.good + 1
    let s2 := s1.setLio { s1.lio with missed := 0, good := min g 8 }
    let s3 := if 8 ≤ g && !s2.on F.LIO_STAT_LINK_OK
      then (s2.setLio { s2.lio with lossNs := none, held := false }).flag F.LIO_STAT_LINK_OK true else s2
    s3.takeFrame

/-- ISOLATION_FRAME_MISSED (R347). -/
def isolationFrameMissedOp (s : State) : State := s.frameMissed

/-- HOST_HOLD_EXPIRY (R348): the host's own link loss reaches HOLD_US. -/
def hostHoldExpiryOp (s : State) : State :=
  if s.lio.lossNs.isNone || s.lio.held then s
  else
    let s1 := (s.setLio { s.lio with held := true }).flag F.LIO_STAT_FAILSAFE true
    s1.raise 37 0 (s1.word W.LIO_STAT).toNat 0

/-- The fail value of a UC output (Table 11-9), from what it drives now. -/
def State.ucFail (s : State) (n : Nat) : Nat :=
  let m := (s.ucCh n).mode
  let f := (F.UC_CFG_FAIL 0).get (nth 0 s.lio.fieldSet (8 + n))
  if f = 1 then nth hiZ s.lio.ucCmd n else if f = 2 then (if m = 6 then 0 else 3500) else if f = 3 then 21500
  else if f = 4 then (nth 0 s.lio.fieldSet (16 + n)).toNat % 65536 else hiZ

/-- FIELD_HOLD_EXPIRY (R348): the field side applies its fail values, if it has ever had a valid frame. -/
def fieldHoldExpiryOp (s : State) : State :=
  if !s.lio.everValid || s.lio.failApplied then s
  else
    let d := bitsNat ((List.range 8).map (fun n =>
      let f := (F.DO_CFG_FAIL 0).get (nth 0 s.lio.fieldSet n)
      if f = 0 then false else if f = 1 then true else s.lio.doCmd.testBit n))
    let s1 := s.setLio { s.lio with
      failApplied := true, fieldGood := 0, doCmd := d, ucCmd := (List.range 8).map (fun n => s.ucFail n) }
    s1.emit .field .level s1.fieldLevel

/-- The module lets its outputs follow the program (Table 9-1): SOLO or ACTIVE, or a standby with LOCAL_MIRROR; not
under LOAD_STOP (spec/17 R488). -/
def State.drivesField (s : State) : Bool :=
  (s.isActive || (s.isStandby && s.on F.PAIR_CFG_LOCAL_MIRROR)) && s.lio.out.isSome && !s.upd.stopping

/-- The settings that the field side keeps for its fail values (R346, R348): DO_CFG, UC_CFG and UC_FAILVAL of each output. -/
def State.failSettings (s : State) : List Word :=
  (List.range 8).map (fun n => s.word (W.DO_CFG n)) ++ (List.range 8).map (fun n => s.word (W.UC_CFG n))
    ++ (List.range 8).map (fun n => s.word (W.UC_FAILVAL n))

/-- A channel whose mode is not the one set settles (R339). -/
def State.ucFollow (s : State) : State :=
  (List.range 8).foldl (fun (s : State) n =>
    let u := s.ucCh n
    if u.settling || u.mode == s.rd (F.UC_CFG_MODE n) then s else s.setUc n { mode := u.mode, settling := true, hartNs := u.hartNs }) s

/-- HOST_TO_FIELD_FRAME (R346–R349): the host side sends; the field side takes a valid frame with its settings, or counts it missed. It leaves
its fail values at the frame after the 8th valid one. -/
def hostToFieldFrameOp (valid : Bool) (s : State) : State :=
  if s.pw.phase == .held || s.pw.phase == .safeHold || s.pw.phase == .aonOnly then s
  else if !valid then (s.setLio { s.lio with fieldGood := 0 }).inc F.LINK_ERR_FIELD
  else
    let g := min 8 (s.lio.fieldGood + 1)
    let stay := s.lio.failApplied && decide (s.lio.fieldGood < 8)
    let o := s.lio.out.getD []
    let cmd := if s.drivesField then leNat (o.take 1) else 0
    let ucs := (List.range 8).map (fun n => if s.drivesField then leNat ((o.drop (8 + 2 * n)).take 2) else hiZ)
    let s0 := s.ucFollow
    let s1 := s0.setLio { s0.lio with
      seq := (s.lio.seq + 1) % 256, fieldSet := s.failSettings, fieldGood := g, everValid := true, failApplied := stay
      doCmd := if stay then s.lio.doCmd else cmd, ucCmd := if stay then s.lio.ucCmd else ucs }
    (s1.emit .isolation .isolation (s.lio.seq :: bitNat s.drivesField :: cmd :: ucs)).emit .field .level s1.fieldLevel

/-- The local input segment (Table 11-1). -/
def State.localIn (s : State) : List Byte :=
  let x := s.lio
  leBytes 2 x.diBits ++ leBytes 2 x.diQual ++ leBytes 1 x.doRb ++ leBytes 1 x.doQual
    ++ leBytes 1 (bitNat (s.on F.LIO_STAT_LINK_OK) + 2 * bitNat (s.on F.LIO_STAT_FLD_OK)) ++ leBytes 1 x.cntValid
    ++ x.cnt.flatMap (leBytes 4) ++ x.ucVal.flatMap (fun v => leBytes 4 (natOfInt 32 v)) ++ x.ucs.flatMap (leBytes 2)

/-! ## Settings (R351, R352) -/

/-- A UC_CFG value is refused (R352). -/
def ucCfgBad (v : Word) : Bool :=
  let g := fun (f : Nat → Fld) => (f 0).get v
  let m := g F.UC_CFG_MODE
  let sens := g F.UC_CFG_SENS
  decide (14 ≤ m) || (m == 11 && decide (3 ≤ sens)) || (m == 13 && decide (8 ≤ sens))
    || g F.UC_CFG_WIRES == 3
    || (g F.UC_CFG_HART_EN == 1 && (!(ucIn m || ucOutI m) || decide (g F.UC_CFG_RATE < 4)))
    || (g F.UC_CFG_FAIL == 3 && !ucOutI m) || decide (5 ≤ g F.UC_CFG_FAIL)

/-- A write that the block refuses (R352): word index and the value it would take. -/
def lioBad (i : Nat) (v : Word) : Bool :=
  if i = W.LIO_HOLD then (decide (1 ≤ v.toNat % 2 ^ 20) && decide (v.toNat % 2 ^ 20 < 6)) || decide (1000000 < v.toNat % 2 ^ 20)
  else if i = W.HART_CFG then decide (F.HART_CFG_PREAMBLES.get v < 5) || decide (20 < F.HART_CFG_PREAMBLES.get v)
  else if 0x1510 ≤ i && i < 0x1520 then decide (0x1514 ≤ i) && (F.DI_CFG_CNT_EN 0).get v == 1
  else if 0x1520 ≤ i && i < 0x1530 then decide (86400000 < v.toNat % 2 ^ 27)
  else if 0x1560 ≤ i && i < 0x1568 then (F.DO_CFG_FAIL 0).get v == 3
  else if 0x1580 ≤ i && i < 0x15A0 && i % 4 == 0 then ucCfgBad v
  else false

/-- A write to the field I/O block (R334, R336, R339, R352). -/
def State.lioWrite (s : State) (i : Nat) (mask v : Word) : State :=
  let new := accessWrite i (s.word i) mask v
  if lioBad i new then
    let s1 := s.flag F.LIO_STAT_CFG_ERR true
    s1.raise 43 0 i v.toNat
  else
    let s1 := s.plainWrite i mask v
    if i = W.CNT_STAT then
      (List.range 4).foldl (fun s n => if (mask &&& v).getLsbD (8 + n) then cntClrOp n s else s) s1
    else if i = W.DO_EVT then
      (List.range 8).foldl (fun s n => if (mask &&& v).getLsbD n || (mask &&& v).getLsbD (24 + n) then s.putBit F.DO_LIVE_OFF n false else s) s1
    else if 0x1580 ≤ i && i < 0x15A0 && i % 4 == 0 && (s.word i ^^^ new) &&& 0x00FE000F#32 != 0 then
      let n := (i - 0x1580) / 4
      s1.setUc n { mode := (s1.ucCh n).mode, settling := true, hartNs := (s1.ucCh n).hartNs }
    else s1

/-- LIO_SETTING_WRITE (R352). -/
def lioSettingWriteOp (idx : Nat) (v : Word) (s : State) : State :=
  if 0x1500 ≤ idx && idx < 0x1800 then s.lioWrite idx 0xFFFFFFFF#32 v else s

/-! ## HART (R344, R345; spec/16 Table 16-4) -/

/-- The channel that the HART descriptor in execution names. -/
def State.hartChannel (s : State) : Option Nat := (s.taken 4).map (fun d => dNat d 8 1)

/-- Sends the command of the descriptor in execution. -/
def State.hartSend (s : State) (ch : Nat) (d req : List Byte) : State :=
  s.emit .hart .hart (ch :: s.rd F.HART_CFG_PREAMBLES :: dNat d 9 1 :: req.map (·.toNat))

/-- HART_TRANSACTION (R345): the descriptor taken from ring 4 for this channel is framed and sent. -/
def hartTransactionOp (ch : Nat) (s : State) : State :=
  match s.taken 4 with
  | none => s
  | some d =>
    if !s.isActive || !s.sr.ready.contains 4 || dNat d 8 1 ≠ ch then s
    else
      let (data, s1) := s.dmaRead (dNat d 20 4) (dNat d 10 1)
      match data with
      | none => s1.ringEnd 4 6 [] []
      | some req =>
        let s2 : State := { s1 with sr := { s1.sr with ready := s1.sr.ready.filter (· != 4) }, lio := { s1.lio with hart := some (ch, s1.rd F.HART_CFG_RETRY, req) } }
        s2.hartSend ch d req

/-- A HART transaction ends (R345; UC_HART): result code, response code and device status, reply. (DEDUCED: log entry 59) -/
def State.hartEnd (s : State) (ch code rsp status : Nat) (reply : List (Loc × List Byte)) : State :=
  let s1 := (s.bump (F.UC_HART_DONE_CNT ch)).setLio { s.lio with hart := none }
  let s2 := s1.setUc ch { s1.ucCh ch with hartNs := if code = 0 then some s1.ns else none }
  s2.ringEnd 4 code (leBytes 1 rsp ++ leBytes 1 status) reply

/-- HART_REPLY (R345): a reply ends the transaction; a burst frame is discarded and counted. Bytes 0 and 1 are the response code and the
field-device status, the rest the reply data. (DEDUCED: log entry 59) -/
def hartReplyOp (ch : Nat) (burst : Bool) (bytes : List Byte) (s : State) : State :=
  if 8 ≤ ch then s
  else if burst then s.inc (F.UC_HART_ERR ch)
  else match s.lio.hart, s.taken 4 with
    | some (c, _, _), some d =>
      if c ≠ ch then s
      else
        let rsp := (nth 0 bytes 0).toNat
        let data := (bytes.drop 2).take (dNat d 12 2)
        (s.wr (F.UC_HART_RSP ch) rsp).hartEnd ch (if rsp = 0 then 0 else 1) rsp (nth 0 bytes 1).toNat [(dLoc (dNat d 24 4), data)]
    | _, _ => s

/-- HART_REPLY_TIMEOUT (R345; spec/16 R469). -/
def hartReplyTimeoutOp (ch : Nat) (s : State) : State :=
  match s.lio.hart, s.taken 4 with
  | some (c, n, req), some d =>
    if c ≠ ch || !s.isActive then s
    else if n = 0 then s.hartEnd ch 2 0 0 []
    else (s.setLio { s.lio with hart := some (c, n - 1, req) }).hartSend ch d req
  | _, _ => s

end Sys2Proof.Machine
end

