-- ==== Sys2Proof/Machine/RingNet.lean ====
section
/-! DEFINITION. The I/O ring: frames, stations and their admission, ring cycles, process data and acyclic transactions (spec/12
R353–R368, R382–R385); fencing (spec/09 R275, R276). -/

namespace Sys2Proof.Machine

def State.setRing (s : State) (x : Ring) : State := { s with ring := x }

/-! ## Fencing (spec/09 R276) -/

/-- The LP stops and the open window is discarded. -/
def State.lpStop (s : State) : State := { s with lp := { s.lp with win := none, stopped := true } }

/-- The module enters FENCED. -/
def State.fence (s : State) : State :=
  if !s.isActive then s else
  let s1 : State := { s.lpStop with pair := { s.pair with fwdStopped := true, marking := false, marked := [], cutover := false, handover := none } }
  (((s1.setRoleOut false).setRole roleFenced).flag F.PAIR_EVT_FENCED true).raise 28 0 0 0

/-- An epoch is received: H follows, and a higher one than E fences (spec/09 R275, R276). -/
def State.hearEpoch (s : State) (e : Nat) : State :=
  let s1 := s.seeEpoch e
  if s.epoch < e then s1.fence else s1

/-! ## Frames (R354, R355) -/

/-- The module's ports and pair firmware work: it is not held in reset and not in a power-fail sequence's last steps. -/
def State.netUp (s : State) : Bool :=
  !(s.pw.phase == .held || s.pw.phase == .aonOnly || s.pw.phase == .powerFail || s.pw.phase == .safeHold)

/-- Ring cycle number c (R360). -/
def State.ringCycle (s : State) : Nat := s.tick / s.ring.rc % 2 ^ 32

/-- A frame of this module leaves on both ring ports (R354): its slot and direction (FLAGS), E, c and SEQ, and its body. -/
def State.ringSend (s : State) (k : TxKind) (d : List Nat) : State :=
  let q := s.ring.seq
  let s1 := s.setRing { s.ring with seq := (q + 1) % 2 ^ 16 }
  let s2 := s1.emit .ringA k (bitNat s.inSlot2 :: 0 :: s.epoch :: s.ringCycle :: q :: d)
  s2.emit .ringB k (bitNat s.inSlot2 :: 1 :: s.epoch :: s.ringCycle :: q :: d)

/-- The witness frame of the current tick (Table 12-3; spec/09 R267). -/
def State.sendWitness (s : State) : State :=
  s.ringSend .witness [s.tick, s.timeBase, s.ring.rc, s.rd F.TIME_STAT_STATE, s.rd F.UTC_INFO_OFFSET]

/-- A frame that R355 does not drop. -/
def RingHdr.valid (h : RingHdr) : Bool :=
  h.fcsOk && h.rcrcOk && h.ver == 1 && decide (1 ≤ h.kind) && decide (h.kind ≤ 9) && h.lenOk

/-- A frame that this module originated (R354). With an invalid slot identity it originates none (spec/01 R18). -/
def State.ownFrame (s : State) (h : RingHdr) : Bool := h.src == 0xFFFF && s.on F.SLOT_STAT_VALID && h.slot == s.inSlot2

/-- The other port passes a frame on, if it has a link. -/
def State.passOn (s : State) (fromB : Bool) (d : List Nat) : State :=
  if fromB then (if s.on F.RING_STAT_LINK_A then s.emit .ringA .forward d else s)
  else if s.on F.RING_STAT_LINK_B then s.emit .ringB .forward d else s

/-- RING_FRAME_FORWARD (R354, R355): every ring frame that arrives; dropped, removed or passed on. (DEDUCED: log entry 60) -/
def ringFrameForwardOp (portB : Bool) (h : RingHdr) (s : State) : State :=
  if !s.netUp then s
  else if !h.fcsOk then s.inc F.RX_ERR
  else if !h.rcrcOk then (s.inc F.RX_ERR).passOn portB [h.kind, h.hops, h.src, h.epoch, h.cycle, h.seq]
  else if !h.valid then s.inc F.RX_ERR
  else if s.ownFrame h then s
  else
    let s1 := if h.epoch < s.epoch then (s.inc F.STALE_CNT).flag F.RING_EVT_STALE_SEEN true else s
    let s2 := s1.hearEpoch h.epoch
    if h.hops = 0 then s2 else s2.passOn portB [h.kind, h.hops - 1, h.src, h.epoch, h.cycle, h.seq]

/-- A frame of a kind reaches its receiver: answers whether it is the first valid copy (R354, R355), and takes the epoch in. (DEDUCED: log entry 60) -/
def State.ringTake (s : State) (h : RingHdr) (kind : Nat) : Bool × State :=
  if !s.netUp || !h.valid || h.kind ≠ kind || s.ownFrame h then (false, s)
  else
    let key := (h.src, h.epoch, h.cycle, h.seq)
    let s1 := s.hearEpoch h.epoch
    if s1.ring.seen.contains key then (false, s1)
    else
      let recent := s1.ring.seen.filter (fun (e : Nat × Nat × Nat × Nat) => decide ((s1.ringCycle + 2 ^ 32 - e.2.2.1) % 2 ^ 32 ≤ 2))
      (true, s1.setRing { s1.ring with seen := key :: recent })

/-! ## Stations -/

def State.stn (s : State) (n : Nat) : Stn := tget {} s.ring.stns n
def State.setStn (s : State) (n : Nat) (x : Stn) : State := s.setRing { s.ring with stns := tput n x s.ring.stns }

/-- The station table of the running version. -/
def State.stnTable (s : State) : List StationDecl := match s.prog with | some p => p.stations | none => []

/-- The station-table entry of a number. -/
def State.stnDecl (s : State) (n : Nat) : Option StationDecl := s.stnTable.find? (·.n == n)

/-- The station is admitted. -/
def State.admitted (s : State) (n : Nat) : Bool := decide (n < 240) && s.on (F.STN_STAT_ADMITTED n)

/-- Table entries of the admitted stations, in ascending number. -/
def State.admittedStns (s : State) : List StationDecl :=
  ((List.range 240).filter s.admitted).filterMap s.stnDecl

/-- SIGNALS (Table 12-11). -/
def State.signals (s : State) : Nat := (s.admittedStns.map (·.signals)).foldl (· + ·) 0

/-- ADMITTED and RESERVED of RING_STAT. -/
def State.showRing (s : State) : State :=
  (s.wr F.RING_STAT_ADMITTED s.admittedStns.length).wr F.RING_STAT_RESERVED s.ring.reserve.length

/-! ## The load check (R361) -/

/-- Bytes on the wire of a frame with a body of `n` bytes: 60 more, and the IEEE 802.3 minimum (R355). (DEDUCED: log entry 62) -/
def wireBytes (n : Nat) : Nat := max 84 (n + 60)

/-- Bytes on the wire of OUTPUT records packed in their order: `fill` bytes stand in the open frame (R361). -/
def packBytes : Nat → List Nat → Nat
  | 0, [] => 0
  | fill, [] => wireBytes fill
  | fill, r :: t =>
    if fill = 0 then packBytes r t
    else if fill + r ≤ 1472 then packBytes (fill + r) t
    else wireBytes fill + packBytes r t

/-- A station of the schedule: DIV, DPHASE, input and output size. -/
structure Sched1 where
  div : Nat
  dphase : Nat
  inSize : Nat
  outSize : Nat
  deriving DecidableEq, Repr

/-- Bytes of ring cycle c (R361). -/
def cycleBytes (rc : Nat) (l : List Sched1) (c : Nat) : Nat :=
  let due := l.filter (fun x => c % x.div == x.dphase)
  rc * wireBytes 24 + packBytes 0 (due.map (fun x => 8 + x.outSize))
    + (due.map (fun x => wireBytes (8 + x.inSize))).foldl (· + ·) 0

/-- The cycle with the most bytes: the schedule repeats after the least common multiple of its divisors. -/
def worstBytes (rc : Nat) (l : List Sched1) : Nat :=
  ((List.range ((l.map (·.div)).foldl Nat.lcm 1)).map (cycleBytes rc l)).foldl max 0

/-- Rate of a generation [Mbit/s] (R360). -/
def genRate (g : Nat) : Nat := if g = 1 then 100 else if g = 2 then 1000 else 2500

/-- Rate of a ring port's RATE code, the highest for no link. -/
def portRate (r : Nat) : Nat := if r = 1 then 100 else if r = 2 then 1000 else 2500

/-- Rate of the slowest link that the module knows of (R360). (DEDUCED: log entry 62) -/
def State.slowest (s : State) (gens : List Nat) : Nat :=
  (gens.map genRate).foldl min (min (portRate (s.rd F.RING_STAT_RATE_A)) (portRate (s.rd F.RING_STAT_RATE_B)))

/-- The load check at a rate [Mbit/s] (R361). -/
def loadOk (rc rate : Nat) (l : List Sched1) : Bool := decide (worstBytes rc l * 8 * 100 ≤ 90 * (rc * 50 * rate))

/-- The scanned stations of the schedule, with one station's STN_CFG taken as `cfg` instead. -/
def State.schedule (s : State) (sub : Option (Nat × Word)) : List (Nat × Sched1) :=
  s.admittedStns.filterMap fun d =>
    let cfg := match sub with | some (n, w) => if n = d.n then w else s.word (W.STN_CFG d.n) | none => s.word (W.STN_CFG d.n)
    if (F.STN_CFG_EN 0).get cfg = 1 then
      some (d.gen, ⟨(F.STN_CFG_DIV 0).get cfg, (F.STN_CFG_DPHASE 0).get cfg, d.inSize, d.outSize⟩)
    else none

/-- The check of a schedule. (DEDUCED: log entry 62) -/
def State.loadCheck (s : State) (rc : Nat) (l : List (Nat × Sched1)) : Bool :=
  loadOk rc (s.slowest (l.map (·.1))) (l.map (·.2))

/-- RING_LOAD (Table 12-11) [0.01 %]. -/
def State.ringLoad (s : State) : Nat :=
  let l := s.schedule none
  min 65535 (openRoundN (worstBytes s.ring.rc (l.map (·.2)) * 8 * 10000) (s.ring.rc * 50 * s.slowest (l.map (·.1))))

/-! ## Admission (R356, R357) -/

/-- The reason of Table 12-4 that refuses a station, 0 for none. A station already admitted under this tag counts as itself if it is
the same station or lost (R359). (DEDUCED: log entry 61) -/
def State.refuse (s : State) (b : Resv) : Nat :=
  let d := s.stnTable.find? (·.tag == b.tag)
  let n := (d.map (·.n)).getD 0
  let known := d.isSome && s.admitted n
  let self := known && ((s.stn n).mac == b.mac || s.on (F.STN_STAT_LOST n))
  let others := s.admittedStns.filter (fun x => !(self && x.n == n))
  let cfg := s.word (W.STN_CFG n)
  let rest := (s.schedule none).length
  if 240 ≤ others.length then 1
  else match d with
    | none => 2
    | some x =>
      if known && !self then 3
      else if x.gen ≠ b.gen || x.signals ≠ b.signals || x.inSize ≠ b.inSize || x.outSize ≠ b.outSize then 4
      else if 512 < b.signals || 65536 < (others.map (·.signals)).foldl (· + ·) 0 + b.signals then 5
      else if (F.STN_CFG_EN 0).get cfg = 0 then 6
      else
        let mine := (x.gen, Sched1.mk ((F.STN_CFG_DIV 0).get cfg) ((F.STN_CFG_DPHASE 0).get cfg) x.inSize x.outSize)
        if self then (if rest = 0 || s.loadCheck s.ring.rc (s.schedule none) then 0 else 7)
        else
          let before := s.schedule none
          let lower := (s.admittedStns.filter (fun y => decide (y.n < n) && s.on (F.STN_CFG_EN y.n))).length
          if s.loadCheck s.ring.rc (before.take lower ++ [mine] ++ before.drop lower) then 0 else 7

/-- A reserve entry leaves the table. -/
def State.unreserve (s : State) (mac : Nat) : State :=
  (s.setRing { s.ring with reserve := s.ring.reserve.filter (fun (r : Resv) => r.mac != mac), refused := s.ring.refused.filter (· != mac) }).showRing

/-- Admits a station under its number: ADMIT is sent by a module in SOLO or ACTIVE, and it is a ring event (R356, R366). -/
def State.admitStn (s : State) (b : Resv) (n : Nat) : State :=
  let cfg := s.word (W.STN_CFG n)
  let s1 := (s.unreserve b.mac).setStn n { s.stn n with
    mac := b.mac, inCycle := none, miss := 0, gotA := true, gotB := true, oneRun := 0
    div := (F.STN_CFG_DIV 0).get cfg, dphase := (F.STN_CFG_DPHASE 0).get cfg }
  let s2 := (((((s1.flag (F.STN_STAT_ADMITTED n) true).flag (F.STN_STAT_LOST n) false).flag (F.STN_STAT_ONE_DIR n) false).wr
    (F.STN_STAT_GEN n) b.gen).flag (F.STN_STAT_EVT_ADMIT n) true).showRing
  let s2 := s2.sourceEvent 4 n
  if s.isActive then
    s2.ringSend .admission [b.tag, n, (F.STN_CFG_DIV 0).get cfg, (F.STN_CFG_DPHASE 0).get cfg, (F.STN_CFG_HOLD_US 0).get cfg]
  else s2

/-- A station loses its admission (R383, R357); its segments keep their content with VALID clear. -/
def State.dropStn (s : State) (n : Nat) : State :=
  let fl := [F.STN_STAT_ADMITTED n, F.STN_STAT_VALID n, F.STN_STAT_LOST n, F.STN_STAT_SAFE n, F.STN_STAT_DIAG n, F.STN_STAT_ONE_DIR n]
  (fl.foldl (fun s f => s.flag f false) s).showRing

/-- A station is refused (R357). (DEDUCED: log entry 61) -/
def State.refuseStn (s : State) (b : Resv) : State :=
  let listed := s.ring.reserve.any (fun (r : Resv) => r.mac == b.mac)
  let room := decide (s.ring.reserve.length < 16)
  let res := if listed then s.ring.reserve.map (fun (r : Resv) => if r.mac = b.mac then b else r)
    else if room then s.ring.reserve ++ [b] else s.ring.reserve
  if s.ring.refused.contains b.mac then (s.setRing { s.ring with reserve := res }).showRing
  else
    let s1 := (s.setRing { s.ring with reserve := res, refused := s.ring.refused ++ [b.mac] }).showRing
    let s2 := s1.flag F.RING_EVT_RESERVE true
    let s3 := if room then s2 else s2.inc F.RSV_OVF
    s3.raise 52 b.tag b.reason b.mac

/-- Checks a station and admits or refuses it (R356, R357). A standby only keeps the admission table. (DEDUCED: log entry 61) -/
def State.checkStn (s : State) (b : Resv) : State :=
  let r := s.refuse b
  let n := ((s.stnTable.find? (·.tag == b.tag)).map (·.n)).getD 0
  if r = 0 then s.admitStn b n
  else
    let mine := s.admitted n && (s.stn n).mac == b.mac && (s.stnTable.find? (·.tag == b.tag)).isSome
    let s1 := if mine then s.dropStn n else s
    if s.isActive then s1.refuseStn { b with reason := r } else s1

/-- HELLO (R356, R357, R359). HOPS as received on RING-B places an admitted station in the ring (R365). (DEDUCED: log entry 61) -/
def helloOp (portB : Bool) (h : RingHdr) (b : HelloBody) (s : State) : State :=
  let (ok, s1) := s.ringTake h 8
  let n := ((s.stnTable.find? (·.tag == b.tag)).map (·.n)).getD 240
  let s2 := if ok then s1.checkStn ⟨b.tag, b.mac.toNat, b.gen, b.signals, b.inSize, b.outSize, 0⟩ else s1
  if portB && h.valid && h.kind == 8 && s2.admitted n then s2.setStn n { s2.stn n with hops := h.hops } else s2

/-- DISCOVER_SEND (R356, R357). -/
def discoverSendOp (s : State) : State :=
  if !s.isActive || !s.netUp then s
  else s.ring.reserve.foldl (fun s (b : Resv) => s.checkStn b) (s.ringSend .discover [])

/-! ## The ring open or closed (R365) -/

/-- The conditions of R365. -/
def State.ringBroken (s : State) : Bool :=
  let adm := (List.range 240).filter s.admitted
  let one := adm.filter (fun n => s.on (F.STN_STAT_ONE_DIR n))
  let onB := one.filter (fun n => (s.stn n).oneB)
  let onA := one.filter (fun n => !(s.stn n).oneB)
  !s.on F.RING_STAT_LINK_A || !s.on F.RING_STAT_LINK_B || s.ring.partnerOpen
    || (!onA.isEmpty && !onB.isEmpty)
    || (!adm.isEmpty && (onA.length == adm.length || onB.length == adm.length))

/-- The station farthest from RING-B among those it reaches (R365): the fewest forwards left in its frames. (DEDUCED: log entry 60) -/
def State.breakAfter (s : State) : Nat :=
  let reach := (List.range 240).filter (fun n =>
    s.admitted n && !s.on (F.STN_STAT_LOST n) && (!s.on (F.STN_STAT_ONE_DIR n) || (s.stn n).oneB))
  if !s.on F.RING_STAT_LINK_B then 0xFF
  else match reach.foldl (fun (a : Option Nat) n =>
      match a with | none => some n | some m => if (s.stn n).hops < (s.stn m).hops then some n else a) none with
    | some n => n
    | none => 0xFF

/-- Judges whether the ring is open, on a module in SOLO or ACTIVE (R365). (DEDUCED: log entry 60) -/
def State.judgeRing (s : State) : State :=
  if !s.isActive then s
  else if s.ringBroken then
    let s1 := ((s.flag F.RING_STAT_OPEN true).flag F.RING_EVT_OPEN_SEEN true).wr F.RING_STAT_BREAK_AFTER s.breakAfter
    if s.on F.RING_STAT_OPEN then s1 else s1.raise 48 0 (s1.word W.RING_STAT).toNat 0
  else (s.flag F.RING_STAT_OPEN false).wr F.RING_STAT_BREAK_AFTER 0xFF

/-- RING_PORT_LINK_CHANGE (R365, spec/01 R20): RATE code, 0 for no link. -/
def ringPortLinkChangeOp (portB : Bool) (rate : Nat) (s : State) : State :=
  let r := min rate 3
  let s1 := if portB then (s.flag F.RING_STAT_LINK_B (r != 0)).wr F.RING_STAT_RATE_B r
    else (s.flag F.RING_STAT_LINK_A (r != 0)).wr F.RING_STAT_RATE_A r
  s1.judgeRing

/-! ## Acyclic transactions (R367, R368) -/

/-- Transactions in flight: sent, or ended with the result not yet written. -/
def State.inFlight (s : State) : Nat := s.ring.flight.length + (s.sr.ended.filter (fun r => ringKind r == 1)).length

/-- A transaction ends with a code of Table 12-6. -/
def State.acycEnd (s : State) (a : Acyc) (code : Nat) (detail reply : List Byte) : State :=
  let s1 := s.setRing { s.ring with flight := s.ring.flight.filter (fun (x : Acyc) => x.tx != a.tx) }
  let s2 := if code = 2 || code = 4 then ((s1.inc F.ACYC_FAIL).flag F.RING_EVT_ACYC_FAIL true).raise 53 a.station code a.tx else s1
  s2.ringEnd a.ring code detail [(dLoc (dNat a.desc 20 4), reply)]

/-- The request of a transaction (Table 12-2). -/
def State.acycSend (s : State) (a : Acyc) : State :=
  s.ringSend .acycReq (a.tx :: a.station :: dNat a.desc 10 1 :: dNat a.desc 12 4 :: dNat a.desc 16 2 :: a.req.map (·.toNat))

/-- ACYC_TRANSACTION_START (R367): the descriptor taken from the ring finds capacity and is sent. (DEDUCED: log entry 63) -/
def acycTransactionStartOp (r : Nat) (s : State) : State :=
  match s.taken r with
  | none => s
  | some d =>
    let st := dNat d 8 2
    if !s.isActive || !s.sr.ready.contains r || ringKind r ≠ 1 then s
    else if !s.admitted st then s.ringEnd r 3 [] []
    else if 128 ≤ s.inFlight || 4 ≤ (s.ring.flight.filter (fun (x : Acyc) => x.station == st)).length then s
    else
      let (data, s1) := if dNat d 10 1 = 2 then s.dmaRead (dNat d 20 4) (dNat d 16 2) else (some [], s)
      match data with
      | none => s1.ringEnd r 6 [] []
      | some req =>
        let a : Acyc := ⟨s1.ring.nextTx, r, st, d, req, s1.rd F.RING_CFG_ACYC_RETRY⟩
        let s2 : State := { s1 with
          sr := { s1.sr with ready := s1.sr.ready.filter (· != r) }
          ring := { s1.ring with flight := s1.ring.flight ++ [a], nextTx := (s1.ring.nextTx + 1) % 2 ^ 32 } }
        s2.acycSend a

/-- ACYC_RSP (R367): result 0 is a good reply, else the station's own code. -/
def acycRspOp (_portB : Bool) (h : RingHdr) (tx result : Nat) (bytes : List Byte) (s : State) : State :=
  let (ok, s1) := s.ringTake h 6
  match s1.ring.flight.find? (fun (a : Acyc) => a.tx == tx) with
  | none => s1
  | some a =>
    if !ok || a.station ≠ h.src then s1
    else if result = 0 then
      let reply := if dNat a.desc 10 1 = 2 then [] else bytes.take (dNat a.desc 16 2)
      s1.acycEnd a 0 (leBytes 4 0) reply
    else s1.acycEnd a 1 (leBytes 4 result) []

/-- ACYC_TIMEOUT (R367). -/
def acycTimeoutOp (tx : Nat) (s : State) : State :=
  match s.ring.flight.find? (fun (a : Acyc) => a.tx == tx) with
  | none => s
  | some a =>
    if !s.isActive then s
    else if a.retries = 0 then s.acycEnd a 2 [] []
    else
      let b := { a with retries := a.retries - 1 }
      (s.setRing { s.ring with flight := s.ring.flight.map (fun (x : Acyc) => if x.tx = tx then b else x) }).acycSend b

/-- At a takeover every transaction without a result ends TAKEOVER: of each posted ring the descriptor next to be done; those that
follow are started (R368; spec/16 R465). (DEDUCED: log entry 63) -/
def State.takeoverRings (s : State) : State :=
  let s1 : State := { s with
    ring := { s.ring with flight := [] }
    sr := { s.sr with ready := [], message := none }
    lio := { s.lio with hart := none } }
  ((List.range 12).filter ringPosted).foldl (fun s r =>
    if s.ringDi r = s.ringPi r then s
    else (s.wr (F.RNG_CI r) (s.ringDi r + 1)).ringEnd r 5 [] []) s1

/-! ## Process data (R360–R366) -/

/-- A station becomes lost (R364). -/
def State.stnLost (s : State) (n : Nat) : State :=
  let s1 := (((s.flag (F.STN_STAT_VALID n) false).flag (F.STN_STAT_LOST n) true).flag (F.STN_STAT_EVT_LOST n) true).flag F.RING_EVT_LOST true
  let s2 := (s1.raise 49 n (s1.word (W.STN_STAT n)).toNat 0).sourceEvent 4 n
  (s2.ring.flight.filter (fun (a : Acyc) => a.station == n)).foldl (fun s a => s.acycEnd a 4 [] []) s2

/-- The due cycle before this one is judged: input missing, and input from one direction only (R364, R365). -/
def State.judgeStn (s : State) (n : Nat) : State :=
  let x := s.stn n
  let some_ := x.gotA || x.gotB
  let miss := if some_ then 0 else x.miss + 1
  let single := x.gotA != x.gotB
  let run := if !single then 0 else if x.oneRun != 0 && x.oneB == x.gotB then min 3 (x.oneRun + 1) else 1
  let s1 := s.setStn n { x with miss := min miss 15, gotA := false, gotB := false, oneRun := run, oneB := if single then x.gotB else x.oneB }
  let s2 := if 3 ≤ run then s1.flag (F.STN_STAT_ONE_DIR n) true
    else if some_ then s1.flag (F.STN_STAT_ONE_DIR n) false else s1
  if s2.rd F.RING_CFG_LOST_CYCLES ≤ miss && !s2.on (F.STN_STAT_LOST n) then s2.stnLost n else s2

/-- The OUTPUT record of a due station (R362): its number, length, hold limit and data; none while it has none to receive. -/
def State.outRecord (s : State) (d : StationDecl) : Option (List Nat) :=
  let hold := s.rd (F.STN_CFG_HOLD_US d.n)
  if d.outSize = 0 then (if s.ring.cycleEnded then some [d.n, 0, hold] else none)
  else (s.stn d.n).out.map (fun bs => d.n :: d.outSize :: hold :: bs.map (·.toNat))

/-- Packs records into frames of at most 1,472 body bytes (R361). -/
def packRecords : Nat → List Nat → List (List Nat) → List (List Nat)
  | _, [], [] => []
  | _, acc, [] => [acc]
  | fill, acc, r :: t =>
    let n := 8 + (r.length - 3)
    if fill ≠ 0 && 1472 < fill + n then acc :: packRecords n r t else packRecords (fill + n) (acc ++ r) t

/-- The start of a ring cycle, after its witness frame: the OUTPUT frames of the due stations, and each due station's judgement (R362,
R364, R365, R382). -/
def State.cycleStart (s : State) (c : Nat) : State :=
  let due := s.admittedStns.filter (fun d => s.on (F.STN_CFG_EN d.n) && c % (s.stn d.n).div == (s.stn d.n).dphase)
  let s1 := if s.isActive then (packRecords 0 [] (due.filterMap s.outRecord)).foldl (fun s f => s.ringSend .output f) s else s
  let s2 := due.foldl (fun s d => s.judgeStn d.n) s1
  let s3 := due.foldl (fun s d =>
    s.setStn d.n { s.stn d.n with div := s.rd (F.STN_CFG_DIV d.n), dphase := s.rd (F.STN_CFG_DPHASE d.n) }) s2
  s3.judgeRing

/-- The ring's part of a tick (R360, R362; spec/09 R267): witness frame unless `quiet`, then a cycle that begins. In safe
hold and under LOAD_STOP the module originates no frame (spec/15 R448; spec/17 R488). -/
def State.ringTick (s : State) (quiet : Bool) : State :=
  let mute := quiet || !s.netUp || s.upd.stopping
  let k := s.tick
  let new := s.rd F.RING_CFG_RC
  let s0 := if k % s.ring.rc = 0 && k % new = 0 then s.setRing { s.ring with rc := new } else s
  let begins := k % s0.ring.rc == 0
  let s1 := if begins then (s0.setRing { s0.ring with seq := 0 }).wr F.RING_CYCLE s0.ringCycle else s0
  let s2 := if s1.isActive && !mute then s1.sendWitness else s1
  if begins && !mute then s2.cycleStart s2.ringCycle else s2

/-- INPUT (R363–R366). -/
def inputOp (portB : Bool) (h : RingHdr) (b : InputBody) (s : State) : State :=
  let n := h.src
  if !h.valid || h.kind ≠ 3 || !s.netUp then s
  else if !s.admitted n || !s.on (F.STN_CFG_EN n) then (s.ringTake h 3).2
  else
    let x0 := s.stn n
    let s0 := s.setStn n { x0 with gotA := x0.gotA || !portB, gotB := x0.gotB || portB, hops := if portB then h.hops else x0.hops, miss := 0 }
    let (ok, s1) := s0.ringTake h 3
    if !ok then s1
    else
      let x := s1.stn n
      let late := decide (x.div ≤ (s1.ringCycle + 2 ^ 32 - h.cycle) % 2 ^ 32) && decide ((s1.ringCycle + 2 ^ 32 - h.cycle) % 2 ^ 32 < 2 ^ 31)
      let newest := match x.inCycle with
        | none => true
        | some c => decide (1 ≤ (h.cycle + 2 ^ 32 - c) % 2 ^ 32) && decide ((h.cycle + 2 ^ 32 - c) % 2 ^ 32 < 2 ^ 31)
      let s2 := if late then
          let a := (s1.inc F.LATE_CNT).flag F.RING_EVT_LATE true
          if x.late then a else a.raise 51 n h.cycle (a.word W.LATE_CNT).toNat
        else s1
      let back := s2.on (F.STN_STAT_LOST n)
      let s3 := if back then ((s2.flag (F.STN_STAT_LOST n) false).flag (F.STN_STAT_EVT_ADMIT n) true).sourceEvent 4 n else s2
      if !newest then s3
      else
        let s4 := (s3.setStn n { s3.stn n with inCycle := some h.cycle, data := b.data, sampleAge := b.sampleAge, arrNs := s3.ns, late := late }).flag
          (F.STN_STAT_VALID n) true
        let rose := b.safe && !s4.on (F.STN_STAT_SAFE n)
        let s5 := (s4.flag (F.STN_STAT_SAFE n) b.safe).flag (F.STN_STAT_DIAG n) b.diag
        let s6 := if rose then
            let a := s5.flag (F.STN_STAT_EVT_SAFE n) true
            (a.raise 50 n (a.word (W.STN_STAT n)).toNat b.diagCode.toNat).sourceEvent 4 n
          else s5
        s6.judgeRing

/-- EVENT (R366). -/
def eventOp (_portB : Bool) (h : RingHdr) (_code : Nat) (s : State) : State :=
  let (ok, s1) := s.ringTake h 4
  if ok && s1.admitted h.src && s1.on (F.STN_CFG_EN h.src) then (s1.flag (F.STN_STAT_EVT_FRAME h.src) true).sourceEvent 4 h.src else s1

/-- A station's input segment (Table 12-5), as it is latched now. -/
def State.stationIn (s : State) (n : Nat) : List Byte :=
  let x := s.stn n
  let size := ((s.stnDecl n).map (·.inSize)).getD 0
  let pad := (x.data ++ List.replicate size 0#8).take size
  match x.inCycle with
  | none => List.replicate 8 0#8 ++ pad
  | some c =>
    let valid := s.on (F.STN_STAT_VALID n) && s.on (F.STN_CFG_EN n)
    let qual := bitNat valid + 2 * bitNat (s.on (F.STN_STAT_SAFE n)) + 4 * bitNat (s.on (F.STN_STAT_DIAG n)) + 8 * bitNat x.late
    leBytes 1 qual ++ [0#8] ++ leBytes 2 (min 65535 (x.sampleAge + (s.ns - x.arrNs) / 1000)) ++ leBytes 4 c ++ pad

/-- An owner's output update point hands a station's output segment on (R160, R362). -/
def State.stationOut (s : State) (n : Nat) (bs : List Byte) : State := s.setStn n { s.stn n with out := some bs }

end Sys2Proof.Machine
end

