-- ==== Sys2Proof/Machine/Ptp.lean ====
section
/-! DEFINITION. The time base and PTP (spec/12 R375–R380), and the settings of the ring, the plant ports and PTP (R382–R384). -/

namespace Sys2Proof.Machine

def State.setPtp (s : State) (x : Ptp) : State := { s with ptp := x }

/-- Area under RATE_ADJ from `lo` to `hi`, `v` being its value at the end: newest change first. -/
def rateArea (lo hi : Nat) (v : Int) : List (Nat × Int) → Int
  | [] => v * ((hi - lo : Nat) : Int)
  | (t, u) :: rest => v * ((hi - max lo t : Nat) : Int) + rateArea lo (max lo t) u rest

/-- RATE_ADJ's mean over the last 10 s (Table 12-8). -/
def State.meanRate (s : State) : Int :=
  let lo := s.ns - 10000000000
  if s.ns = lo then (s.word W.RATE_ADJ).toInt
  else openRound (rateArea lo s.ns (s.word W.RATE_ADJ).toInt s.ptp.rates) ((s.ns - lo : Nat) : Int)

/-- Leaves LOCKED for another state (R377): counted, FS55. -/
def State.ptpState (s : State) (st : Nat) : State :=
  let old := s.rd F.TIME_STAT_STATE
  let s1 := s.wr F.TIME_STAT_STATE st
  if old = 2 && st ≠ 2 then
    let s2 := s1.inc F.SYNC_LOSS
    s2.raise 55 0 (s2.word W.TIME_STAT).toNat (s2.word W.OFFSET_NS).toNat
  else s1

/-- HOLDOVER (Table 12-8): the rate is held at its mean. UNSYNC stays until the step. -/
def State.ptpHoldover (s : State) : State :=
  let st := s.rd F.TIME_STAT_STATE
  if st = 0 || st = 3 then s else (s.setPtp { s.ptp with goodRun := 0, badRun := 0 }).setRate s.meanRate |>.ptpState 3

/-- A signed number held within 32 bits. -/
def off32 (x : Int) : Word := wordOfInt (clampInt (-(2 ^ 31)) (2 ^ 31 - 1) x)

/-- The PTP ordinary clock runs (R378). -/
def State.ptpOn (s : State) : Bool := s.netUp && s.on F.PTP_CFG_EN && s.pw.phase != .loader

/-- The step of the first synchronisation (R376): the time base takes the master's time. -/
def State.ptpStep (s : State) (offset : Int) : State :=
  let s1 := s.tbHold
  let size := natOfInt 64 (-offset)
  let s2 := s1.setPtp { s1.ptp with base := natOfInt 64 ((s1.ptp.base : Int) - offset), goodRun := 0, badRun := 0 }
  let s3 := (s2.flag F.TIME_STAT_STEPPED true).set64 W.STEP_LO W.STEP_HI size
  ((s3.note 4 0 0 (size % 2 ^ 32) (size / 2 ^ 32)).wr F.TIME_STAT_STATE 1)

/-- An offset above 1 ms slews at the limit, a smaller one is for the servo (R376). (DESIGN CHOICE: log entry 20) -/
def State.ptpRate (s : State) (offset : Int) : State :=
  if 1000000 < offset.natAbs then
    let s1 := s.setRate (if 0 < offset then -858993 else 858993)
    if s1.on F.TIME_STAT_SLEWING then s1
    else
      let s2 := s1.flag F.TIME_STAT_SLEWING true
      s2.raise 55 0 (s2.word W.TIME_STAT).toNat (s2.word W.OFFSET_NS).toNat
  else (s.flag F.TIME_STAT_SLEWING false).drawn.setRate (Config.servo s.freeCtr)

/-- PTP_SYNC (R376, R377): a Sync of the master in use measures offset and path delay [ns]. -/
def ptpSyncOp (offset delay : Int) (port2 : Bool) (s : State) : State :=
  if !s.ptpOn || s.on F.TIME_STAT_PORT != port2 || (s.on F.PTP_CFG_PORT_LOCK && s.on F.PTP_CFG_PREF != port2) then s
  else
    let s1 := (s.setWord W.OFFSET_NS (off32 offset)).setWord W.MEAN_DELAY_NS (off32 delay)
    if !s1.on F.TIME_STAT_STEPPED then s1.ptpStep offset
    else
      let good := if offset.natAbs ≤ 1000 then min 10 (s1.ptp.goodRun + 1) else 0
      let bad := if 2000 < offset.natAbs then min 3 (s1.ptp.badRun + 1) else 0
      let s2 := s1.setPtp { s1.ptp with goodRun := good, badRun := bad }
      let sus := s2.on F.TIME_STAT_REF_SUSPECT
      let st := s2.rd F.TIME_STAT_STATE
      if st = 3 && sus then s2
      else
        let s3 := if st = 3 then s2.ptpState 1 else if st = 2 && bad = 3 then s2.ptpState 1
          else if st = 1 && good = 10 && !sus then s2.ptpState 2 else s2
        s3.ptpRate offset

/-- Whether a master is better than another (R378, IEEE 1588-2019): its data set in the order of comparison. (PRESUMED: log entry 65) -/
def gmBefore (a b : GmData) : Option Bool :=
  let key := fun (g : GmData) => [g.priority1, g.clockClass, g.accuracy, g.variance, g.priority2, g.identity.toNat, g.stepsRemoved]
  ((key a).zip (key b)).foldl (fun (r : Option Bool) p => match r with
    | some x => some x
    | none => if p.1 < p.2 then some true else if p.2 < p.1 then some false else none) none

/-- The port with the best master (R378). (PRESUMED: log entry 65) -/
def State.ptpBest (s : State) : Option (Bool × GmData) :=
  let pref := s.on F.PTP_CFG_PREF
  if s.on F.PTP_CFG_PORT_LOCK then (if pref then s.ptp.gm2 else s.ptp.gm1).map (fun g => (pref, g))
  else match s.ptp.gm1, s.ptp.gm2 with
    | none, none => none
    | some a, none => some (false, a)
    | none, some b => some (true, b)
    | some a, some b => match gmBefore a b with
      | some true => some (false, a)
      | some false => some (true, b)
      | none => some (if pref then (true, b) else (false, a))

/-- The words that name the master in use. -/
def State.ptpShow (s : State) : State :=
  match s.ptpBest with
  | none => s.flag F.TIME_STAT_UTC_VALID false
  | some (p, g) =>
    let s1 := (s.set64 W.GM_ID_LO W.GM_ID_HI g.identity.toNat).wr F.UTC_INFO_OFFSET g.utcOffset.toNat
    (((s1.flag F.UTC_INFO_LEAP61 g.leap61).flag F.UTC_INFO_LEAP59 g.leap59).flag F.TIME_STAT_PORT p).flag F.TIME_STAT_UTC_VALID g.utcValid

/-- PTP_ANNOUNCE (R378). -/
def ptpAnnounceOp (port2 : Bool) (g : GmData) (s : State) : State :=
  if !s.ptpOn then s
  else
    let s1 := s.setPtp (if port2 then { s.ptp with gm2 := some g } else { s.ptp with gm1 := some g })
    let s2 := s1.ptpShow
    if s2.rd F.TIME_STAT_STATE = 3 && !s2.on F.TIME_STAT_REF_SUSPECT && s2.ptpBest.isSome then s2.ptpState 1 else s2

/-- ANNOUNCE_TIMEOUT (R377, R378). -/
def announceTimeoutOp (port2 : Bool) (s : State) : State :=
  let s1 := (s.setPtp (if port2 then { s.ptp with gm2 := none } else { s.ptp with gm1 := none })).ptpShow
  if s1.ptpBest.isNone then s1.ptpHoldover else s1

/-- PTP_TRANSIT (R379): the residence time [ns] is added to correctionField as the message leaves the other ring port. -/
def ptpTransitOp (toB : Bool) (residNs : Nat) (s : State) : State :=
  if !s.netUp then s
  else ((s.bump F.TC_COUNT).peak F.TC_RESID_MAX residNs).emit (if toB then .ringB else .ringA) .time [residNs]

/-! ## Settings (R382–R384) -/

/-- A refused setting (R384). -/
def State.ringRefuse (s : State) (i : Nat) (v : Word) : State := (s.flag F.RING_EVT_CFG_ERR true).raise 53 0 i v.toNat

/-- Indices of STN_CFG. -/
def isStnCfg (i : Nat) : Bool := decide (0x1900 ≤ i) && decide (i < 0x1900 + 480) && i % 2 == 0

/-- A value that a setting word refuses by its ranges (R384). -/
def ringBad (i : Nat) (v : Word) : Bool :=
  if i = W.RING_CFG then
    decide (F.RING_CFG_RC.get v < 2) || decide (2000 < F.RING_CFG_RC.get v) || F.RING_CFG_LOST_CYCLES.get v == 0
      || decide (F.RING_CFG_ACYC_TMO.get v < 10) || decide (10000 < F.RING_CFG_ACYC_TMO.get v)
  else if isStnCfg i then
    let g := fun (f : Nat → Fld) => (f 0).get v
    decide (g F.STN_CFG_HOLD_US < 200) || decide (2000 < g F.STN_CFG_HOLD_US) || g F.STN_CFG_DIV == 0
      || decide (1000 < g F.STN_CFG_DIV) || decide (g F.STN_CFG_DIV ≤ g F.STN_CFG_DPHASE)
  else if i = W.PTP_CFG then
    decide (127 < F.PTP_CFG_DOMAIN.get v) || decide (F.PTP_CFG_ANN_TMO.get v < 2) || decide (7 < F.PTP_CFG_ANN_TMO.get v)
  else if i = W.IP4_PFX1 || i = W.IP4_PFX2 then decide (30 < v.toNat % 64)
  else if i = W.IP6_PFX1 || i = W.IP6_PFX2 then decide (126 < v.toNat % 128)
  else false

/-- The load check after a write (R361, R384). -/
def State.ringLoadBad (s : State) (i : Nat) (v : Word) : Bool :=
  if i = W.RING_CFG then !s.loadCheck (F.RING_CFG_RC.get v) (s.schedule none) && !(s.schedule none).isEmpty
  else if isStnCfg i then
    let n := (i - 0x1900) / 2
    s.admitted n && (F.STN_CFG_EN 0).get v == 1 && !s.loadCheck (s.rd F.RING_CFG_RC) (s.schedule (some (n, v)))
  else false

/-- Sessions of a port close when an address of it changes (R382). (DEDUCED: log entry 64) -/
def State.closePort (s : State) (port2 : Bool) : State :=
  let left := s.plant.sessions.filter (fun (e : Nat × Session) => e.2.port2 != port2)
  { s with plant := { s.plant with sessions := left } }.wr F.PLANT_STAT_SESSIONS left.length

/-- The port whose address a word holds: none for other words. -/
def addressPort (i : Nat) : Option Bool :=
  if i = W.IP4_ADDR1 || i = W.PAIR4 0 || (W.IP6_ADDR1 0 ≤ i && i ≤ W.IP6_ADDR1 3) || (W.PAIR6 0 ≤ i && i ≤ W.PAIR6 0 + 3) then some false
  else if i = W.IP4_ADDR2 || i = W.PAIR4 1 || (W.IP6_ADDR2 0 ≤ i && i ≤ W.IP6_ADDR2 3) || (W.PAIR6 0 + 4 ≤ i && i ≤ W.PAIR6 0 + 7) then some true
  else none

/-- A write to the ring and plant block or the time block (R382–R384). -/
def State.ringWrite (s : State) (i : Nat) (mask v : Word) : State :=
  let new := accessWrite i (s.word i) mask v
  if ringBad i new || s.ringLoadBad i new then s.ringRefuse i v
  else
    let s1 := s.plainWrite i mask v
    let s2 := match addressPort i with | some p => if s.word i = s1.word i then s1 else s1.closePort p | none => s1
    if isStnCfg i && (F.STN_CFG_EN 0).get new = 0 then s2.dropStn ((i - 0x1900) / 2)
    else if i = W.PLANT_CFG then s2.flag F.PLANT_STAT_PAIR_UP (s2.isActive && s2.on F.PLANT_CFG_PAIR_EN)
    else if i = W.PTP_CFG then s2.ptpShow
    else s2

/-- RING_SETTING_WRITE (R384). -/
def ringSettingWriteOp (idx : Nat) (v : Word) (s : State) : State :=
  if (0x1800 ≤ idx && idx < 0x1D00) then s.ringWrite idx 0xFFFFFFFF#32 v else s

/-- PAIR_ADDRESS_ANNOUNCE (R370): a gratuitous ARP or an unsolicited neighbour advertisement for each pair address of each port. -/
def pairAddressAnnounceOp (s : State) : State :=
  if s.plant.announces = 0 || !s.isActive || !s.on F.PLANT_CFG_PAIR_EN then s
  else
    let s1 : State := { s with plant := { s.plant with announces := s.plant.announces - 1 } }
    let four := fun (s : State) (p : Nat) =>
      if s.word (W.PAIR4 p) = 0 then s else s.emit (if p = 0 then .plant1 else .plant2) .arp [4, (s.word (W.PAIR4 p)).toNat]
    let six := fun (s : State) (p : Nat) =>
      let a := (List.range 4).map (fun k => (s.word (W.PAIR6 0 + 4 * p + k)).toNat)
      if a.all (· == 0) || !s.on F.PLANT_CFG_V6_EN then s else s.emit (if p = 0 then .plant1 else .plant2) .arp (6 :: a)
    six (six (four (four s1 0) 1) 0) 1

end Sys2Proof.Machine
end

