-- ==== Sys2Proof/Machine/Can.lean ====
section
/-! DEFINITION. The CAN channels (spec/13). -/

namespace Sys2Proof.Machine

/-! ## Parts -/

def State.chan (s : State) (c : Nat) : Chan := if c = 0 then s.can.ch0 else s.can.ch1
def State.setChan (s : State) (c : Nat) (x : Chan) : State :=
  { s with can := if c = 0 then { s.can with ch0 := x } else { s.can with ch1 := x } }
def State.canBuf (s : State) (c b : Nat) : Buf := tget {} (s.chan c).bufs b
def State.setBuf (s : State) (c b : Nat) (x : Buf) : State := s.setChan c { s.chan c with bufs := tput b x (s.chan c).bufs }

/-- Fields of BUF_CFG (Table 13-6), on word index 0. -/
def bEN : Fld := ⟨0, 31, 31⟩
def bDIR : Fld := ⟨0, 30, 30⟩
def bIDE : Fld := ⟨0, 29, 29⟩
def bFDF : Fld := ⟨0, 28, 28⟩
def bBRS : Fld := ⟨0, 27, 27⟩
def bRING : Fld := ⟨0, 26, 26⟩
def bDLC : Fld := ⟨0, 3, 0⟩

/-- Data bytes of a DLC (R396). -/
def dlcBytes (fdf : Bool) (d : Nat) : Nat :=
  if d ≤ 8 then d
  else if !fdf then 8
  else if d = 9 then 12 else if d = 10 then 16 else if d = 11 then 20 else if d = 12 then 24 else if d = 13 then 32
  else if d = 14 then 48 else 64

/-- A refused setting or request (R404, R405). -/
def State.canRefuse (s : State) (c i : Nat) (v : Word) : State := (s.flag (F.CH_EVT_CFG_ERR c) true).raise 57 c i v.toNat

/-- MODE of a channel. -/
def State.canMode (s : State) (c : Nat) : Nat := s.rd (F.CH_STAT_MODE c)

/-- The channel takes part on the bus: normal or listen-only, and not bus-off or recovering (R392, R401). -/
def State.canOnBus (s : State) (c : Nat) : Bool := 2 ≤ s.canMode c && s.rd (F.CH_STAT_ESTATE c) < 2

/-! ## Error counting (R401; ISO 11898-1) -/

/-- TEC and REC are set, and the error state follows them. In listen-only the counters stay 0 (R393). -/
def State.canCount (s : State) (c tec rec_ : Nat) : State :=
  if s.canMode c ≠ 2 then s
  else
    let old := s.rd (F.CH_STAT_ESTATE c)
    let s1 := (s.wr (F.ERR_CNT_TEC c) (min tec 511)).wr (F.ERR_CNT_REC c) (min rec_ 255)
    if 256 ≤ tec then
      let s2 := ((s1.wr (F.CH_STAT_ESTATE c) 2).flag (F.CH_EVT_BOFF c) true).inc (F.BOFF_CNT c)
      let s3 := s2.setChan c { s2.chan c with recReq := false }
      s3.raise 56 c (s3.word (W.CH_STAT c)).toNat (s3.word (W.ERR_CNT c)).toNat
    else if 128 ≤ tec || 128 ≤ rec_ then
      if old = 0 then
        let s2 := (s1.wr (F.CH_STAT_ESTATE c) 1).flag (F.CH_EVT_EPASS c) true
        s2.raise 57 c (s2.word (W.CH_STAT c)).toNat (s2.word (W.ERR_CNT c)).toNat
      else s1
    else s1.wr (F.CH_STAT_ESTATE c) 0

/-- A frame was received without error: REC falls by 1, or from above 127 to a value from 119 to 127. (DESIGN CHOICE: log entry 21) -/
def State.canGoodRx (s : State) (c : Nat) : State :=
  let r := s.rd (F.ERR_CNT_REC c)
  let t := s.rd (F.ERR_CNT_TEC c)
  if r = 0 || s.canMode c ≠ 2 then s
  else if r ≤ 127 then s.canCount c t (r - 1)
  else s.drawn.canCount c t (119 + Config.recAfter s.freeCtr % 9)

/-- CAN_BUS_ERROR (R401): LEC code, phase, whether this channel transmits, and whether a dominant bit follows its error flag. (DEDUCED: log entry 66) -/
def canBusErrorOp (ch code : Nat) (data tx dominantAfterFlag : Bool) (s : State) : State :=
  if 2 ≤ ch || !s.canOnBus ch then s
  else
    let s1 := if data then s.wr (F.LEC_DATA ch) code else s.wr (F.LEC_NOM ch) code
    let t := s1.rd (F.ERR_CNT_TEC ch)
    let r := s1.rd (F.ERR_CNT_REC ch)
    if tx then
      if code = 3 && s1.rd (F.CH_STAT_ESTATE ch) = 1 && !dominantAfterFlag then s1 else s1.canCount ch (t + 8) r
    else s1.canCount ch t (r + (if dominantAfterFlag then 8 else 1))

/-! ## Enabling (R392, R393) -/

/-- A pending request is aborted (R392, R399). -/
def Buf.abort (x : Buf) : Buf := if x.pend then { x with pend := false, aborted := true } else x

/-- Every pending request is aborted (R392, R405). -/
def State.canAbortAll (s : State) (c : Nat) : State :=
  s.setChan c { s.chan c with bufs := (s.chan c).bufs.map (fun (e : Nat × Buf) => (e.1, e.2.abort)) }

/-- CAN_CHANNEL_ENABLE (R392): EN is written 1. -/
def canChannelEnableOp (ch : Nat) (s : State) : State :=
  if 2 ≤ ch then s
  else
    let s1 := (s.wrSet (F.CH_CFG_EN ch) 1).startDom 11
    if s.canMode ch ≠ 0 || s.pw.phase == .loader then s1 else s1.wr (F.CH_STAT_MODE ch) 1

/-- CAN_CHANNEL_DISABLE (R392): EN is written 0, at the next frame boundary. -/
def canChannelDisableOp (ch : Nat) (s : State) : State :=
  if 2 ≤ ch then s
  else
    let s1 := ((s.wrSet (F.CH_CFG_EN ch) 0).canAbortAll ch).wr (F.CH_STAT_MODE ch) 0
    if s1.canMode 0 = 0 && s1.canMode 1 = 0 then s1.setDom 11 .off else s1

/-- CAN_INTEGRATION_COMPLETE (R392, R393), once domain 11 runs. -/
def canIntegrationCompleteOp (ch : Nat) (s : State) : State :=
  if 2 ≤ ch || s.canMode ch ≠ 1 || s.dom 11 != .run then s else s.wr (F.CH_STAT_MODE ch) (if s.isActive then 2 else 3)

/-- The channels follow the role (R393): a module that leaves SOLO or ACTIVE listens only, its requests completed unsent and its counters
0; one that takes it integrates again; in LOADER they are off. -/
def State.canFollow (s : State) (c : Nat) : State :=
  let m := s.canMode c
  if s.pw.phase == .loader then (if m = 0 then s else s.wr (F.CH_STAT_MODE c) 0)
  else if m = 2 && !s.isActive then
    let bufs := (s.chan c).bufs.map (fun (e : Nat × Buf) => (e.1, { e.2 with pend := false }))
    ((((s.setChan c { s.chan c with bufs := bufs }).wr (F.CH_STAT_MODE c) 3).wr (F.ERR_CNT_TEC c) 0).wr (F.ERR_CNT_REC c) 0).wr
      (F.CH_STAT_ESTATE c) 0
  else if m = 3 && s.isActive then s.wr (F.CH_STAT_MODE c) 1
  else s

/-- CAN_RECOVERY_START (R402). -/
def canRecoveryStartOp (ch : Nat) (s : State) : State :=
  if 2 ≤ ch || s.rd (F.CH_STAT_ESTATE ch) ≠ 2 || !(s.on (F.CH_CFG_AUTO_REC ch) || (s.chan ch).recReq) then s
  else s.wr (F.CH_STAT_ESTATE ch) 3

/-- CAN_RECOVERY_COMPLETE (R402). -/
def canRecoveryCompleteOp (ch : Nat) (s : State) : State :=
  if 2 ≤ ch || s.rd (F.CH_STAT_ESTATE ch) ≠ 3 then s
  else
    let s1 := ((s.wr (F.CH_STAT_ESTATE ch) 0).wr (F.ERR_CNT_TEC ch) 0).wr (F.ERR_CNT_REC ch) 0
    s1.setChan ch { s1.chan ch with recReq := false }

/-- REC_REQ (R402). -/
def recReqOp (ch : Nat) (s : State) : State :=
  if 2 ≤ ch || s.rd (F.CH_STAT_ESTATE ch) ≠ 2 then s else s.setChan ch { s.chan ch with recReq := true }

/-- CAN_PROTOCOL_EXCEPTION (R387): it sends no error frame and integrates again. -/
def canProtocolExceptionOp (ch : Nat) (s : State) : State :=
  if 2 ≤ ch || !s.canOnBus ch || s.on (F.CH_CFG_FD_EN ch) then s
  else (s.flag (F.CH_EVT_PEX ch) true).wr (F.CH_STAT_MODE ch) 1

/-! ## Receiving (R394–R398) -/

/-- A receive buffer accepts a frame (R394). -/
def Buf.accepts (x : Buf) (f : CanFrame) : Bool :=
  bEN.get x.cfg == 1 && bDIR.get x.cfg == 0 && (f.id.toNat ^^^ x.id) &&& x.mask == 0
    && (bIDE.get x.cfg == 1) == f.ide && (!f.fdf || bFDF.get x.cfg == 1)

/-- The data of a frame, filled with 0 (R396). -/
def CanFrame.bytes64 (f : CanFrame) : List Byte :=
  let n := dlcBytes f.fdf f.dlc.toNat
  (f.data.take n ++ List.replicate 64 0#8).take 64

/-- The item of a CAN receive ring (spec/16 Table 16-4). -/
def canItem (ch b : Nat) (f : CanFrame) : List Byte :=
  [0x81#8, 0#8] ++ List.replicate 6 0#8 ++ leBytes 1 ch ++ leBytes 1 b
    ++ leBytes 1 (bitNat f.ide + 2 * bitNat f.fdf + 4 * bitNat f.brs + 8 * bitNat f.esi) ++ leBytes 1 f.dlc.toNat ++ leBytes 4 f.id.toNat
    ++ List.replicate 16 0#8 ++ f.bytes64

/-- Stores a frame in a buffer, which is an event for SRC 3 (R396). -/
def State.canStore (s : State) (ch b : Nat) (f : CanFrame) : State :=
  let x := s.canBuf ch b
  let y : Buf := { x with
    id := f.id.toNat, fdf := f.fdf, brs := f.brs, esi := f.esi, dlc := f.dlc.toNat, data := f.bytes64
    seq := (x.seq + 1) % 256, lost := x.lost || x.new_, new_ := true }
  let s1 := (s.setBuf ch b y).bump (F.RX_CNT ch)
  (if x.new_ then s1.flag (F.CH_EVT_LOST_ANY ch) true else s1).sourceEvent 3 (b + 256 * ch)

/-- Places a frame in the channel's receive ring (R398); a standby delivers into no ring (spec/16 R465). -/
def State.canToRing (s : State) (ch b : Nat) (f : CanFrame) : State :=
  if !s.isActive then s
  else
    let (ok, s1) := s.ringDeliver (16 + ch) 96 (canItem ch b f)
    if ok then (s1.bump (F.RX_CNT ch)).sourceEvent 3 (b + 256 * ch)
    else (s1.setBuf ch b { s1.canBuf ch b with lost := true }).flag (F.CH_EVT_LOST_ANY ch) true

/-- CAN_FRAME_RECEIVE (R387, R388, R394, R396, R398). -/
def canFrameReceiveOp (ch : Nat) (f : CanFrame) (s : State) : State :=
  if 2 ≤ ch || !s.canOnBus ch then s
  else if f.fdf && !s.on (F.CH_CFG_FD_EN ch) then canProtocolExceptionOp ch s
  else
    let s1 := s.canGoodRx ch
    if f.rtr then s1.flag (F.CH_EVT_RTR_SEEN ch) true
    else match (List.range 64).find? (fun b => (s1.canBuf ch b).accepts f) with
      | none => s1.inc (F.NO_MATCH ch)
      | some b => if bRING.get (s1.canBuf ch b).cfg = 1 then s1.canToRing ch b f else s1.canStore ch b f

/-- ACK of a buffer (R398). -/
def State.canAck (s : State) (ch b seq : Nat) : State :=
  let x := s.canBuf ch b
  if x.seq = seq then s.setBuf ch b { x with new_ := false, lost := false } else s

/-! ## Transmitting (R399, R400) -/

/-- The place of a frame in arbitration: the lower wins. A base identifier before an extended one of the same base. -/
def arbitration (x : Buf) : Nat :=
  if bIDE.get x.cfg = 1 then x.id / 2 ^ 18 * 2 ^ 19 + 2 ^ 18 + x.id % 2 ^ 18 else x.id % 2 ^ 11 * 2 ^ 19

/-- The pending buffer that the channel sends next (R399). -/
def State.canNext (s : State) (ch : Nat) : Option Nat :=
  (((s.chan ch).bufs.filter (fun (e : Nat × Buf) => e.2.pend)).foldl (fun (a : Option (Nat × Buf)) e =>
    match a with
    | none => some e
    | some m => if arbitration e.2 < arbitration m.2 then some e else a) none).map (·.1)

/-- CAN_FRAME_SENT (R399). -/
def canFrameSentOp (ch : Nat) (s : State) : State :=
  if 2 ≤ ch || s.canMode ch ≠ 2 || !s.canOnBus ch then s
  else match s.canNext ch with
    | none => s
    | some b =>
      let x := s.canBuf ch b
      let d := bDLC.get x.cfg
      let fdf := bFDF.get x.cfg == 1
      let data := (x.data ++ List.replicate 64 0#8).take (dlcBytes fdf d)
      let s1 := (s.setBuf ch b { x with pend := false, seq := (x.seq + 1) % 256, dlc := d }).bump (F.TX_CNT ch)
      let s2 := s1.canCount ch (s1.rd (F.ERR_CNT_TEC ch) - 1) (s1.rd (F.ERR_CNT_REC ch))
      s2.emit (if ch = 0 then .can0 else .can1) .frame
        (x.id :: bIDE.get x.cfg :: bitNat fdf :: bBRS.get x.cfg :: d :: data.map (·.toNat))

/-- A TX request (R393, R399, R400). -/
def State.canTx (s : State) (ch b i : Nat) (v : Word) : State :=
  let x := s.canBuf ch b
  let fdf := bFDF.get x.cfg == 1
  if bDIR.get x.cfg = 0 || bEN.get x.cfg = 0 || (fdf && !s.on (F.CH_CFG_FD_EN ch)) || (bBRS.get x.cfg == 1 && !fdf) then s.canRefuse ch i v
  else if x.pend then s
  else s.setBuf ch b { x with pend := s.isActive, aborted := false }

/-- An ABORT request (R399): no effect on a frame that has won arbitration, which is open. (DESIGN CHOICE: log entry 21) -/
def State.canAbort (s : State) (ch b : Nat) : State :=
  let x := s.canBuf ch b
  if !x.pend then s
  else if s.canMode ch = 2 && s.canOnBus ch && s.canNext ch == some b then
    if Config.arbitrationWon s.freeCtr then s.drawn else s.drawn.setBuf ch b x.abort
  else s.setBuf ch b x.abort

/-! ## Windows and settings (R389, R391, R395, R405) -/

/-- Index of window `w` of channel `c`. -/
def canWin (c w : Nat) : Nat := 0x1D20 + 0x80 * c + 0x18 * w

/-- The buffer that a window shows. -/
def State.winSel (s : State) (c w : Nat) : Nat := (s.word (canWin c w)).toNat % 64

/-- ACK, TX and ABORT_REQUEST: commands through a window. -/
def ackOp (ch win seq : Nat) (s : State) : State := if 2 ≤ ch || 4 ≤ win then s else s.canAck ch (s.winSel ch win) seq
def txOp (ch win : Nat) (s : State) : State :=
  if 2 ≤ ch || 4 ≤ win then s else s.canTx ch (s.winSel ch win) (canWin ch win + 5) 0x200#32
def abortRequestOp (ch win : Nat) (s : State) : State := if 2 ≤ ch || 4 ≤ win then s else s.canAbort ch (s.winSel ch win)
def abortAllOp (ch : Nat) (s : State) : State := if 2 ≤ ch then s else s.canAbortAll ch

/-- WIN_SEL_WRITE (R395, R405). -/
def winSelWriteOp (ch win : Nat) (v : Word) (s : State) : State :=
  if 2 ≤ ch || 4 ≤ win then s
  else if 63 < v.toNat then s.canRefuse ch (canWin ch win) v
  else s.plainWrite (canWin ch win) 0xFFFFFFFF#32 v

/-- The buffer configuration goes to the settings image (R395). -/
def State.keepBuf (s : State) (c b : Nat) : State :=
  let x := s.canBuf c b
  { s with mram := { s.mram with canBufs := tput (64 * c + b) [x.cfg.toNat, x.id, x.mask] s.mram.canBufs } }

/-- Writes four data bytes. -/
def putData (l : List Byte) (i : Nat) (mask v : Word) : List Byte :=
  (List.range 64).map fun k =>
    if k / 4 = i then
      let sh := 8 * (k % 4)
      let m := BitVec.ofNat 8 (mask.toNat / 2 ^ sh)
      (nth 0#8 l k &&& ~~~m) ||| (BitVec.ofNat 8 (v.toNat / 2 ^ sh) &&& m)
    else nth 0#8 l k

/-- A write to a word of a window (Table 13-4). (DEDUCED: log entry 66) -/
def State.winWrite (s : State) (c w o i : Nat) (mask v : Word) : State :=
  let b := s.winSel c w
  let x := s.canBuf c b
  let masked := fun (old : Word) => (old &&& ~~~mask) ||| (v &&& mask)
  if o = 0 then (if 63 < (masked (s.word i)).toNat then s.canRefuse c i v else s.plainWrite i mask v)
  else if o = 1 || o = 2 || (8 ≤ o && o < 24) then
    if x.pend then s.canRefuse c i v
    else if o = 1 then ((s.setBuf c b { x with cfg := masked x.cfg &&& 0xFC00000F#32 }).keepBuf c b).reservedWrite i mask v
    else if o = 2 then ((s.setBuf c b { x with id := (masked (BitVec.ofNat 32 x.id)).toNat % 2 ^ 29 }).keepBuf c b).reservedWrite i mask v
    else if bDIR.get x.cfg = 0 then s
    else s.setBuf c b { x with data := putData x.data (o - 8) mask v }
  else if o = 3 then ((s.setBuf c b { x with mask := (masked (BitVec.ofNat 32 x.mask)).toNat % 2 ^ 29 }).keepBuf c b).reservedWrite i mask v
  else if o = 5 then
    let n := mask &&& v
    let s1 := if n.getLsbD 8 then s.canAck c b (n.toNat % 256) else s
    let s2 := if n.getLsbD 9 then s1.canTx c b i v else s1
    let s3 := if n.getLsbD 10 then s2.canAbort c b else s2
    s3.reservedWrite i mask v
  else s

/-- BUF_STAT of a buffer (Table 13-6). (DEDUCED: log entry 66) -/
def Buf.stat (x : Buf) : Word :=
  BitVec.ofNat 32 (bitNat x.new_ * 2 ^ 31 + bitNat x.lost * 2 ^ 29 + bitNat x.pend * 2 ^ 28 + bitNat x.aborted * 2 ^ 27
    + bitNat x.fdf * 2 ^ 26 + bitNat x.brs * 2 ^ 25 + bitNat x.esi * 2 ^ 24 + x.dlc % 16 * 2 ^ 20 + x.seq % 256 * 2 ^ 8)

/-- A read of a word of a window. -/
def State.winRead (s : State) (c w o : Nat) : Word :=
  let x := s.canBuf c (s.winSel c w)
  if o = 0 then s.word (canWin c w)
  else if o = 1 then x.cfg
  else if o = 2 then BitVec.ofNat 32 x.id
  else if o = 3 then BitVec.ofNat 32 x.mask
  else if o = 4 then x.stat
  else if 8 ≤ o && o < 24 then BitVec.ofNat 32 (leNat ((x.data.drop (4 * (o - 8))).take 4))
  else 0

/-- NEW_MAP and PEND_MAP, word `k` (Table 13-3). -/
def State.canMap (s : State) (c k : Nat) (f : Buf → Bool) : Word :=
  BitVec.ofNat 32 (bitsNat ((List.range 32).map (fun b => f (s.canBuf c (32 * k + b)))))

/-- Clock periods of a nominal bit and of a data bit. -/
def nbtClocks (v : Word) : Nat :=
  ((F.NBT_BRP 0).get v + 1) * (1 + ((F.NBT_TSEG1 0).get v + 1) + ((F.NBT_TSEG2 0).get v + 1))
def dbtClocks (v : Word) : Nat :=
  ((F.DBT_BRP 0).get v + 1) * (1 + ((F.DBT_TSEG1 0).get v + 1) + ((F.DBT_TSEG2 0).get v + 1))

/-- A nominal setting outside Table 13-1 or 10 kbit/s–1 Mbit/s (R389). -/
def nbtBad (v : Word) : Bool :=
  (F.NBT_TSEG1 0).get v == 0 || decide ((F.NBT_TSEG2 0).get v < (F.NBT_SJW 0).get v) || decide (nbtClocks v < 80) || decide (8000 < nbtClocks v)

/-- A data setting outside Table 13-1 or above 8 Mbit/s (R389). -/
def dbtBad (v : Word) : Bool := decide ((F.DBT_TSEG2 0).get v < (F.DBT_SJW 0).get v) || decide (dbtClocks v < 10)

/-- A write to a channel word that the block refuses (R389, R391, R405). -/
def State.canBad (s : State) (c o : Nat) (new : Word) : Bool :=
  let en := s.on (F.CH_CFG_EN c)
  let old := s.word (W.CH_CFG c)
  let g := fun (f : Nat → Fld) (w : Word) => (f 0).get w
  if o = 0 then
    decide (1000 < g F.CH_CFG_BOFF_HOLD new) || (en && (old ^^^ new) &&& 0x68000000#32 != 0)
      || (g F.CH_CFG_SAM new == 1 && decide (nbtClocks (s.word (W.NBT c)) < 640))
  else if o = 1 then en || nbtBad new || (g F.CH_CFG_SAM old == 1 && decide (nbtClocks new < 640))
  else if o = 2 then en || dbtBad new
  else if o = 3 then en
  else false

/-- A write to the CAN block (R389–R405). -/
def State.canWrite (s : State) (i : Nat) (mask v : Word) : State :=
  let c := (i - 0x1D00) / 0x80
  let o := (i - 0x1D00) % 0x80
  if 2 ≤ c then s.plainWrite i mask v
  else if 0x20 ≤ o then s.winWrite c ((o - 0x20) / 0x18) ((o - 0x20) % 0x18) i mask v
  else
    let new := accessWrite i (s.word i) mask v
    if s.canBad c o new then s.canRefuse c i v
    else if o = 8 then
      let n := mask &&& v
      let s1 := if n.getLsbD 1 then s.canAbortAll c else s
      (if n.getLsbD 0 then recReqOp c s1 else s1).reservedWrite i mask v
    else
      let was := s.on (F.CH_CFG_EN c)
      let s1 := s.plainWrite i mask v
      if o = 0 && s1.on (F.CH_CFG_EN c) && !was then canChannelEnableOp c s1
      else if o = 0 && !s1.on (F.CH_CFG_EN c) && was then canChannelDisableOp c s1
      else s1

/-- CAN_SETTING_WRITE (R405). -/
def canSettingWriteOp (idx : Nat) (v : Word) (s : State) : State :=
  if 0x1D00 ≤ idx && idx < 0x1E00 then s.canWrite idx 0xFFFFFFFF#32 v else s

end Sys2Proof.Machine
end

