-- ==== Sys2Proof/Machine/Veneer.lean ====
section
/-! DEFINITION. The Veneer front display (spec/14). -/

namespace Sys2Proof.Machine

def State.setVn (s : State) (x : Veneer) : State := { s with vn := x }

/-! ## Rows and buffers (R406–R408) -/

/-- All rows. -/
def allRows : List Nat := List.range 300

/-- Rows from a to b − 1. -/
def rowsOf (a b : Nat) : List Nat := (List.range (b - a)).map (· + a)

/-- Pixels of a row that shows a content: white for none. -/
def rowPixels (r : Nat) (c : List Nat) : List Byte := if c = [] then List.replicate 100 0#8 else Config.rowImage r c

/-- The 30,000 bytes of a frame buffer (R407). -/
def frameBytes (t : Tab (List Nat)) : List Byte := allRows.flatMap (fun r => rowPixels r (tget [] t r))

/-- CRC-32 of bytes, polynomial 0x04C11DB7 reflected (R417). -/
def crc32 (l : List Byte) : Word := ~~~(crcBytes 32 0xEDB88320#32 0xFFFFFFFF#32 l)

/-- VN_CRC_CUR, VN_CRC_TGT: the reference CRCs (R417). -/
def State.vnCrcCur (s : State) : Word := crc32 (frameBytes s.vn.cur)
def State.vnCrcTgt (s : State) : Word := crc32 (frameBytes s.vn.tgt)

/-- A row of TGT differs from CUR. -/
def Veneer.differs (v : Veneer) (r : Nat) : Bool :=
  let a := tget [] v.tgt r
  let b := tget [] v.cur r
  a != b && rowPixels r a != rowPixels r b

/-- Sets the content of rows in a buffer. -/
def putRows (l : List Nat) (c : List Nat) (t : Tab (List Nat)) : Tab (List Nat) :=
  l.foldl (fun t r => if c = [] then tdel r t else tput r c t) t

/-- Renders a content into rows: masked rows of a running update take it when the update ends (R411). (DESIGN CHOICE: log entry 22) -/
def Veneer.render (v : Veneer) (rows c : List Nat) : Veneer :=
  let held := if v.updating then rows.filter v.mask.contains else []
  let now := rows.filter (fun r => !held.contains r)
  { v with tgt := putRows now c v.tgt, staging := held.foldl (fun t r => tput r c t) v.staging }

/-! ## Content of the regions (R408–R410, R423) -/

/-- The characters of text words: a 0 byte ends the text, an unprintable one shows as a question mark (R409). -/
def vnText (l : List Byte) : List Nat :=
  (l.takeWhile (· != 0#8)).map (fun b => if 0x20 ≤ b.toNat && b.toNat ≤ 0x7E then b.toNat else 0x3F)

/-- The cold message of R416, as its characters. -/
def coldText : List Nat := "DISPLAY COLD - VALUES FROZEN".toList.map Char.toNat

/-- Content of region 0 tag, 1 state, 2 fault, 3 user line. In the LOADER role the state region shows LOADER and the reset cause, the fault and
user regions are blank (R423). (DESIGN CHOICE: log entry 22) -/
def State.vnContent (s : State) (region : Nat) : List Nat :=
  let loader := s.pw.phase == .loader
  if region = 0 then vnText (s.wordBytes (W.VN_TAG 0) 6)
  else if region = 1 then
    if loader then [0xFF, s.rd F.RESET_CAUSE_CAUSE]
    else [s.role, s.partnerRole, s.rd F.MOD_STAT_RESTART, s.rd F.SCH_STAT_STATE, s.rd F.OC_STAT_PHASE]
  else if region = 2 then
    if loader || !s.on F.FC_LAST_VALID then [] else [s.rd F.FC_LAST_SRC, (s.word W.FC_LAST_TLO).toNat, (s.word W.FC_LAST_THI).toNat]
  else if s.vn.cold then coldText
  else if loader then [] else vnText (s.wordBytes (W.VN_USER 0) 10)

/-- Rows of a region (Table 14-2). -/
def regionRows (region : Nat) : List Nat :=
  if region = 0 then rowsOf 0 60 else if region = 1 then rowsOf 60 120 else if region = 2 then rowsOf 120 180 else rowsOf 180 210

/-- Rows of a line of the legal area (Table 14-3). -/
def legalRows (k : Nat) : List Nat := rowsOf (210 + 18 * k) (228 + 18 * k)

/-- Renders a region from its sources (R408). -/
def State.vnRegion (s : State) (region : Nat) : State := s.setVn (s.vn.render (regionRows region) (s.vnContent region))

/-- REWRITE_PEND. -/
def State.showVn (s : State) : State := s.flag F.VN_STAT_REWRITE_PEND (s.vn.rewrite != [])

/-- REGION_RENDER (R408). -/
def regionRenderOp (region : Nat) (s : State) : State := if 4 ≤ region || !s.vn.started then s else s.vnRegion region

/-- A total as the legal area shows it (Table 14-3): volume in 0.001 m³ and mass in 0.001 t, truncated; pulses as they are. -/
def shownTotal (k v : Nat) : Nat := if k = 3 then v else v / 1000

/-- A line of the legal area: run, selected total and value; blank if none is selected. -/
def legalLine (m : Mrt) (run k : Nat) : List Nat :=
  let rp := m.rp run
  let sel := if k = 0 then rp.total1 else rp.total2
  if 5 ≤ sel then [] else [run, sel, shownTotal sel ((m.run run).total sel)]

/-- The five lines of the legal area (Table 14-3), from the Mortise alone (R410, R314). -/
def Mrt.legalLines (m : Mrt) : List (List Nat) :=
  [legalLine m 0 0, legalLine m 0 1, legalLine m 1 0, legalLine m 1 1,
    [(Config.mrtFwCrc m.fw).toNat, m.sealCnt, bitNat m.sealOpen, bitNat (m.mstate == 5)]]

/-- The legal renderer writes its lines (R410). -/
def State.vnLegal (s : State) : State :=
  match s.vn.offer with
  | none => s
  | some l => s.setVn ((List.range 5).foldl (fun (v : Veneer) k => v.render (legalRows k) (nth [] l k)) s.vn)

/-- LEGAL_DISPLAY_OFFER (spec/10 R314; R410, R422). -/
def legalDisplayOfferOp (s : State) : State :=
  if !s.mrt.powered then s
  else
    let s0 := s.emit .sealed .display (s.mrt.legal)
    if !s0.vn.started then s0
    else ((s0.setVn { s0.vn with offer := some s0.mrt.legalLines }).flag F.VN_STAT_LEGAL_SEEN true).vnLegal

/-- MORTISE_START ends with an offer of the legal content from FRAM (spec/10 R317): what it is shown on runs or not. -/
def mortiseStartShown (shown : State → State) (fwOk : Bool) (damage : List Word) (s : State) : State :=
  if s.mrt.powered && !s.mrt.starting then s else shown (mortiseStartOp fwOk damage s)

/-! ## Updates (R411–R416) -/

/-- The CRC-32 of a record's content; it stands for the CRC-32 of CUR by CUR itself. (DEDUCED: log entry 67) -/
def VnRec.crc32 (r : VnRec) : Word :=
  crc32c (leBytes 4 r.seq ++ leBytes 1 (bitNat r.inProgress) ++ leBytes 1 r.band ++ leBytes 1 r.pairs ++ r.mask.flatMap (leBytes 2)
    ++ r.cur.flatMap (fun (e : Nat × List Nat) => leBytes 2 e.1 ++ e.2.flatMap (leBytes 8)))

/-- A copy that passes its CRC. -/
def VnRec.passed (r : Option VnRec) : Option VnRec := r.filter fun (x : VnRec) => x.crc == x.crc32

/-- The newer copy of the state record that passes its CRC (R419). -/
def State.vnRec (s : State) : Option VnRec :=
  match VnRec.passed s.mram.vnRecA, VnRec.passed s.mram.vnRecB with
  | some a, some b => if a.seq < b.seq then some b else some a
  | some a, none => some a
  | none, b => b

/-- Writes the state record, alternately into its two copies (R419). (DEDUCED: log entry 67) -/
def State.vnRecord (s : State) (inProgress : Bool) : State :=
  let n := ((s.vnRec.map (·.seq)).getD 0) + 1
  let r : VnRec := ⟨n, inProgress, s.vn.mask, s.rd F.VN_STAT_BAND, s.vn.done, s.vn.cur, 0⟩
  let r1 := { r with crc := r.crc32 }
  if n % 2 = 1 then { s with mram := { s.mram with vnRecA := some r1 } } else { s with mram := { s.mram with vnRecB := some r1 } }

/-- The band of a temperature [0.01 °C] (R414). -/
def vnBand (t : Int) : Nat := if 4200 ≤ t then 7 else (t / 600).toNat

/-- The rows that the next update would drive (R411, R422): in a full clearing refresh, the part that comes next; the legal area only after the
Mortise's first offer. -/
def Veneer.nextMask (v : Veneer) : List Nat :=
  let m := allRows.filter (fun r => (v.differs r || v.rewrite.contains r) && (v.offer.isSome || decide (r < 210)))
  if v.clearing = 1 then (if v.offer.isSome then m.filter (210 ≤ ·) else [])
  else if v.clearing = 2 || v.clearing = 3 then m.filter (· < 210)
  else m

/-- The interval of R411 since the end of the last update has passed: UPD_MIN_MS, or 100 ms if a row of the legal area has changed; the second
update of a full clearing refresh waits for neither. -/
def State.vnPaused (s : State) (mask : List Nat) : Bool :=
  match s.vn.endNs with
  | none => true
  | some t =>
    let ms := if mask.any (fun r => decide (210 ≤ r) && s.vn.differs r) then 100 else s.rd F.VN_CFG_UPD_MIN_MS
    s.vn.clearing == 2 || decide (t + ms * 1000000 ≤ s.ns)

/-- VENEER_UPDATE_START (R411, R419). (DEDUCED: log entry 67) -/
def veneerUpdateStartOp (s : State) : State :=
  let mask := s.vn.nextMask
  match s.vn.temp with
  | none => s
  | some t =>
    if !s.vn.started || mask = [] || s.vn.updating || t < 0 || !s.vn.checked || s.vn.stopped || s.vn.driveBad || !s.vnPaused mask then s
    else
      let n := min 32 (max 1 (Config.wavePairs s.freeCtr))
      let s1 := (((s.drawn.wr F.VN_STAT_BAND (vnBand t)).flag F.VN_STAT_BAND_VALID true).flag F.VN_STAT_UPDATING true).startDom 14
      let s2 := s1.setVn { s1.vn with updating := true, mask := mask, total := n, done := 0, pairOn := true, late := false, tempOut := false, checked := false }
      (s2.vnRecord true).emit .display .display (vnBand t :: mask)

/-- Rows enter the rewrite mask. -/
def State.vnRewrite (s : State) (l : List Nat) : State :=
  (s.setVn { s.vn with rewrite := allRows.filter (fun r => s.vn.rewrite.contains r || l.contains r) }).showVn

/-- The update is over: staged content is rendered (R411). -/
def State.vnEnd (s : State) : State :=
  let v := s.vn
  let s1 := (s.setVn { v with
    updating := false, pairOn := false, late := false, tempOut := false, staging := [], endNs := some s.ns
    tgt := v.staging.foldl (fun t (e : Nat × List Nat) => putRows [e.1] e.2 t) v.tgt }).flag F.VN_STAT_UPDATING false
  s1.vnRecord false

/-- The update ends before its time: its rows enter the rewrite mask (R415, R424). -/
def State.vnCut (s : State) : State := ((s.vnRewrite s.vn.mask).inc F.VN_ABORT_CNT).vnEnd

/-- Duration of an update with `m` masked rows and `n` phase pairs [µs] (R413). -/
def vnUs (m n : Nat) : Nat := n * (80 * m + (300 - m))

/-- The update completes (R413). -/
def State.vnComplete (s : State) : State :=
  let v := s.vn
  let cur := v.mask.foldl (fun t r => putRows [r] (tget [] v.tgt r) t) v.cur
  let next := if v.clearing = 1 then 2 else if v.clearing = 2 then 0 else if v.clearing = 3 then 0 else v.clearing
  let s1 := (s.setVn { v with cur := cur, rewrite := v.rewrite.filter (fun r => !v.mask.contains r), clearing := next }).showVn
  let s2 : State := { s1 with mram := { s1.mram with vnMirror := cur } }
  let s3 := (((s2.bump F.VN_UPD_CNT).wr F.VN_LAST_DUR_MS (min 4095 (openRoundN (vnUs v.mask.length v.total) 1000))).wr F.VN_LAST_ROWS
    v.mask.length).wr F.VN_LAST_PAIRS v.total
  s3.vnEnd

/-- The temperature has left the latched band by more than 3 °C (R415); an invalid sensor counts as just below 0 °C (R416). -/
def State.vnTempOut (s : State) : Bool :=
  let b := s.rd F.VN_STAT_BAND
  let t := s.vn.temp.getD (-1)
  decide (t < 600 * (b : Int) - 300) || (decide (b < 7) && decide (600 * (b : Int) + 900 < t))

/-- PHASE_PAIR_COMPLETE (R413, R415, R420, R424). -/
def State.vnPair (s : State) : State :=
  if !s.vn.updating || !s.vn.pairOn then s
  else
    let s1 := s.setVn { s.vn with done := s.vn.done + 1, pairOn := false }
    if s1.vn.total ≤ s1.vn.done then s1.vnComplete
    else if s1.vn.stopped then s1
    else if s1.vn.tempOut then (s1.flag F.VN_EVT_TEMP_ABORT true).vnCut
    else if s1.vn.late then s1.vnCut
    else s1.setVn { s1.vn with pairOn := true }

/-- A condition of FS59 (R424). -/
def State.vnFault (s : State) (why : Nat) : State :=
  let s1 := s.flag F.VN_EVT_DRIVE_FAULT true
  s1.raise 59 0 (s1.word W.VN_STAT).toNat why

/-- PANEL_TEMP_SAMPLE (R414, R416): a sample [0.01 °C], or none from an invalid sensor. (DEDUCED: log entry 67) -/
def panelTempSampleOp (t : Option Int) (s : State) : State :=
  let cold := match t with | none => true | some x => decide (x < 0)
  let s1 := match t with | none => s | some x => s.wr F.VN_TEMP (natOfInt 16 x)
  let s2 := (s1.flag F.VN_STAT_COLD cold).flag F.VN_STAT_HOT_BAND (match t with | none => false | some x => decide (4800 < x))
  let bad := t.isNone
  let s3 := if bad && !s.vn.tempBad then s2.vnFault 1 else s2
  let x := t.getD (-1)
  let s4a := s3.setVn { s3.vn with temp := t, tempBad := bad }
  let s4 := if s4a.vn.updating && s4a.vnTempOut then s4a.setVn { s4a.vn with tempOut := true } else s4a
  if x < 100 && !s4.vn.cold then
    ((s4.setVn { s4.vn with cold := true }).vnRegion 3).flag F.VN_EVT_COLD_ENTRY true
  else if 300 ≤ x && s4.vn.cold then (s4.setVn { s4.vn with cold := false }).vnRegion 3
  else s4

/-- All rows are rendered afresh from their sources (R417). -/
def State.vnRenderAll (s : State) : State := ((((s.vnRegion 0).vnRegion 1).vnRegion 2).vnRegion 3).vnLegal

/-- FRAMEBUFFER_CHECK (R417): the CRCs computed afresh, against the references; the Jig inverts the check (spec/15 R450). (DEDUCED: log entry 67) -/
def framebufferCheckOp (crcCur crcTgt : Word) (s : State) : State :=
  if !s.vn.started then s
  else
    let (jig, s0) := s.jigCheck 7
    if !jig && crcCur = s0.vnCrcCur && crcTgt = s0.vnCrcTgt then s0.setVn { s0.vn with checked := true }
    else
      let s1 := (s0.setVn { s0.vn with checked := false }).flag F.VN_EVT_CRC_ERR true
      let s2 := s1.raise 58 0 crcCur.toNat crcTgt.toNat
      s2.vnRenderAll.vnRewrite allRows

/-- FULL_REFRESH_TIMER (R418). -/
def fullRefreshTimerOp (s : State) : State :=
  if !s.vn.started || s.rd F.VN_CFG_FULL_EVERY = 0 then s else s.vnRewrite allRows

/-- REFRESH (R425). -/
def refreshOp (s : State) : State := s.vnRewrite allRows

/-- VENEER_START (R422), at t3 or, in LOADER, at t1; the legal area stays as it stands until the Mortise's first offer. -/
def veneerStartOp (s : State) : State :=
  if s.vn.started then s
  else
    let v : Veneer := { s.vn with started := true, tgt := [], staging := [], updating := false, mask := [], pairOn := false, stopped := false,
                                   checked := false, late := false }
    let good := match s.vnRec with | some r => !r.inProgress && r.cur == s.mram.vnMirror | none => false
    let cut := match s.vnRec with | some r => r.inProgress | none => false
    let mirror := if good then s.mram.vnMirror else []
    let s1 := (s.setVn { v with
      clearing := if good then 0 else 1, cur := mirror, tgt := mirror.filter (fun (e : Nat × List Nat) => decide (210 ≤ e.1)) }).vnRenderAll
    if good then s1
    else if cut then (s1.flag F.VN_EVT_PWR_ABORT true).vnRewrite allRows
    else
      let s2 := s1.flag F.VN_EVT_CRC_ERR true
      (s2.raise 58 0 0 0).vnRewrite allRows

/-- LEGAL_OFFER_TIMEOUT (R422): rows 0–209 come first. -/
def legalOfferTimeoutOp (s : State) : State :=
  if s.vn.clearing = 1 && s.vn.offer.isNone && !s.vn.updating then s.setVn { s.vn with clearing := 3 } else s

/-- VENEER_UPDATE_OVERTIME (R424). -/
def veneerUpdateOvertimeOp (s : State) : State :=
  if !s.vn.updating then s else (s.setVn { s.vn with late := true }).vnFault 2

/-- VENEER_DRIVE_FAULT (R411, R424): a drive supply leaves its range or, if it is out of it, is within it again. -/
def veneerDriveFaultOp (s : State) : State :=
  if !s.vn.started then s
  else
    let s1 := s.setVn { s.vn with driveBad := !s.vn.driveBad }
    if s.vn.driveBad then s1 else s1.vnFault 3

/-- A write to the Veneer block (R409, R425, R426). -/
def State.vnWrite (s : State) (i : Nat) (mask v : Word) : State :=
  let new := accessWrite i (s.word i) mask v
  if i = W.VN_CFG && (F.VN_CFG_UPD_MIN_MS.get new < 100 || 60000 < F.VN_CFG_UPD_MIN_MS.get new || 168 < F.VN_CFG_FULL_EVERY.get new) then
    let s1 := s.flag F.VN_EVT_CFG_ERR true
    s1.raise 59 0 i v.toNat
  else
    let s1 := s.plainWrite i mask v
    if i = W.VN_CTRL && (mask &&& v).getLsbD 0 then refreshOp s1 else s1

end Sys2Proof.Machine
end

