-- ==== Sys2Proof/Machine/SysRead.lean ====
section
/-! DEFINITION. Reading a system word (spec/00 R8–R10): words whose value follows from the state of their block at the instant of the read,
and the words that hold their value. -/

namespace Sys2Proof.Machine

/-- DOM_RUN (spec/02 Table 2-12): bit n − 1 for a domain with a clock. -/
def State.domRun (s : State) : Nat := bitsNat (s.pw.doms.map (· == .run))

/-- A statistic word, saturating at 32 bits (spec/05 Table 5-7). -/
def word32 (n : Nat) : Word := BitVec.ofNat 32 (min n 0xFFFFFFFF)

/-- The statistics of the task that STAT_SEL names (spec/05 Table 5-7). -/
def State.selWord (s : State) (i : Nat) : Word :=
  let r := s.rt (s.rd F.STAT_SEL)
  if i = W.SEL_LAST_NS then word32 r.lastNs
  else if i = W.SEL_MAX_NS then word32 r.maxNs
  else if i = W.SEL_LP_NS then word32 r.lastLp
  else if i = W.SEL_DELAY_NS then word32 r.maxDelay
  else BitVec.ofNat 32 r.cycles

/-- A word of the reserve table (spec/12 Table 12-11): entry `n`, word `k`. -/
def State.rsvWord (s : State) (n k : Nat) : Word :=
  match s.ring.reserve[n]? with
  | none => 0
  | some e =>
    BitVec.ofNat 32 (if k = 0 then 2 ^ 31 + e.reason % 16 * 2 ^ 20 + e.gen % 4 * 2 ^ 18 + e.tag % 2 ^ 16
      else if k = 1 then e.mac % 2 ^ 32 else if k = 2 then e.mac / 2 ^ 32 % 2 ^ 16 else e.signals % 1024)

/-- ADM_MAP and LOST_MAP (spec/12 Table 12-11): bit n of word k is station 32 k + n. -/
def State.stnMap (s : State) (f : Nat → Fld) (k : Nat) : Word :=
  BitVec.ofNat 32 (bitsNat ((List.range 32).map (fun b => decide (32 * k + b < 240) && s.on (f (32 * k + b)))))

/-- TOP and QLEN of FC_STAT (spec/15 Table 15-12). -/
def State.fcStat (s : State) : Word :=
  let top := ((s.fc.stack.head?).map (·.cls)).getD 0
  F.FC_STAT_TOP.set (F.FC_STAT_QLEN.set (s.word W.FC_STAT) s.fc.queue.length) top

/-- A word of the I/O ring, plant and time blocks (spec/12 R385, R386). -/
def State.ringRead (s : State) (i : Nat) : Word :=
  if i = W.RING_CYCLE then BitVec.ofNat 32 s.ringCycle
  else if i = W.SIGNALS then BitVec.ofNat 32 s.signals
  else if i = W.RING_LOAD then BitVec.ofNat 32 s.ringLoad
  else if i = W.ACYC_STAT then F.ACYC_STAT_FLIGHT.set (s.word i) s.inFlight
  else if 0x1860 ≤ i && i < 0x18A0 then s.rsvWord ((i - 0x1860) / 4) ((i - 0x1860) % 4)
  else if 0x1B00 ≤ i && i < 0x1B08 then s.stnMap F.STN_STAT_ADMITTED (i - 0x1B00)
  else if 0x1B08 ≤ i && i < 0x1B10 then s.stnMap F.STN_STAT_LOST (i - 0x1B08)
  else if i = W.NOW_HI then BitVec.ofNat 32 s.ptp.nowHi
  else s.word i

/-- A word of the CAN block (spec/13 R405). -/
def State.canRead (s : State) (i : Nat) : Word :=
  let c := (i - 0x1D00) / 0x80
  let o := (i - 0x1D00) % 0x80
  if o = 0x10 || o = 0x11 then s.canMap c (o - 0x10) (·.new_)
  else if o = 0x12 || o = 0x13 then s.canMap c (o - 0x12) (·.pend)
  else if 0x20 ≤ o then s.winRead c ((o - 0x20) / 0x18) ((o - 0x20) % 0x18)
  else s.word i

/-- A word of the rings and the CRC unit but for VAL and RESULT (spec/16 R471, R474). -/
def State.rngRead (s : State) (i : Nat) : Word :=
  if i = W.RNG_FULL then s.ringsFull
  else if 0x2210 ≤ i && i < 0x2290 && i % 4 = 0 then s.ringInfo ((i - 0x2210) / 4)
  else if 0x2290 ≤ i && i < 0x22D0 && i % 8 = 0 then s.crcCfg ((i - 0x2290) / 8)
  else s.word i

/-- The value of a word whose read changes nothing. -/
def State.peek (s : State) (i : Nat) : Word :=
  if i < 0x1000 then
    (if i = W.UPTIME_S then word32 ((s.ns - s.pw.releaseNs) / 1000000000)
     else if i = W.DOM_RUN then BitVec.ofNat 32 s.domRun
     else if 0x0211 ≤ i && i ≤ 0x0215 then s.selWord i
     else if 0x0700 ≤ i && i < 0x0780 then s.loopMap (i - 0x0700) loopAlarmed
     else if 0x0780 ≤ i && i < 0x0800 then s.loopMap (i - 0x0780) loopFaulted
     else s.word i)
  else if i < 0x1800 then (if i = W.PTN_STAT then s.ptnStat else s.word i)
  else if i < 0x1D00 then s.ringRead i
  else if i < 0x1E00 then s.canRead i
  else if i < 0x1F00 then (if i = W.VN_CRC_CUR then s.vnCrcCur else if i = W.VN_CRC_TGT then s.vnCrcTgt else s.word i)
  else if i < 0x2000 then
    (if 0x1F40 ≤ i && i < 0x1F80 then tget 0 s.prot.staged (64 * s.rd F.PR_MSEL + (i - 0x1F40)) else s.word i)
  else if i = W.FC_STAT then s.fcStat
  else if 0x2200 ≤ i && i < 0x2300 then s.rngRead i
  else s.word i

/-- A read of a system word: value and state after it. NOW_LO latches NOW_HI (spec/12 R386); VAL and RESULT of the CRC unit wait for the feeds
before them (spec/16 R472). An index that no map lists reads 0 (spec/00 R9). -/
def State.sysRead (s : State) (i : Nat) : Word × State :=
  if i = W.NOW_LO then
    let t := s.timeBase
    (BitVec.ofNat 32 t, s.setPtp { s.ptp with nowHi := t / 2 ^ 32 })
  else if 0x2290 ≤ i && i < 0x22D0 && (i % 8 = 1 || i % 8 = 2) then s.crcRead ((i - 0x2290) / 8) (i % 8 == 2)
  else (s.peek i, s.blockStart i)

/-- A read by the LP (spec/02 Table 2-12; spec/11 R326): domains 2 and 5 run for it, and every read of the field I/O block in a window sees
the block as the window's first such read saw it. -/
def State.lpSysRead (s : State) (i : Nat) : Word × State :=
  if i = W.DOM_RUN then (s.peek i ||| 0x12#32, s)
  else if 0x1500 ≤ i && i < 0x1800 then
    let snap := s.lp.snap.getD s.words
    ((wfind snap i).getD (resetOf i), { s with lp := { s.lp with snap := some snap } })
  else s.sysRead i

end Sys2Proof.Machine
end

