-- ==== Sys2Proof/Machine/Operands.lean ====
section
/-! DEFINITION. The operand forms of Ebgen (spec/03 R72–R82, spec/04 R100–R107), and reading an operand in pass A: from memory with the
window's own writes, from a timer or counter instance, from a system word, or from the instruction. -/

namespace Sys2Proof.Machine

/-- Program-fault causes (spec/03 Table 3-15, spec/04 Table 4-3). -/
def cIllegalOpcode : Nat := 1
def cIllegalArea : Nat := 2
def cIllegalField : Nat := 3
def cCodeEnd : Nat := 4
def cOperandRange : Nat := 5
def cJumpRange : Nat := 6
def cNestOverflow : Nat := 7
def cNestUnderflow : Nat := 8
def cNestOpen : Nat := 9
def cAlign : Nat := 10
def cCallOverflow : Nat := 11
def cCallUnderflow : Nat := 12
def cInstanceKind : Nat := 13
def cServiceRange : Nat := 14

/-- What an instruction of pass A sees: the machine, the running task, its registers and call stack. -/
structure LpCtx where
  s : State
  t : Nat
  r : Regs
  calls : List (Nat × BitVec 16)

/-- A bit operand (spec/03 Table 3-5). -/
inductive BitTgt where
  | mem (l : Loc) (bit : Nat)
  | sys (idx bit : Nat)
  | const (b : Bool)
  | inst (area n : Nat)
  deriving DecidableEq, Repr

/-- A word operand (spec/04 Table 4-1): `width` in bytes. -/
inductive WordTgt where
  | mem (l : Loc) (width : Nat) (sgn : Bool)
  | sys (idx : Nat) (sgn : Bool)
  | inst (area n field : Nat)
  | const (v : Word64)
  deriving DecidableEq, Repr

/-- Areas of the operand rules. -/
def bitReadAreas : List Nat := [0, 1, 2, 3, 4, 5, 6, 7, 8]
def storeAreas : List Nat := [1, 2, 3, 4, 7]
def edgeAreas : List Nat := [2, 3, 4]

/-- Bits [hi:lo] of an operand field. -/
def opBits (o : BitVec 22) (hi lo : Nat) : Nat := o.toNat / 2 ^ lo % 2 ^ (hi - lo + 1)

/-- Whether the operand has a second word by X of area D or, in word forms, by L of area K (R82, R102). -/
def Opnd.extBit (o : Opnd) : Bool := o.area == 3 && opBits o.opd 21 21 == 1
def Opnd.extWord (o : Opnd) : Bool := (o.area == 3 || o.area == 8) && opBits o.opd 21 21 == 1

/-- The BLOCK of a second word, or the cause it meets (R82). -/
def blockWord (w : Word) : Except Nat Nat :=
  if w.toNat / 2 ^ 26 ≠ 63 ∨ w.toNat / 2 ^ 16 % 2 ^ 10 ≠ 0 ∨ w.toNat % 2 ^ 16 = 0 then .error cIllegalField else .ok (w.toNat % 2 ^ 16)

/-- The selector of a memory operand: the block of D, the task of L (R73, R82). `need2` says the second word lies within the code. -/
def selOf (c : LpCtx) (area : Nat) (x : Bool) (w2 : Word) : Except Nat Nat :=
  if area = 3 then
    (if x then (if c.s.codeLen ≤ c.r.ip.toNat + 1 then .error cCodeEnd else blockWord w2) else .ok c.r.dsel.toNat)
  else .ok (if area = 4 then c.t else 0)

/-- A bit operand resolved, or the cause it meets, in the order of Table 3-15 (R72, R73, R81, R82, R97). -/
def bitOperand (c : LpCtx) (o : Opnd) (areas : List Nat) : Except Nat BitTgt :=
  let a := o.area.toNat
  if !areas.contains a then .error cIllegalArea
  else if a = 8 then (if opBits o.opd 21 1 ≠ 0 then .error cIllegalField else .ok (.const (opBits o.opd 0 0 == 1)))
  else if a = 7 then (if opBits o.opd 21 19 ≠ 0 then .error cIllegalField else .ok (.sys (opBits o.opd 18 5) (opBits o.opd 4 0)))
  else if a = 5 || a = 6 then (if opBits o.opd 21 13 ≠ 0 then .error cIllegalField else .ok (.inst a (opBits o.opd 12 0)))
  else if (if a = 3 then opBits o.opd 20 19 else opBits o.opd 21 19) ≠ 0 then .error cIllegalField
  else match selOf c a (opBits o.opd 21 21 == 1) o.w2 with
    | .error e => .error e
    | .ok sel =>
      let off := opBits o.opd 18 3
      match c.s.areaLen a sel with
      | none => .error cOperandRange
      | some n => if off < n then .ok (.mem ⟨a, sel, off⟩ (opBits o.opd 2 0)) else .error cOperandRange

/-- The immediate of a K operand (R102). -/
def immediate (c : LpCtx) (o : Opnd) : Except Nat WordTgt :=
  let lo := opBits o.opd 20 0
  if opBits o.opd 21 21 = 0 then .ok (.const ((BitVec.ofNat 21 lo).signExtend 64))
  else if c.s.codeLen ≤ c.r.ip.toNat + 1 then .error cCodeEnd
  else if o.w2.toNat / 2 ^ 26 ≠ 63 then .error cIllegalField
  else .ok (.const ((BitVec.ofNat 47 (o.w2.toNat % 2 ^ 26 * 2 ^ 21 + lo)).signExtend 64))

/-- A word operand resolved, or the cause it meets (R100–R104, R107). `noSgn` is true for STA and STB (R101). (DESIGN CHOICE: log entry 79) -/
def wordOperand (c : LpCtx) (o : Opnd) (areas : List Nat) (noSgn : Bool) : Except Nat WordTgt :=
  let a := o.area.toNat
  let width := opBits o.opd 20 19
  let sgn := opBits o.opd 18 18 == 1
  if !areas.contains a then .error cIllegalArea
  else if a = 8 then immediate c o
  else if noSgn && sgn then .error cIllegalField
  else if a = 7 then
    (if opBits o.opd 21 21 ≠ 0 || width ≠ 2 || opBits o.opd 17 14 ≠ 0 then .error cIllegalField else .ok (.sys (opBits o.opd 13 0) sgn))
  else if a = 5 || a = 6 then
    (if opBits o.opd 21 21 ≠ 0 || width ≠ 3 || opBits o.opd 18 16 ≠ 0 || 3 < opBits o.opd 15 13 then .error cIllegalField
     else .ok (.inst a (opBits o.opd 12 0) (opBits o.opd 15 13)))
  else if opBits o.opd 16 16 ≠ 0 || (a ≠ 3 && opBits o.opd 21 21 ≠ 0) then .error cIllegalField
  else match selOf c a (opBits o.opd 21 21 == 1) o.w2 with
    | .error e => .error e
    | .ok sel =>
      let bytes := 2 ^ width
      let eff : Int := (opBits o.opd 15 0 : Int) + (if opBits o.opd 17 17 = 1 then c.r.wb.toInt else 0)
      if eff < 0 ∨ 65535 < eff then .error cOperandRange
      else match c.s.areaLen a sel with
        | none => .error cOperandRange
        | some n =>
          if n < eff.toNat + bytes then .error cOperandRange
          else if eff.toNat % bytes ≠ 0 then .error cAlign
          else .ok (.mem ⟨a, sel, eff.toNat⟩ bytes sgn)

/-- +1 of an indexed operand (spec/04 Table 4-20). -/
def Opnd.indexed (o : Opnd) : Bool := decide (o.area.toNat < 5) && opBits o.opd 17 17 == 1

/-! ## Reading in pass A -/

/-- A byte as the window's own earlier writes leave it (R74; spec/06 R173). -/
def logByte (l : Loc) (b : Byte) : LogEntry → Byte
  | .memBit m i v => if m = l then setBit b i v else b
  | .mem m w v => if m.area = l.area && m.sel = l.sel && m.off ≤ l.off && l.off < m.off + w
      then (v >>> (8 * (l.off - m.off))).setWidth 8 else b
  | _ => b

/-- The log of the open window. -/
def State.winLog (s : State) : List LogEntry := (s.lp.win.map (·.log)).getD []

/-- The byte that the running task reads at a location. -/
def State.lpByte (s : State) (l : Loc) : Byte := s.winLog.foldl (logByte l) (s.byte l)

/-- The `n` bytes that the running task reads from a location on. -/
def State.lpBytes (s : State) (l : Loc) : Nat → List Byte
  | 0 => []
  | n + 1 => s.lpByte l :: s.lpBytes ⟨l.area, l.sel, l.off + 1⟩ n

/-- A checked read of `n` bytes by the LP: a denied one gives 0 (spec/15 R431). -/
def State.lpRead (s : State) (t : Nat) (l : Loc) (n : Nat) (bit : Bool) : Nat × State :=
  let (ok, s1) := s.access (memAccess 0 t false l n bit)
  (if ok then leNat (s.lpBytes l n) else 0, s1)

/-- The outcome of a service read: its value, or the pass waits for the forwarded one (spec/09 R258). -/
inductive Svc where
  | value (v : Nat) (s : State)
  | wait (s : State)

/-- The value that the active forwarded for the next service read of this window, if one is left (spec/09 R258, R270). -/
def State.svcTake (s : State) (t : Nat) : Option (Nat × State) :=
  match s.lp.services.find? (fun e => e.1 == t && e.2.1 == (s.rt t).wins) with
  | some (_, w, v :: rest) =>
    let left := s.lp.services.map (fun e => if e.1 == t && e.2.1 == w then (t, w, rest) else e)
    some (v, { s with lp := { s.lp with services := left } })
  | _ => none

/-- A service read: the forwarded value while it lasts, a wait while shadowing, else the module's own (spec/09 R258, R270; spec/06 R172). (DESIGN CHOICE: log entry 36) -/
def State.svc (s : State) (t : Nat) (own : State → Nat × State) : Svc :=
  match s.svcTake t with
  | some (v, s1) => .value v s1
  | none => if s.shadowing then .wait s else let (v, s1) := own s; .value v s1

/-- The access of an instruction starts a stopped domain and waits for it (spec/02 R44). (DESIGN CHOICE: log entry 27) -/
def State.domWait (s : State) (d : Nat) : State := let s1 := s.startDom d; { s1 with lp := { s1.lp with waiting := some d } }

/-- A service read that a clock domain must run for, unless its value is a forwarded one. -/
def State.svcIn (s : State) (t : Nat) (d : Option Nat) (own : State → Nat × State) : Svc :=
  match d with
  | none => s.svc t own
  | some d => if s.shadowing || (s.svcTake t).isSome || s.dom d == .run then s.svc t own else .wait (s.domWait d)

/-- A checked read of a system word in pass A (R78, R96; spec/04 R106). -/
def State.lpSys (s : State) (t i : Nat) (bit : Bool) : Svc :=
  let (ok, s1) := s.access (sysAccess 0 t false i bit)
  if ok then s1.svcIn t (blockDomain i) (fun s => let (v, s2) := s.lpSysRead i; (v.toNat, s2)) else .value 0 s1

/-- The result of reading an operand: value, state, addition to pass A's cycles, service values; or the pass waits. -/
inductive Got (α : Type) where
  | got (v : α) (s : State) (extra : Nat) (svc : List Nat)
  | wait (s : State)

/-- Location of an instance's first byte: instance n lies at byte 32 × n (spec/04 R117, R122). -/
def instLoc (area n off : Nat) : Loc := ⟨area, 0, 32 * n + off⟩

/-- Offset of STATE in an instance (Tables 4-7, 4-10). -/
def stateOff (area : Nat) : Nat := if area = 5 then 30 else 24

/-- Reads a bit operand (R73–R78). -/
def readBit (c : LpCtx) : BitTgt → Got Bool
  | .const b => .got b c.s 0 []
  | .mem l i => let (v, s) := c.s.lpRead c.t l 1 true; .got (v.testBit i) s 0 []
  | .inst a n => let (v, s) := c.s.lpRead c.t (instLoc a n (stateOff a)) 1 true; .got (v.testBit 0) s 0 []
  | .sys i b => match c.s.lpSys c.t i true with
    | .value v s => .got (v.testBit b) s 11 [v]
    | .wait s => .wait s

/-- `n` bytes' value extended to 64 bits (spec/04 R101). -/
def extend (bytes : Nat) (sgn : Bool) (v : Nat) : Word64 :=
  if sgn then (BitVec.ofNat (8 * bytes) v).signExtend 64 else BitVec.ofNat 64 v

/-- Offset and size of a FIELD of an instance (spec/04 Table 4-2). -/
def instField (area f : Nat) : Nat × Nat :=
  if f = 0 then (8, 8) else if f = 1 then (16, 8) else if f = 2 then (if area = 5 then (30, 2) else (24, 8)) else (0, 8)

/-- Reads a word operand (spec/04 R101–R107). -/
def readWord (c : LpCtx) : WordTgt → Got Word64
  | .const v => .got v c.s 0 []
  | .mem l w sgn => let (v, s) := c.s.lpRead c.t l w false; .got (extend w sgn v) s 0 []
  | .inst a n f =>
    let (off, size) := instField a f
    let (ok, s) := c.s.access ⟨0, false, a, 0, n, n, 8, c.t⟩
    .got (if ok then BitVec.ofNat 64 (leNat (c.s.lpBytes (instLoc a n off) size)) else 0) s 0 []
  | .sys i sgn => match c.s.lpSys c.t i false with
    | .value v s => .got (extend 4 sgn v) s 11 [v]
    | .wait s => .wait s

end Sys2Proof.Machine
end

