-- ==== Sys2Proof/Machine/Lp.lean ====
section
/-! DEFINITION. One instruction of the logic processor in the open compare window (spec/03, spec/04, spec/06 R174–R179): its checks, its
effect on pass A's registers, its log entries and its cycles. -/

namespace Sys2Proof.Machine

/-- What an instruction does that meets no fault: registers and call stack after it, log entries, path items, bytes for the signature,
cycles of one pass, additions of pass A, service values. -/
structure Eff where
  s : State
  r : Regs
  calls : List (Nat × BitVec 16)
  log : List LogEntry := []
  path : List Nat := []
  feed : List Byte := []
  cyc : Nat := 1
  extra : Nat := 0
  svc : List Nat := []
  /-- The window closes after the instruction (R174). -/
  close : Option Close := none

/-- The result of an instruction in pass A: an effect, a program fault (with what its denied reads have reported), or a wait for a
forwarded value (spec/09 R258). -/
inductive LpRes where
  | ok (e : Eff)
  | fault (cause : Nat) (s : State)
  | wait (s : State)

/-- The effect of doing nothing in `n` words. A version of exactly 2^22 words has no index after its last one: the 22-bit IP is 0 again there, and
no CODE_END is met. (DESIGN CHOICE: log entry 79) -/
def LpCtx.eff (c : LpCtx) (n : Nat) : Eff := { s := c.s, r := { c.r with ip := c.r.ip + BitVec.ofNat 22 n }, calls := c.calls }

/-! ## The register signature (spec/06 R497) -/

def feedBA (b : Bool) : List Byte := [1, BitVec.ofNat 8 (bitNat b)]
def feedNS (n : Nat) : List Byte := [2, BitVec.ofNat 8 n]
def feedWA (v : Word64) : List Byte := 3 :: leBytes 8 v.toNat
def feedWB (v : Word64) : List Byte := 4 :: leBytes 8 v.toNat
def feedFL (r : Regs) : List Byte := [5, BitVec.ofNat 8 r.fl]
def feedDSEL (v : BitVec 16) : List Byte := 6 :: leBytes 2 v.toNat

/-- BA written. -/
def Eff.setBA (e : Eff) (b : Bool) : Eff := { e with r := { e.r with ba := b }, feed := e.feed ++ feedBA b }
/-- WA written. -/
def Eff.setWA (e : Eff) (v : Word64) : Eff := { e with r := { e.r with wa := v }, feed := e.feed ++ feedWA v }
/-- WB written. -/
def Eff.setWB (e : Eff) (v : Word64) : Eff := { e with r := { e.r with wb := v }, feed := e.feed ++ feedWB v }
/-- WA and the flags written by a word operation. (DEDUCED: log entry 35) -/
def Eff.setAlu (e : Eff) (x : Alu) : Eff :=
  let r := e.r.alu x
  { e with r := r, feed := e.feed ++ feedWA r.wa ++ feedFL r }
/-- SOV set if `b`. -/
def Eff.setSov (e : Eff) (b : Bool) : Eff :=
  if b then (let r := { e.r with sov := true }; { e with r := r, feed := e.feed ++ feedFL r }) else e
/-- DSEL written. -/
def Eff.setDsel (e : Eff) (v : BitVec 16) : Eff := { e with r := { e.r with dsel := v }, feed := e.feed ++ feedDSEL v }

/-! ## The commit buffer (R176–R179) -/

/-- Commit-buffer entries of a log entry (Table 6-3): an RPOST takes four descriptor entries and the producer-index advance. -/
def LogEntry.size : LogEntry → Nat
  | .rpost .. => 5
  | _ => 1

/-- Entries of a list of log entries. -/
def logSize (l : List LogEntry) : Nat := (l.map (·.size)).foldl (· + ·) 0

/-! ## Executing an instruction -/

/-- The task whose window takes the next instruction: the LP runs it, is not stopped or halted (but for a single step), the task waits
neither in PSYNC nor at its output update point, and its window is not closed. -/
def State.lpTask (s : State) : Option Nat :=
  match s.sch.running with
  | none => none
  | some t =>
    if s.lp.stopped || (s.lp.halted && !s.lp.stepping) || (s.rt t).waitEpoch.isSome || (s.rt t).ending then none
    else match s.lp.win with
      | some w => if w.closed.isSome then none else some t
      | none => some t

/-- A window that begins at the task's next instruction (R174). -/
def freshWin (t : Nat) (r : TaskRt) : Win :=
  { task := t, first := r.regs.ip.toNat, count := 0, cycles := 0, extraA := 0, path := [], sig := crc64Start, log := [], entries := 0,
    closed := none, fault := none, services := [] }

/-- The open window, begun if none stands. -/
def State.curWin (s : State) (t : Nat) : Win := s.lp.win.getD (freshWin t (s.rt t))

/-- Stores a window. -/
def State.putWin (s : State) (w : Win) : State := { s with lp := { s.lp with win := some w } }

/-- The instruction has waited for no domain, or no longer does. -/
def State.waited (s : State) : State := { s with lp := { s.lp with waiting := none, waitNs := 0 } }

/-- Closes the window after an instruction for the first reason of R174 that holds. -/
def closeReason (lp : Lp) (w : Win) (e : Eff) (at_ : Nat) : Option Close :=
  if e.close.isSome then e.close
  else if lp.stepping || lp.breakpoints.contains at_ then some .breakpoint
  else if 64 ≤ w.count + 1 then some .full
  else none

/-- The window after an instruction with its effect; pass A has also waited for a domain's start (Table 3-14). -/
def winAfter (lp : Lp) (w : Win) (e : Eff) (at_ : Nat) : Win :=
  { w with
    count := w.count + 1, cycles := w.cycles + e.cyc, extraA := w.extraA + e.extra + lp.waitNs, path := w.path ++ e.path
    sig := crc64Feed w.sig e.feed, log := w.log ++ e.log, entries := w.entries + logSize e.log
    services := w.services ++ e.svc, closed := closeReason lp w e at_ }

/-- The machine after an instruction of task `t` with its effect. -/
def State.applyEff (s : State) (t : Nat) (w : Win) (e : Eff) : State :=
  ((e.s.setRt t { e.s.rt t with regs := e.r, calls := e.calls }).putWin (winAfter s.lp w e (s.rt t).regs.ip.toNat)).waited

/-- The machine after an instruction that meets a program fault: nothing of the instruction but its cycles and its denied reads' reports
(R97, R99; R96: base count, +1 for an extended form). No table gives a base count to a CODE_END: it takes that of the instruction. (DESIGN CHOICE:
log entries 34, 79) (DESIGN CHOICE: log entries 34, 79) -/
def State.applyFault (s : State) (t : Nat) (w : Win) (cause cyc : Nat) : State :=
  s.putWin { w with cycles := w.cycles + cyc, closed := some .fault, fault := some (cause, (s.rt t).regs.ip.toNat) }

/-- One instruction: `base` its base cycles with the +1 of an extended form, `need` the most commit-buffer entries it can need (R179),
`f` its effect. Without a task that can take it, it is turned away. (DESIGN CHOICE, DEDUCED: log entries 1, 6, 33, 34) -/
def lpInstr (base need : Nat) (f : LpCtx → LpRes) (s : State) : State :=
  match s.lpTask with
  | none => s
  | some t =>
    let w := s.curWin t
    let r := (s.rt t).regs
    if 256 < w.entries + need then s.putWin { w with closed := some .buffer }
    else if s.codeLen ≤ r.ip.toNat then s.applyFault t w cCodeEnd base
    else match f ⟨s, t, r, (s.rt t).calls⟩ with
      | .ok e => s.applyEff t w e
      | .fault c s1 => s1.applyFault t w c base
      | .wait s1 => s1

/-! ## Shapes of instructions -/

/-- Words of a bit or word operand. (DEDUCED: log entry 33) -/
def Opnd.words (o : Opnd) (word : Bool) : Nat := if (if word then o.extWord else o.extBit) then 2 else 1

/-- An instruction with a bit operand that it reads (R84, R85). -/
def withBit (o : Opnd) (f : LpCtx → Bool → Eff → LpRes) (c : LpCtx) : LpRes :=
  match bitOperand c o bitReadAreas with
  | .error e => .fault e c.s
  | .ok b => match readBit c b with
    | .wait s => .wait s
    | .got v s x sv => f c v { (c.eff (o.words false)) with s := s, cyc := o.words false, extra := x, svc := sv }

/-- LD to XORN: BA from BA and the operand (Table 3-8). -/
def combine (f : Bool → Bool → Bool) (o : Opnd) : State → State :=
  lpInstr (o.words false) 0 (withBit o fun c b e => .ok (e.setBA (f c.r.ba b)))

/-- AND( to XORN(: push (BA, NEG, OP), BA from the operand (Table 3-10); NEST_OVERFLOW at depth 16 (R86). -/
def nestOpen (neg : Bool) (op : Nat) (o : Opnd) : State → State :=
  lpInstr (o.words false) 0 fun c =>
    match bitOperand c o bitReadAreas with
    | .error e => .fault e c.s
    | .ok _ =>
      if 16 ≤ c.r.ns.length then .fault cNestOverflow c.s
      else withBit o (fun c b e =>
        let entry := BitVec.ofNat 4 (8 * bitNat c.r.ba + 4 * bitNat neg + op)
        .ok ({ e with r := { e.r with ns := entry :: e.r.ns }, feed := e.feed ++ feedNS entry.toNat }.setBA b)) c

/-- An OP 0x13 function; `conds` if it takes a condition code (R89, R90). -/
def fn13 (conds : Bool) (f : LpCtx → Eff → LpRes) (o : FnOpnd) : State → State :=
  lpInstr 1 0 fun c =>
    if o.area ≠ 0 then .fault cIllegalArea c.s
    else if o.rest ≠ 0 ∨ (if conds then 10 ≤ o.cond.toNat else o.cond ≠ 0) then .fault cIllegalField c.s
    else f c (c.eff 1)

/-- LDC, ANDC, ORC: BA from BA and a condition (R89, R90). -/
def fnCond (f : Bool → Bool → Bool) (o : FnOpnd) : State → State :=
  fn13 true (fun c e => .ok (e.setBA (f c.r.ba (c.r.cond o.cond.toNat)))) o

/-- ")" (R85): NEST_UNDERFLOW at depth 0. -/
def closeBracket (c : LpCtx) (e : Eff) : LpRes :=
  match c.r.ns with
  | [] => .fault cNestUnderflow c.s
  | n :: rest =>
    let r := c.r.ba ^^ n.getLsbD 2
    let saved := n.getLsbD 3
    let op := n.toNat % 4
    let ba := if op = 1 then saved && r else if op = 2 then saved || r else saved ^^ r
    .ok ({ e with r := { e.r with ns := rest }, feed := e.feed ++ feedNS 0xFF }.setBA ba)

/-- A store of one bit (R91, R92): `w` gives the bit to write, or none. -/
def storeBit (w : Bool → Option Bool) (o : Opnd) : State → State :=
  lpInstr (o.words false) 1 fun c =>
    match bitOperand c o storeAreas with
    | .error e => .fault e c.s
    | .ok b =>
      let e := { (c.eff (o.words false)) with cyc := o.words false }
      match w c.r.ba, b with
      | some v, .mem l i => .ok { e with log := [.memBit l i v] }
      | some v, .sys i j => .ok { e with log := [.sysBit i j v] }
      | _, _ => .ok e

/-- A jump to `t` (R93, R94), a call or an end: base cycles 3 if taken. -/
def jump (taken : Bool → Bool) (area : BitVec 4) (t : BitVec 22) : State → State :=
  fun s => lpInstr (if (match s.lpTask with | some k => taken (s.rt k).regs.ba | none => false) then 3 else 1) 0 (fun c =>
    if area ≠ 0 then .fault cIllegalArea c.s
    else if taken c.r.ba then
      (if c.s.codeLen ≤ t.toNat then .fault cJumpRange c.s
       else let e := c.eff 1; .ok { e with r := { e.r with ip := t }, path := [c.r.ip.toNat], cyc := 3 })
    else .ok (c.eff 1)) s

/-- An instruction with a word operand that it reads (R110). -/
def withWord (cyc : Nat) (o : Opnd) (f : LpCtx → Word64 → Eff → LpRes) : State → State :=
  let base := cyc + (o.words true - 1)
  lpInstr base 0 fun c =>
    match wordOperand c o bitReadAreas false with
    | .error e => .fault e c.s
    | .ok m => match readWord c m with
      | .wait s => .wait s
      | .got v s x sv =>
        f c v { (c.eff (o.words true)) with s := s, cyc := base + bitNat o.indexed, extra := x, svc := sv }

/-- An arithmetic instruction with a word operand: WA and flags (Table 4-4). -/
def alu (cyc : Nat) (f : Word64 → Word64 → Alu) (o : Opnd) : State → State :=
  withWord cyc o fun c m e => .ok (e.setAlu (f c.r.wa m))

/-- A comparison's flags written. -/
def Eff.setCmp (e : Eff) (m : Word64) : Eff := let r := e.r.cmp m; { e with r := r, feed := e.feed ++ feedFL r }

/-- FL written. -/
def Eff.setFl (e : Eff) (r : Regs) : Eff := { e with r := { e.r with sov := r.sov, nf := r.nf, zf := r.zf, cf := r.cf }, feed := e.feed ++ feedFL r }

/-- A division's results written: quotient and flags, remainder in WB (R113). -/
def Eff.setDiv (e : Eff) (x : Alu × Word64) : Eff :=
  let r := { e.r.alu x.1 with wb := x.2 }
  { e with r := r, feed := e.feed ++ feedWA r.wa ++ feedWB r.wb ++ feedFL r }

/-- A word store (R105, R112): `v` gives the value and whether SOV is set, from the register, the width in bytes and SGN. -/
def storeWord (noSgn : Bool) (v : Regs → Nat → Bool → Word64 × Bool) (o : Opnd) : State → State :=
  lpInstr (o.words true) 1 fun c =>
    match wordOperand c o storeAreas noSgn with
    | .error e => .fault e c.s
    | .ok m =>
      let e := { (c.eff (o.words true)) with cyc := o.words true + bitNat o.indexed }
      match m with
      | .mem l w sgn =>
        let (x, clip) := v c.r w sgn
        .ok ({ e with log := [.mem l w (BitVec.ofNat 64 (x.toNat % 2 ^ (8 * w)))] }.setSov clip)
      | .sys i sgn =>
        let (x, clip) := v c.r 4 sgn
        .ok ({ e with log := [.sysWord i (x.setWidth 32)] }.setSov clip)
      | _ => .ok e

/-- WA clamped to a width of `w` bytes, and whether it was clipped (R112). -/
def clampWidth (r : Regs) (w : Nat) (sgn : Bool) : Word64 × Bool :=
  let x := if sgn then clampInt (-(2 ^ (8 * w - 1))) (2 ^ (8 * w - 1) - 1) r.wa.toInt else clampInt 0 (2 ^ (8 * w) - 1) r.wa.toInt
  (BitVec.ofInt 64 x, x != r.wa.toInt)

/-- An OP 0x2B or OP 0x19 function: AREA 0, the argument at most `lim` (0 for a function that takes none) (R114, R129). -/
def fnArg (cyc need lim : Nat) (f : LpCtx → Nat → Eff → LpRes) (o : ArgOpnd) : State → State :=
  lpInstr cyc need fun c =>
    if o.area ≠ 0 then .fault cIllegalArea c.s
    else if lim < o.arg.toNat then .fault cIllegalField c.s
    else f c o.arg.toNat { (c.eff 1) with cyc := cyc }

/-- A register function that writes WA and flags. -/
def regAlu (cyc lim : Nat) (f : Regs → Nat → Alu) : ArgOpnd → State → State :=
  fnArg cyc 0 lim fun c n e => .ok (e.setAlu (f c.r n))

/-- A register function on the registers alone. -/
def regFn (f : LpCtx → Eff → Eff) : ArgOpnd → State → State := fnArg 1 0 0 fun c _ e => .ok (f c e)

/-- DIVB and DIVBS (R113, R114). -/
def regDiv (sat : Bool) : ArgOpnd → State → State :=
  fnArg 24 0 0 fun c _ e => .ok (e.setDiv (divide sat c.r.wa c.r.wb))

end Sys2Proof.Machine
end

