-- ==== Sys2Proof/Machine/Instances.lean ====
section
/-! DEFINITION. Timer and counter instances and edge memories (spec/04 R116–R124). -/

namespace Sys2Proof.Machine

/-- A timer instance (spec/04 Tables 4-7, 4-8). -/
structure TimerI where
  et : Nat
  pt : Nat
  last : Nat
  psat : Bool
  run : Bool
  inp : Bool
  q : Bool
  kind : Nat
  deriving DecidableEq, Repr

/-- STATE of a timer (Table 4-8). -/
def TimerI.state (x : TimerI) : Nat := x.kind * 4096 + 8 * bitNat x.psat + 4 * bitNat x.run + 2 * bitNat x.inp + bitNat x.q

/-- A timer instance from its 32 bytes. -/
def timerOf (l : List Byte) : TimerI :=
  let st := leNat (l.drop 30)
  { et := leNat ((l.drop 8).take 8), pt := leNat ((l.drop 16).take 8), last := leNat ((l.drop 24).take 6),
    psat := st.testBit 3, run := st.testBit 2, inp := st.testBit 1, q := st.testBit 0, kind := st / 4096 % 16 }

/-- A counter instance (spec/04 Tables 4-10, 4-11). -/
structure CounterI where
  cv : Int
  pv : Int
  ovf : Bool
  qd : Bool
  qu : Bool
  cd : Bool
  cu : Bool
  q : Bool
  kind : Nat
  deriving DecidableEq, Repr

/-- STATE of a counter (Table 4-11). -/
def CounterI.state (x : CounterI) : Nat :=
  x.kind * 4096 + 32 * bitNat x.ovf + 16 * bitNat x.qd + 8 * bitNat x.qu + 4 * bitNat x.cd + 2 * bitNat x.cu + bitNat x.q

/-- A signed 64-bit number from bytes. -/
def int64 (l : List Byte) : Int := (BitVec.ofNat 64 (leNat l)).toInt

/-- A counter instance from its 32 bytes. -/
def counterOf (l : List Byte) : CounterI :=
  let st := leNat (l.drop 24)
  { cv := int64 ((l.drop 8).take 8), pv := int64 ((l.drop 16).take 8), ovf := st.testBit 5, qd := st.testBit 4, qu := st.testBit 3,
    cd := st.testBit 2, cu := st.testBit 1, q := st.testBit 0, kind := st / 4096 % 16 }

/-- 2^63 − 1, the largest ET and PT. -/
def timeMax : Nat := 2 ^ 63 - 1

/-- The common part of TON, TOF and TP (R118): LAST, PT, PSAT; `d` is the time since the last evaluation. -/
def timerCommon (x : TimerI) (tt : Nat) (wa : Word64) : TimerI × Nat :=
  let d := (tt + 2 ^ 48 - x.last % 2 ^ 48) % 2 ^ 48
  let pt := if wa.toInt < 0 then 0 else wa.toNat
  ({ x with last := tt % 2 ^ 48, pt := pt, psat := decide (wa.toInt < 0) }, d)

/-- Elapsed time plus `d`, at most 2^63 − 1. -/
def etAdd (x : TimerI) (d : Nat) : Nat := if x.et + d ≤ timeMax then x.et + d else timeMax

/-- TON (R118). -/
def stepTon (x : TimerI) (d : Nat) (inp : Bool) : TimerI :=
  if inp then
    let et := if x.inp then etAdd x d else 0
    { x with et := et, q := decide (x.pt ≤ et), inp := inp }
  else { x with et := 0, q := false, inp := inp }

/-- TOF (R118). -/
def stepTof (x : TimerI) (d : Nat) (inp : Bool) : TimerI :=
  if inp then { x with et := 0, q := true, run := false, inp := inp }
  else
    let y := if x.inp then { x with et := 0, run := x.q } else if x.run then { x with et := etAdd x d } else x
    let z := if y.run && decide (y.pt ≤ y.et) then { y with q := false, run := false } else y
    { z with inp := inp }

/-- TP (R118). -/
def stepTp (x : TimerI) (d : Nat) (inp : Bool) : TimerI :=
  let y :=
    if x.run then
      let et := etAdd x d
      if x.pt ≤ et then { x with et := et, q := false, run := false } else { x with et := et }
    else if inp && !x.inp then
      if x.pt = 0 then { x with et := 0, q := false, run := false } else { x with et := 0, q := true, run := true }
    else if !inp then { x with et := 0 }
    else x
  { y with inp := inp }

/-- The instance number of a timer or counter instruction, or the cause it meets (R81, R118, R123). -/
def instOperand (want : Nat) (area : BitVec 4) (opd : BitVec 22) : Except Nat Nat :=
  if area.toNat ≠ want then .error cIllegalArea
  else if opBits opd 21 13 ≠ 0 then .error cIllegalField
  else .ok (opBits opd 12 0)

/-- Reads an instance in pass A: all 32 bytes; a denied read gives zeros, so KIND 0 (spec/15 R431). -/
def LpCtx.instBytes (c : LpCtx) (area n : Nat) : List Byte × State :=
  let (ok, s) := c.s.access ⟨0, false, area, 0, n, n, 32, c.t⟩
  (if ok then c.s.lpBytes (instLoc area n 0) 32 else List.replicate 32 0, s)

/-- A log entry of `w` bytes of an instance. -/
def instEntry (area n off w v : Nat) : LogEntry := .mem (instLoc area n off) w (BitVec.ofNat 64 v)

/-- TON, TOF, TP on an instance of KIND `kind` (R118, R120): four entries ET, PT, LAST, STATE (Table 6-3). -/
def timerInstr (kind : Nat) (f : TimerI → Nat → Bool → TimerI) (area : BitVec 4) (opd : BitVec 22) : State → State :=
  lpInstr 4 4 fun c =>
    match instOperand 5 area opd with
    | .error e => .fault e c.s
    | .ok n =>
      let (bs, s) := c.instBytes 5 n
      let x := timerOf bs
      if x.kind ≠ kind then .fault cInstanceKind s
      else
        let (y, d) := timerCommon x (c.s.rt c.t).tt.toNat c.r.wa
        let z := f y d c.r.ba
        let log := [instEntry 5 n 8 8 z.et, instEntry 5 n 16 8 z.pt, instEntry 5 n 24 6 z.last, instEntry 5 n 30 2 z.state]
        let e := { (c.eff 1) with s := s, cyc := 4, log := log }
        .ok ((e.setBA z.q).setSov z.psat)

/-- TRST (R119): with BA = 1 three entries ET, LAST, STATE; PT and PSAT stay. -/
def timerReset (area : BitVec 4) (opd : BitVec 22) : State → State :=
  lpInstr 2 3 fun c =>
    match instOperand 5 area opd with
    | .error e => .fault e c.s
    | .ok n =>
      let (bs, s) := c.instBytes 5 n
      let x := timerOf bs
      if x.kind = 0 then .fault cInstanceKind s
      else
        let z := { x with et := 0, q := false, run := false, inp := false, last := (c.s.rt c.t).tt.toNat % 2 ^ 48 }
        let log := if c.r.ba then [instEntry 5 n 8 8 0, instEntry 5 n 24 6 z.last, instEntry 5 n 30 2 z.state] else []
        .ok { (c.eff 1) with s := s, cyc := 2, log := log }

/-- QU, QD and Q of a counter (R123). -/
def CounterI.outputs (x : CounterI) : CounterI :=
  let qu := decide (x.pv ≤ x.cv)
  let qd := decide (x.cv ≤ 0)
  { x with qu := qu, qd := qd, q := if x.kind = 2 then qd else qu }

/-- The bits of a signed 64-bit number. -/
def nat64 (x : Int) : Nat := (BitVec.ofInt 64 x).toNat

/-- CTU (R123): three entries CV, PV, STATE. KIND 1 or 3. -/
def countUp (area : BitVec 4) (opd : BitVec 22) : State → State :=
  lpInstr 3 3 fun c =>
    match instOperand 6 area opd with
    | .error e => .fault e c.s
    | .ok n =>
      let (bs, s) := c.instBytes 6 n
      let x := counterOf bs
      if x.kind ≠ 1 ∧ x.kind ≠ 3 then .fault cInstanceKind s
      else
        let rising := c.r.ba && !x.cu
        let lost := rising && x.cv == two63 - 1
        let y := { x with pv := c.r.wa.toInt, cv := if rising && !lost then x.cv + 1 else x.cv, ovf := x.ovf || lost, cu := c.r.ba }.outputs
        let log := [instEntry 6 n 8 8 (nat64 y.cv), instEntry 6 n 16 8 (nat64 y.pv), instEntry 6 n 24 8 y.state]
        .ok (({ (c.eff 1) with s := s, cyc := 3, log := log }.setBA y.qu).setSov lost)

/-- CTD (R123): two entries CV, STATE. KIND 2 or 3. -/
def countDown (area : BitVec 4) (opd : BitVec 22) : State → State :=
  lpInstr 3 2 fun c =>
    match instOperand 6 area opd with
    | .error e => .fault e c.s
    | .ok n =>
      let (bs, s) := c.instBytes 6 n
      let x := counterOf bs
      if x.kind ≠ 2 ∧ x.kind ≠ 3 then .fault cInstanceKind s
      else
        let rising := c.r.ba && !x.cd
        let lost := rising && x.cv == -two63
        let y := { x with cv := if rising && !lost then x.cv - 1 else x.cv, ovf := x.ovf || lost, cd := c.r.ba }.outputs
        let log := [instEntry 6 n 8 8 (nat64 y.cv), instEntry 6 n 24 8 y.state]
        .ok (({ (c.eff 1) with s := s, cyc := 3, log := log }.setBA y.qd).setSov lost)

/-- CRS and CLD (R123): with BA = 1 two entries CV, STATE, and OVF cleared. Any declared kind. -/
def countLoad (v : Regs → Int) (area : BitVec 4) (opd : BitVec 22) : State → State :=
  lpInstr 2 2 fun c =>
    match instOperand 6 area opd with
    | .error e => .fault e c.s
    | .ok n =>
      let (bs, s) := c.instBytes 6 n
      let x := counterOf bs
      if x.kind = 0 then .fault cInstanceKind s
      else
        let y := { x with cv := v c.r, ovf := false }.outputs
        let log := if c.r.ba then [instEntry 6 n 8 8 (nat64 y.cv), instEntry 6 n 24 8 y.state] else []
        .ok { (c.eff 1) with s := s, cyc := 2, log := log }

/-- RE and FE (R124): the memory bit always takes BA; BA takes `f BA b`. -/
def edge (f : Bool → Bool → Bool) (o : Opnd) : State → State :=
  lpInstr (o.words false) 1 fun c =>
    match bitOperand c o edgeAreas with
    | .error e => .fault e c.s
    | .ok b => match readBit c b, b with
      | .got v s _ _, .mem l i =>
        .ok ({ (c.eff (o.words false)) with s := s, cyc := o.words false, log := [.memBit l i c.r.ba] }.setBA (f c.r.ba v))
      | _, _ => .wait c.s

end Sys2Proof.Machine
end

