-- ==== Sys2Proof/Machine/Calls.lean ====
section
/-! DEFINITION. Calls, data-block selection, TRIG and the parts of END and PSYNC that precede the compare (spec/04 R127–R132). -/

namespace Sys2Proof.Machine

/-- A call (R127): the causes JUMP_RANGE, NEST_OPEN (R87), CALL_OVERFLOW in the order of the tables; push, DSEL if a block is named, jump. -/
def callTo (c : LpCtx) (words cyc : Nat) (t : BitVec 22) (block : Option Nat) : LpRes :=
  if c.s.codeLen ≤ t.toNat then .fault cJumpRange c.s
  else if c.r.ns ≠ [] then .fault cNestOpen c.s
  else if 32 ≤ c.calls.length then .fault cCallOverflow c.s
  else
    let e : Eff := { (c.eff words) with
      calls := (c.r.ip.toNat + words, c.r.dsel) :: c.calls, path := [c.r.ip.toNat], cyc := cyc }
    let e1 := match block with | some n => e.setDsel (BitVec.ofNat 16 n) | none => e
    .ok { e1 with r := { e1.r with ip := t } }

/-- CALL t (R127). -/
def call (area : BitVec 4) (t : BitVec 22) : State → State :=
  lpInstr 3 0 fun c => if area ≠ 0 then .fault cIllegalArea c.s else callTo c 1 3 t none

/-- CALLD t, n (R127): two words. -/
def calld (area : BitVec 4) (t : BitVec 22) (w2 : Word) : State → State :=
  lpInstr 4 0 fun c =>
    if area ≠ 0 then .fault cIllegalArea c.s
    else if c.s.codeLen ≤ c.r.ip.toNat + 1 then .fault cCodeEnd c.s
    else match blockWord w2 with
      | .error e => .fault e c.s
      | .ok n => callTo c 2 4 t (some n)

/-- A return (R127): NEST_OPEN, CALL_UNDERFLOW; pop index and DSEL. -/
def retFrom (c : LpCtx) (e : Eff) : LpRes :=
  if c.r.ns ≠ [] then .fault cNestOpen c.s
  else match c.calls with
    | [] => .fault cCallUnderflow c.s
    | (i, d) :: rest =>
      .ok { (({ e with calls := rest, path := [c.r.ip.toNat], cyc := 3 }).setDsel d) with
        r := { ((e.setDsel d).r) with ip := BitVec.ofNat 22 i } }

/-- RET and RETC (R127): `taken` decides from BA; a return not taken goes on. -/
def retInstr (taken : Bool → Bool) (o : ArgOpnd) (s : State) : State :=
  let b := match s.lpTask with | some k => taken (s.rt k).regs.ba | none => false
  fnArg (if b then 3 else 1) 0 0 (fun c _ e => if taken c.r.ba then retFrom c e else .ok e) o s

/-- TRIG of task n (R131): declared event tasks only; `fire` says whether the trigger is logged. -/
def trigOf (fire : Bool) (c : LpCtx) (n : Nat) (e : Eff) : LpRes :=
  if isEvent n && c.s.declared n then .ok { e with log := if fire then [.trig n] else [] } else .fault cServiceRange c.s

/-- OPNW (R128): WA outside 0–65,535 is OPERAND_RANGE. -/
def opnw (c : LpCtx) (e : Eff) : LpRes :=
  if c.r.wa.toInt < 0 ∨ 65535 < c.r.wa.toInt then .fault cOperandRange c.s else .ok (e.setDsel (c.r.wa.setWidth 16))

/-- END as an instruction (R87, R130): NEST_OPEN; it closes the window. `taken` decides for ENDC and ENDCN; an END not taken goes on. -/
def endInstr (taken : Bool → Bool) (o : ArgOpnd) (s : State) : State :=
  let b := match s.lpTask with | some k => taken (s.rt k).regs.ba | none => false
  fnArg (if b then 2 else 1) 0 0 (fun c _ e =>
    if taken c.r.ba then
      (if c.r.ns ≠ [] then .fault cNestOpen c.s else .ok { e with path := [c.r.ip.toNat], close := some .taken })
    else .ok e) o s

/-- PSYNC as an instruction: a forced compare point (R132). -/
def psyncInstr : ArgOpnd → State → State := fnArg 1 0 0 fun _ _ e => .ok { e with close := some .psync }

end Sys2Proof.Machine
end

