-- ==== Sys2Proof/Machine/Code.lean ====
section
/-! DEFINITION. The instruction words of Ebgen (spec/03 R79, R83, R89; spec/04 R114, R129, R138): the words of an instruction, the instruction
that a word spells, and the cause of a word that spells none. -/

namespace Sys2Proof.Machine

/-! ## The first word (spec/03 Table 3-3) -/

/-- A first word from OP, AREA and OPERAND. -/
def codeWord (op : Nat) (area : BitVec 4) (opd : BitVec 22) : Word := BitVec.ofNat 6 op ++ area ++ opd

/-- OP of a word. -/
def wordOp (w : Word) : Nat := (w.extractLsb' 26 6).toNat
/-- AREA of a word. -/
def wordArea (w : Word) : BitVec 4 := w.extractLsb' 22 4
/-- OPERAND of a word. -/
def wordOpd (w : Word) : BitVec 22 := w.extractLsb' 0 22

/-- A function code in [21:16] and an argument in [15:0] (R114, R129). -/
def argWord (op fn : Nat) (o : ArgOpnd) : Word := codeWord op o.area (BitVec.ofNat 6 fn ++ o.arg)
/-- A function code in [7:4] and a condition in [3:0] of OP 0x13 (R89). -/
def fnWord (fn : Nat) (o : FnOpnd) : Word := codeWord 0x13 o.area (o.rest ++ BitVec.ofNat 4 fn ++ o.cond)
/-- The first word of an instruction with a memory operand (R81, R100). -/
def memWord (op : Nat) (o : Opnd) : Word := codeWord op o.area o.opd

/-- The operand of a function of OP 0x19 or 0x2B in a word. -/
def wordArg (w : Word) : ArgOpnd := ⟨wordArea w, (wordOpd w).extractLsb' 0 16⟩
/-- The function code of OP 0x19 or 0x2B in a word. -/
def wordFn (w : Word) : Nat := ((wordOpd w).extractLsb' 16 6).toNat
/-- The operand of an OP 0x13 function in a word. -/
def wordCond (w : Word) : FnOpnd := ⟨wordArea w, (wordOpd w).extractLsb' 8 14, (wordOpd w).extractLsb' 0 4⟩
/-- The function code of OP 0x13 in a word. -/
def wordFn13 (w : Word) : Nat := ((wordOpd w).extractLsb' 4 4).toNat
/-- A memory operand in a word and the word after it. -/
def wordMem (w w2 : Word) : Opnd := ⟨wordArea w, wordOpd w, w2⟩

/-! ## Instruction and word -/

/-- The words of an instruction of the logic processor: its first word and the one that an extended form takes after it (Table 4-21). -/
def codeOf : Instr → Option (Word × Word)
  | .ld o => some (memWord 0x01 o, o.w2)
  | .ldn o => some (memWord 0x02 o, o.w2)
  | .and o => some (memWord 0x03 o, o.w2)
  | .andn o => some (memWord 0x04 o, o.w2)
  | .or o => some (memWord 0x05 o, o.w2)
  | .orn o => some (memWord 0x06 o, o.w2)
  | .xor o => some (memWord 0x07 o, o.w2)
  | .xorn o => some (memWord 0x08 o, o.w2)
  | .andNest o => some (memWord 0x09 o, o.w2)
  | .andnNest o => some (memWord 0x0A o, o.w2)
  | .orNest o => some (memWord 0x0B o, o.w2)
  | .ornNest o => some (memWord 0x0C o, o.w2)
  | .xorNest o => some (memWord 0x0D o, o.w2)
  | .xornNest o => some (memWord 0x0E o, o.w2)
  | .st o => some (memWord 0x0F o, o.w2)
  | .stn o => some (memWord 0x10 o, o.w2)
  | .set o => some (memWord 0x11 o, o.w2)
  | .rst o => some (memWord 0x12 o, o.w2)
  | .closeBracket o => some (fnWord 0 o, 0)
  | .not o => some (fnWord 1 o, 0)
  | .one o => some (fnWord 2 o, 0)
  | .zero o => some (fnWord 3 o, 0)
  | .ldc o => some (fnWord 4 o, 0)
  | .andc o => some (fnWord 5 o, 0)
  | .orc o => some (fnWord 6 o, 0)
  | .jmp a t => some (codeWord 0x14 a t, 0)
  | .jc a t => some (codeWord 0x15 a t, 0)
  | .jcn a t => some (codeWord 0x16 a t, 0)
  | .call a t => some (codeWord 0x17 a t, 0)
  | .calld a t w2 => some (codeWord 0x18 a t, w2)
  | .ret o => some (argWord 0x19 0x00 o, 0)
  | .retc o => some (argWord 0x19 0x01 o, 0)
  | .endCycle o _ => some (argWord 0x19 0x02 o, 0)
  | .endc o _ => some (argWord 0x19 0x03 o, 0)
  | .endcn o _ => some (argWord 0x19 0x04 o, 0)
  | .psync o _ => some (argWord 0x19 0x05 o, 0)
  | .trig o => some (argWord 0x19 0x06 o, 0)
  | .trigc o => some (argWord 0x19 0x07 o, 0)
  | .opn o => some (argWord 0x19 0x08 o, 0)
  | .opnw o => some (argWord 0x19 0x09 o, 0)
  | .nop o => some (argWord 0x19 0x0A o, 0)
  | .lda o => some (memWord 0x1A o, o.w2)
  | .ldb o => some (memWord 0x1B o, o.w2)
  | .sta o => some (memWord 0x1C o, o.w2)
  | .stas o => some (memWord 0x1D o, o.w2)
  | .stb o => some (memWord 0x1E o, o.w2)
  | .add o => some (memWord 0x1F o, o.w2)
  | .adds o => some (memWord 0x20 o, o.w2)
  | .sub o => some (memWord 0x21 o, o.w2)
  | .subs o => some (memWord 0x22 o, o.w2)
  | .mul o => some (memWord 0x23 o, o.w2)
  | .muls o => some (memWord 0x24 o, o.w2)
  | .div o => some (memWord 0x25 o, o.w2)
  | .divs o => some (memWord 0x26 o, o.w2)
  | .cmp o => some (memWord 0x27 o, o.w2)
  | .wand o => some (memWord 0x28 o, o.w2)
  | .wor o => some (memWord 0x29 o, o.w2)
  | .wxor o => some (memWord 0x2A o, o.w2)
  | .swap o => some (argWord 0x2B 0x00 o, 0)
  | .mab o => some (argWord 0x2B 0x01 o, 0)
  | .mba o => some (argWord 0x2B 0x02 o, 0)
  | .addb o => some (argWord 0x2B 0x03 o, 0)
  | .addbs o => some (argWord 0x2B 0x04 o, 0)
  | .subb o => some (argWord 0x2B 0x05 o, 0)
  | .subbs o => some (argWord 0x2B 0x06 o, 0)
  | .mulb o => some (argWord 0x2B 0x07 o, 0)
  | .mulbs o => some (argWord 0x2B 0x08 o, 0)
  | .divb o => some (argWord 0x2B 0x09 o, 0)
  | .divbs o => some (argWord 0x2B 0x0A o, 0)
  | .cmpb o => some (argWord 0x2B 0x0B o, 0)
  | .neg o => some (argWord 0x2B 0x0C o, 0)
  | .negs o => some (argWord 0x2B 0x0D o, 0)
  | .abs o => some (argWord 0x2B 0x0E o, 0)
  | .abss o => some (argWord 0x2B 0x0F o, 0)
  | .notw o => some (argWord 0x2B 0x10 o, 0)
  | .shl o => some (argWord 0x2B 0x11 o, 0)
  | .shr o => some (argWord 0x2B 0x12 o, 0)
  | .sar o => some (argWord 0x2B 0x13 o, 0)
  | .sext o => some (argWord 0x2B 0x14 o, 0)
  | .zext o => some (argWord 0x2B 0x15 o, 0)
  | .sat o => some (argWord 0x2B 0x16 o, 0)
  | .usat o => some (argWord 0x2B 0x17 o, 0)
  | .i2q o => some (argWord 0x2B 0x18 o, 0)
  | .q2i o => some (argWord 0x2B 0x19 o, 0)
  | .mulq o => some (argWord 0x2B 0x1A o, 0)
  | .btw o => some (argWord 0x2B 0x1B o, 0)
  | .wtb o => some (argWord 0x2B 0x1C o, 0)
  | .clrs o => some (argWord 0x2B 0x1D o, 0)
  | .clrf o => some (argWord 0x2B 0x1E o, 0)
  | .max o => some (argWord 0x2B 0x1F o, 0)
  | .min o => some (argWord 0x2B 0x20 o, 0)
  | .ton a o => some (codeWord 0x2C a o, 0)
  | .tof a o => some (codeWord 0x2D a o, 0)
  | .tp a o => some (codeWord 0x2E a o, 0)
  | .trst a o => some (codeWord 0x2F a o, 0)
  | .ctu a o => some (codeWord 0x30 a o, 0)
  | .ctd a o => some (codeWord 0x31 a o, 0)
  | .crs a o => some (codeWord 0x32 a o, 0)
  | .cld a o => some (codeWord 0x33 a o, 0)
  | .re o => some (memWord 0x34 o, o.w2)
  | .fe o => some (memWord 0x35 o, o.w2)
  | .lprd a o => some (codeWord 0x36 a o, 0)
  | .lpwr a o => some (codeWord 0x37 a o, 0)
  | .rpost o => some (memWord 0x38 o, o.w2)
  | _ => none

/-- The OP 0x13 function of a code (Table 3-11); none for a reserved one. -/
def fnInstr (o : FnOpnd) : Nat → Option Instr
  | 0 => some (.closeBracket o)
  | 1 => some (.not o)
  | 2 => some (.one o)
  | 3 => some (.zero o)
  | 4 => some (.ldc o)
  | 5 => some (.andc o)
  | 6 => some (.orc o)
  | _ => none

/-- The OP 0x19 function of a code (Table 4-18); none for 0x0B–0x3F. `rep` is what the passes of a window that it closes report. -/
def flowInstr (rep : PassReport) (o : ArgOpnd) : Nat → Option Instr
  | 0x00 => some (.ret o)
  | 0x01 => some (.retc o)
  | 0x02 => some (.endCycle o rep)
  | 0x03 => some (.endc o rep)
  | 0x04 => some (.endcn o rep)
  | 0x05 => some (.psync o rep)
  | 0x06 => some (.trig o)
  | 0x07 => some (.trigc o)
  | 0x08 => some (.opn o)
  | 0x09 => some (.opnw o)
  | 0x0A => some (.nop o)
  | _ => none

/-- The OP 0x2B function of a code (Table 4-5); none for 0x21–0x3F. -/
def regInstr (o : ArgOpnd) : Nat → Option Instr
  | 0x00 => some (.swap o)
  | 0x01 => some (.mab o)
  | 0x02 => some (.mba o)
  | 0x03 => some (.addb o)
  | 0x04 => some (.addbs o)
  | 0x05 => some (.subb o)
  | 0x06 => some (.subbs o)
  | 0x07 => some (.mulb o)
  | 0x08 => some (.mulbs o)
  | 0x09 => some (.divb o)
  | 0x0A => some (.divbs o)
  | 0x0B => some (.cmpb o)
  | 0x0C => some (.neg o)
  | 0x0D => some (.negs o)
  | 0x0E => some (.abs o)
  | 0x0F => some (.abss o)
  | 0x10 => some (.notw o)
  | 0x11 => some (.shl o)
  | 0x12 => some (.shr o)
  | 0x13 => some (.sar o)
  | 0x14 => some (.sext o)
  | 0x15 => some (.zext o)
  | 0x16 => some (.sat o)
  | 0x17 => some (.usat o)
  | 0x18 => some (.i2q o)
  | 0x19 => some (.q2i o)
  | 0x1A => some (.mulq o)
  | 0x1B => some (.btw o)
  | 0x1C => some (.wtb o)
  | 0x1D => some (.clrs o)
  | 0x1E => some (.clrf o)
  | 0x1F => some (.max o)
  | 0x20 => some (.min o)
  | _ => none

/-- The instruction of an OP with a memory operand or with an operand of its own kind (Table 4-21); none for an OP that no table assigns, and
for 0x13, 0x19 and 0x2B. -/
def opInstr (area : BitVec 4) (opd : BitVec 22) (w2 : Word) : Nat → Option Instr
  | 0x01 => some (.ld ⟨area, opd, w2⟩)
  | 0x02 => some (.ldn ⟨area, opd, w2⟩)
  | 0x03 => some (.and ⟨area, opd, w2⟩)
  | 0x04 => some (.andn ⟨area, opd, w2⟩)
  | 0x05 => some (.or ⟨area, opd, w2⟩)
  | 0x06 => some (.orn ⟨area, opd, w2⟩)
  | 0x07 => some (.xor ⟨area, opd, w2⟩)
  | 0x08 => some (.xorn ⟨area, opd, w2⟩)
  | 0x09 => some (.andNest ⟨area, opd, w2⟩)
  | 0x0A => some (.andnNest ⟨area, opd, w2⟩)
  | 0x0B => some (.orNest ⟨area, opd, w2⟩)
  | 0x0C => some (.ornNest ⟨area, opd, w2⟩)
  | 0x0D => some (.xorNest ⟨area, opd, w2⟩)
  | 0x0E => some (.xornNest ⟨area, opd, w2⟩)
  | 0x0F => some (.st ⟨area, opd, w2⟩)
  | 0x10 => some (.stn ⟨area, opd, w2⟩)
  | 0x11 => some (.set ⟨area, opd, w2⟩)
  | 0x12 => some (.rst ⟨area, opd, w2⟩)
  | 0x14 => some (.jmp area opd)
  | 0x15 => some (.jc area opd)
  | 0x16 => some (.jcn area opd)
  | 0x17 => some (.call area opd)
  | 0x18 => some (.calld area opd w2)
  | 0x1A => some (.lda ⟨area, opd, w2⟩)
  | 0x1B => some (.ldb ⟨area, opd, w2⟩)
  | 0x1C => some (.sta ⟨area, opd, w2⟩)
  | 0x1D => some (.stas ⟨area, opd, w2⟩)
  | 0x1E => some (.stb ⟨area, opd, w2⟩)
  | 0x1F => some (.add ⟨area, opd, w2⟩)
  | 0x20 => some (.adds ⟨area, opd, w2⟩)
  | 0x21 => some (.sub ⟨area, opd, w2⟩)
  | 0x22 => some (.subs ⟨area, opd, w2⟩)
  | 0x23 => some (.mul ⟨area, opd, w2⟩)
  | 0x24 => some (.muls ⟨area, opd, w2⟩)
  | 0x25 => some (.div ⟨area, opd, w2⟩)
  | 0x26 => some (.divs ⟨area, opd, w2⟩)
  | 0x27 => some (.cmp ⟨area, opd, w2⟩)
  | 0x28 => some (.wand ⟨area, opd, w2⟩)
  | 0x29 => some (.wor ⟨area, opd, w2⟩)
  | 0x2A => some (.wxor ⟨area, opd, w2⟩)
  | 0x2C => some (.ton area opd)
  | 0x2D => some (.tof area opd)
  | 0x2E => some (.tp area opd)
  | 0x2F => some (.trst area opd)
  | 0x30 => some (.ctu area opd)
  | 0x31 => some (.ctd area opd)
  | 0x32 => some (.crs area opd)
  | 0x33 => some (.cld area opd)
  | 0x34 => some (.re ⟨area, opd, w2⟩)
  | 0x35 => some (.fe ⟨area, opd, w2⟩)
  | 0x36 => some (.lprd area opd)
  | 0x37 => some (.lpwr area opd)
  | 0x38 => some (.rpost ⟨area, opd, w2⟩)
  | _ => none

/-- A function that its OP does not have: the cause of AREA not 0 comes first, then that of the code (R89, R97, R114, R129). -/
def fnOr (area : BitVec 4) : Option Instr → Except Nat Instr
  | some i => .ok i
  | none => .error (if area ≠ 0 then cIllegalArea else cIllegalField)

/-- The instruction that a word and the word after it spell, or the cause that the decoder meets in a word that spells none (R79, R83, R89,
R114, R129, R138). The other causes of Table 3-15 are the instruction's own. -/
def codeInstr (rep : PassReport) (w w2 : Word) : Except Nat Instr :=
  let op := wordOp w
  if op = 0x13 then fnOr (wordArea w) (fnInstr (wordCond w) (wordFn13 w))
  else if op = 0x19 then fnOr (wordArea w) (flowInstr rep (wordArg w) (wordFn w))
  else if op = 0x2B then fnOr (wordArea w) (regInstr (wordArg w) (wordFn w))
  else match opInstr (wordArea w) (wordOpd w) w2 op with
    | some i => .ok i
    | none => .error cIllegalOpcode

/-- The cause that the fetch of the next instruction meets, if it meets one: the code has ended, or its word spells no instruction (R83, R94,
R95, R97). (DESIGN CHOICE: log entry 6) -/
def State.fetchCause (s : State) (t : Nat) : Option Nat :=
  let ip := (s.rt t).regs.ip.toNat
  match s.prog.bind (fun p => p.code[ip]?) with
  | none => some cCodeEnd
  | some w => match codeInstr ⟨.same, .same, .same⟩ w 0 with | .error c => some c | .ok _ => none

end Sys2Proof.Machine
end

