-- ==== Sys2Proof/Machine/Online.lean ====
section
/-! DEFINITION. Changing the program while it runs (spec/07): the fresh data of a version, carry-over by identity, the rejection checks, and the
phases of a change. -/

namespace Sys2Proof.Machine

/-- `n` bytes of the inactive bank (R211). -/
def State.inactiveBytes (s : State) (l : Loc) (n : Nat) : List Byte := mgetList s.mem (cellKey (1 - s.bank) l) n

def State.setOc (s : State) (x : Online) : State := { s with oc := x }

/-! ## Banks (R196) -/

/-- The cells a version starts with, keys as in bank 0 (spec/02 R62): its initial data, and ID and KIND of its declared instances (spec/04
R117, R122). -/
def Image.freshCells (p : Image) : List Host.Cell :=
  let m := p.init.foldl (fun (m : List Host.Cell) (x : Loc × Byte) => mset (cellKey 0 x.1) x.2 m) []
  p.insts.foldl (fun (m : List Host.Cell) (d : InstDecl) =>
    let k := cellKey 0 ⟨d.area, 0, 32 * d.n⟩
    let m1 := msetList k (leBytes 8 d.id.toNat) m
    if d.area = 5 then msetList (k + 30) (leBytes 2 (d.kind * 4096)) m1 else msetList (k + 24) (leBytes 8 (d.kind * 4096)) m1) m

/-- Bank `b` takes cells given with keys as in bank 0. -/
def putBank (b : Nat) (cells m : List Host.Cell) : List Host.Cell :=
  cells.foldl (fun (m : List Host.Cell) (c : Host.Cell) => mset (b * 2 ^ 44 + c.1) c.2 m) (mclear (b * 2 ^ 44) ((b + 1) * 2 ^ 44) m)

/-! ## Carry-over (R202, R203, Table 7-2) -/

/-- Class of an entry: 1 variable, 2 edge memory, 3 timer, 4 counter (R202). -/
def IdEntry.cls (e : IdEntry) : Nat := if e.kind = 1 then 1 else if e.kind ≤ 3 then 2 else if e.kind = 4 then 3 else 4

/-- Declared KIND of the instance of an entry. -/
def Image.instKind (p : Image) (e : IdEntry) : Nat :=
  ((p.insts.find? (fun (d : InstDecl) => d.area == e.area && d.n == e.off)).map (·.kind)).getD 0

/-- Integer types are 1–8; signed types and widths (spec/04 Table 4-14). -/
def isInt (t : Nat) : Bool := decide (1 ≤ t) && decide (t ≤ 8)
def intBytes (t : Nat) : Nat := 2 ^ ((t - 1) / 2)
def intSigned (t : Nat) : Bool := t % 2 == 1

/-- The number that bytes of an integer type stand for. -/
def intOf (t : Nat) (l : List Byte) : Int :=
  let n := leNat l
  if intSigned t && decide (2 ^ (8 * intBytes t - 1) ≤ n) then (n : Int) - 2 ^ (8 * intBytes t) else n

/-- Whether an integer type holds a number exactly. -/
def intFits (t : Nat) (x : Int) : Bool :=
  if intSigned t then decide (-(2 ^ (8 * intBytes t - 1)) ≤ x) && decide (x < 2 ^ (8 * intBytes t - 1))
  else decide (0 ≤ x) && decide (x < 2 ^ (8 * intBytes t))

/-- What one matched pair does: the cells, and whether it was carried. -/
structure Carry where
  cells : List Host.Cell
  carried : Nat
  init : Nat
  conv : Nat

/-- STATE of a carried counter: bits 5–1 of the old one, the new KIND, Q from QU and QD (Table 7-2, spec/04 Table 4-11). -/
def counterState (old kind : Nat) : Nat :=
  kind * 4096 + old / 2 % 32 * 2 + bitNat (if kind = 2 then old.testBit 4 else old.testBit 3)

/-- Cells of a matched pair: `o` the old entry, `n` the new one, read from `old`; none where nothing is carried. -/
def carryPair (po pn : Image) (old : List Host.Cell) (o n : IdEntry) (m : List Host.Cell) : Option (List Host.Cell) :=
  let ko := cellKey 0 o.loc
  let kn := cellKey 0 n.loc
  if o.cls ≠ n.cls then none
  else if n.cls = 1 then
    (if o.type = n.type && o.size = n.size then
      (if n.type = 0 then some (mset kn (setBit (mget m kn) n.bit ((mget old ko).getLsbD o.bit)) m)
       else some (msetList kn (mgetList old ko n.size) m))
     else if isInt o.type && isInt n.type then
      (let x := intOf o.type (mgetList old ko (intBytes o.type))
       if intFits n.type x then some (msetList kn (leBytes (intBytes n.type) (x % (2 ^ 64 : Int)).toNat) m) else none)
     else if o.type = 10 && n.type = 10 then some (msetList kn (mgetList old ko (min o.size n.size)) m)
     else none)
  else if n.cls = 2 then some (mset kn (setBit (mget m kn) n.bit ((mget old ko).getLsbD o.bit)) m)
  else if n.cls = 3 then
    (if po.instKind o = pn.instKind n then
      some (msetList (kn + 30) (leBytes 2 (pn.instKind n * 4096 + leNat (mgetList old (ko + 30) 2) % 16)) (msetList (kn + 8) (mgetList old (ko + 8) 22) m))
     else none)
  else
    some (msetList (kn + 24) (leBytes 8 (counterState (leNat (mgetList old (ko + 24) 8)) (pn.instKind n)))
      (msetList (kn + 8) (mgetList old (ko + 8) 16) m))

/-- A new entry taken into the fresh bank (R203, Table 7-2): a timer that cannot be carried has LAST set to TT. -/
def carryEntry (po pn : Image) (old : List Host.Cell) (tt : Nat) (c : Carry) (n : IdEntry) : Carry :=
  match po.ids.find? (fun (o : IdEntry) => o.id == n.id) with
  | none => { c with init := c.init + 1 }
  | some o => match carryPair po pn old o n c.cells with
    | some m => { c with cells := m, carried := c.carried + 1 }
    | none =>
      { c with
        conv := c.conv + 1
        cells := if n.cls = 3 then
            msetList (cellKey 0 n.loc + 30) (leBytes 2 (pn.instKind n * 4096)) (msetList (cellKey 0 n.loc + 8) (leBytes 8 0 ++ leBytes 8 0 ++ leBytes 6 tt) c.cells)
          else c.cells }

/-- A segment of the new version at the place of the same segment of the old one (R207). Bytes of it without a counterpart keep what stood at
their offsets in the image. (DESIGN CHOICE: log entry 78) -/
def moveSeg (po : Image) (old : List Host.Cell) (m : List Host.Cell) (g : SegDecl) : List Host.Cell :=
  match po.segs.find? (fun (x : SegDecl) => x.kind == g.kind && x.out == g.out) with
  | none => m
  | some x =>
    let a := if g.out then 1 else 0
    msetList (cellKey 0 ⟨a, 0, g.off⟩) (mgetList old (cellKey 0 ⟨a, 0, x.off⟩) (min x.len g.len)) m

/-- The bank of the new version from the running one (R202–R207). (DEDUCED: log entry 43) -/
def carryOver (po pn : Image) (old : List Host.Cell) (tt : Nat) : Carry :=
  let c := pn.ids.foldl (carryEntry po pn old (tt % 2 ^ 48)) ⟨pn.freshCells, 0, 0, 0⟩
  let io := old.filter (fun (x : Host.Cell) => decide (x.1 < 2 * 2 ^ 40))
  let m := io.foldl (fun (m : List Host.Cell) (x : Host.Cell) => mset x.1 x.2 m) (mclear 0 (2 * 2 ^ 40) c.cells)
  { c with cells := pn.segs.foldl (moveSeg po old) m }

/-- Old entries without a match (R203). -/
def dropped (po pn : Image) : Nat := (po.ids.filter (fun (o : IdEntry) => !pn.ids.any (fun (n : IdEntry) => n.id == o.id))).length

/-! ## Rejection (R213, Table 7-4) -/

/-- The image in the inactive area. -/
def State.newImage (s : State) : Option Image := nth none s.mram.areas (1 - s.bank)

/-- An image's structure is consistent: entries lie in the code, no identifier or number is declared twice. An image of more than 4,096 loops
fails CAPACITY, not this check (spec/08 R216). -/
def Image.consistent (p : Image) : Bool :=
  p.tasks.all (fun (t : TaskDecl) => decide (t.entry < p.code.length))
    && p.tasks.all (fun (t : TaskDecl) => (p.tasks.filter (fun (u : TaskDecl) => u.id == t.id)).length == 1)
    && p.insts.all (fun (d : InstDecl) => (p.insts.filter (fun (u : InstDecl) => u.area == d.area && u.n == d.n)).length == 1)
    && (decide (4096 < p.loops.length) || p.loops.all (fun (d : LoopDecl) => decide (d.n < 4096) && (p.loops.filter (fun (u : LoopDecl) => u.n == d.n)).length == 1))

/-- Size of the area, block or locals that an entry of an image names. -/
def Image.room (p : Image) (e : IdEntry) : Nat :=
  if e.area = 3 then ((p.blocks.find? (fun (b : Nat × Nat) => b.1 == e.block)).map (·.2)).getD 0
  else if e.area = 4 then ((p.tasks.find? (fun (t : TaskDecl) => t.id == e.block)).map (·.locals)).getD 0
  else 65536

/-- The 24 bytes of an identity-table entry (spec/04 R125, Table 4-14). -/
def IdEntry.image (e : IdEntry) : List Byte :=
  leBytes 8 e.id.toNat ++ leBytes 1 e.area ++ leBytes 1 (e.kind % 16 + 16 * bitNat e.retain) ++ leBytes 1 e.type ++ leBytes 1 e.bit
    ++ leBytes 2 e.block ++ leBytes 2 e.off ++ leBytes 4 e.size ++ leBytes 4 0

/-- The entry that 24 bytes hold; none where a bit that Table 4-14 gives as 0 is 1. -/
def idEntryOf (b : List Byte) : Option IdEntry :=
  let n := fun (off len : Nat) => leNat ((b.drop off).take len)
  if b.length ≠ 24 || 32 ≤ n 9 1 || n 20 4 ≠ 0 then none
  else some ⟨BitVec.ofNat 64 (n 0 8), n 8 1, n 9 1 % 16, (n 9 1).testBit 4, n 10 1, n 11 1, n 12 2, n 14 2, n 16 4⟩

/-- The values that Table 4-14 allows in an entry's fields. -/
def IdEntry.formed (e : IdEntry) : Bool :=
  idEntryOf e.image == some e && decide (1 ≤ e.kind) && decide (e.kind ≤ 5) && decide (e.type ≤ 10)
    && (if e.type = 0 && e.kind ≤ 3 then decide (e.bit ≤ 7) else e.bit == 0)
    && (e.area == 3 || e.area == 4 || e.block == 0)
    && (if e.kind = 4 || e.kind = 5 then e.type == 0 && e.size == 32 && e.area == e.kind + 1 else e.type != 0 || e.size == 0)

/-- An entry that fails IDENTITY (Table 7-4). An entry outside the form of Table 4-14 fails it too. (DESIGN CHOICE: log entry 78) -/
def Image.idBad (p : Image) (e : IdEntry) : Bool :=
  !e.formed || e.id == 0 || decide (1 < (p.ids.filter (fun (x : IdEntry) => x.id == e.id)).length) ||
    (if e.area = 5 || e.area = 6 then decide (8191 < e.off) else !(2 ≤ e.area && e.area ≤ 4) || decide (p.room e < e.off + e.bytes))

/-- An entry that fails INSTANCE. -/
def Image.instBad (p : Image) (e : IdEntry) : Bool :=
  (e.area == 5 || e.area == 6) && !p.insts.any (fun (d : InstDecl) => d.area == e.area && d.n == e.off && d.id == e.id)

/-- Two segments of one image overlap in I or in Q. -/
def overlap (a b : SegDecl) : Bool := a.out == b.out && decide (a.off < b.off + b.len) && decide (b.off < a.off + a.len)

/-- The local segments are laid out as in Tables 11-1 and 11-2, at offsets that are multiples of 8 (spec/11 R324). A Mortise view is an input segment of words 0x1400–0x14BF or of words 0x14C0–0x14CF, at an I offset that is a multiple of 4 (spec/10 R309). -/
def SegDecl.formed (g : SegDecl) : Bool :=
  match g.kind with
  | .view 0 => !g.out && g.len == 768 && g.off % 4 == 0
  | .view 1 => !g.out && g.len == 64 && g.off % 4 == 0
  | .view _ => false
  | .field => g.len == (if g.out then 24 else 72) && g.off % 8 == 0
  | .station _ => true

/-- An image that fails SEGMENT (spec/05 R155), or a segment out of form; an owner that the image does not declare as a task fails it too. (DESIGN CHOICE: log entry 78) -/
def Image.segBad (p : Image) : Bool :=
  p.segs.any (fun (g : SegDecl) => !g.formed) || p.segs.any (fun (g : SegDecl) => match g.owners with | [t] => decide (95 < t) || !p.tasks.any (fun (d : TaskDecl) => d.id == t) | _ => true)
    || (List.range p.segs.length).any (fun i => (List.range i).any (fun j =>
      match p.segs[i]?, p.segs[j]? with | some a, some b => overlap a b | _, _ => false))

/-- The first cause of Table 7-4 that rejects an image, with the index of its identity-table entry; `stop` for LOAD_STOP, which checks causes
3, 5, 6, 7, 12 and 13 (spec/17 R488). Of two entries with one ID the first is named. (DESIGN CHOICE: log entries 24, 78) -/
def State.rejects (s : State) (p : Image) (stop : Bool) : Option (Nat × Option Nat) :=
  if !p.intact || !p.consistent then some (3, none)
  else if !stop && (s.prog.map (·.lineage)) != some p.lineage then some (4, none)
  else if !Config.formatSupported p.format then some (12, none)
  else if decide (4194304 < p.code.length) || decide (32 * 1048576 < p.dataBytes) || decide (4096 < p.loops.length)
      || p.tasks.any (fun (t : TaskDecl) => decide (97 < t.id)) then some (13, none)
  else match p.ids.findIdx? p.idBad with
    | some i => some (5, some i)
    | none => match p.ids.findIdx? p.instBad with
      | some i => some (6, some i)
      | none =>
        if p.segBad then some (7, none)
        else if !stop && (s.role = roleLoader || s.role = roleFenced || s.role = roleUnsync || s.rd F.SCH_STAT_STATE ≠ 2) then some (8, none)
        else none

/-! ## Phases (R197, Table 7-1) -/

/-- PHASE. -/
def State.ocPhase (s : State) : Nat := s.rd F.OC_STAT_PHASE

/-- The change ends in IDLE with a result. -/
def State.ocEnd (s : State) (result : Nat) : State :=
  ((s.wr F.OC_STAT_PHASE 0).wr F.OC_STAT_RESULT result).setOc { s.oc with atPoint := false, toTrial := false, trial := 0 }

/-- The counts describe the last change that passed CHECKING; they start at 0 (R215). -/
def State.ocClear (s : State) : State :=
  let z := [W.OC_CARRIED, W.OC_INIT, W.OC_DROPPED, W.OC_CONV, W.OC_SW_NS, W.OC_TRIAL_DIFF, W.OC_TRIAL_SAME].foldl (fun (s : State) i => s.setWord i 0) s
  z.setWord W.OC_REJ_INDEX 0xFFFFFFFF#32

/-- The result and the trial's counts go to the other module of the pair (R214, Table 7-5). -/
def State.sendTrial (s : State) (result : Nat) : State :=
  s.dtSend .trialResult 12 [result, (s.word W.OC_TRIAL_SAME).toNat, (s.word W.OC_TRIAL_DIFF).toNat]

/-- The change ends on this module, and the other module of a pair is told. -/
def State.ocDrop (s : State) (result : Nat) : State :=
  let s1 := { s.ocEnd result with pair := { s.pair with partnerTrial := false } }
  if s.isStandby || s.role == roleActive then s1.sendTrial result else s1

/-- LOADED: the inactive area holds a checked version, which the image store remembers (R212, Table 7-8). -/
def State.setLoaded (s : State) (b : Bool) : State := { s.flag F.OC_STAT_LOADED b with mram := { s.mram with checked := b } }

/-- CHECKING with the image in the inactive area (R197, R213). -/
def State.ocCheck (s : State) : State :=
  let s1 := (s.ocClear.wr F.OC_STAT_PHASE 2)
  match s.newImage with
  | none => s1.ocEnd 3
  | some p => match s.rejects p false with
    | none => s1.wr F.OC_STAT_RESULT 0
    | some (r, i) =>
      let s2 := match i with | some n => s1.setWord W.OC_REJ_INDEX (BitVec.ofNat 32 n) | none => s1
      s2.ocDrop r

/-- A session with ENGINEER rights is open: online-change commands come through it (R197; spec/12 Table 12-7). -/
def State.engineerOpen (s : State) : Bool := s.plant.sessions.any (fun (e : Nat × Session) => e.2.rights == .engineer)

/-- Sends an image's code words, 1,020 to a frame (spec/09 R254): a region number, the version, the offset. -/
def State.sendCode (s : State) (region : Nat) (p : Image) : State :=
  ((chunks 1020 p.code.length p.code).foldl (fun (a : Nat × State) (ws : List Word) =>
    (a.1 + ws.length, a.2.dtSend .bulk (12 + 4 * ws.length) (region :: p.version :: a.1 :: ws.map (·.toNat)))) (0, s)).2

/-- A new image goes into the inactive code area. On the active of a pair it is forwarded to the standby (R214). -/
def State.ocLoad (s : State) (img : Image) : State :=
  if s.ocPhase ≠ 0 then s
  else
    let s1 := ((s.wr F.OC_STAT_PHASE 1).setLoaded false).setWord W.OC_VER_NEW (BitVec.ofNat 32 img.version)
    let s2 : State := { s1 with mram := { s1.mram with areas := setNth (some img) s1.mram.areas (1 - s1.bank) } }
    if s.role = roleActive then s2.sendCode 7 img else s2

/-- LOAD (R197). (DESIGN CHOICE: log entry 3) -/
def loadOp (img : Image) (s : State) : State := if s.engineerOpen then s.ocLoad img else s

/-- OC_TRANSFER_END (R213). -/
def ocTransferEndOp (s : State) : State := if s.ocPhase ≠ 1 then s else s.ocCheck

/-- The inactive bank as the carry-over makes it from the running one (R198, R202). -/
def State.ocFill (s : State) : State :=
  match s.prog, s.newImage with
  | some po, some pn =>
    let c := carryOver po pn (bankCells s.bank s.mem) s.ttNow
    let s1 : State := { s with mem := putBank (1 - s.bank) c.cells s.mem }
    (((s1.setWord W.OC_CARRIED (BitVec.ofNat 32 c.carried)).setWord W.OC_INIT (BitVec.ofNat 32 c.init)).setWord W.OC_CONV
      (BitVec.ofNat 32 c.conv)).setWord W.OC_DROPPED (BitVec.ofNat 32 (dropped po pn))
  | _, _ => s

/-- In PREPARED and ARMED the inactive bank follows every commit (R198). -/
def State.ocFollow (s : State) : State := if s.ocPhase = 3 || s.ocPhase = 4 then s.ocFill else s

/-- OC_CHECKS_COMPLETE (R198): the change is PREPARED. -/
def ocChecksCompleteOp (s : State) : State :=
  if s.ocPhase ≠ 2 then s else ((s.wr F.OC_STAT_PHASE 3).setLoaded true).ocFill

/-- ARM (R200, R213). -/
def armOp (s : State) : State :=
  if s.ocPhase ≠ 3 || !s.engineerOpen then s
  else if s.on F.OC_CFG_ALLOW then s.wr F.OC_STAT_PHASE 4
  else s.wr F.OC_STAT_RESULT 9

/-- ABORT (R197): the change ends on both modules of a pair (R214). -/
def abortOp (s : State) : State := if s.ocPhase = 0 || 5 ≤ s.ocPhase || !s.engineerOpen then s else s.ocDrop 2

/-- REVERT and RESUME (R197): CHECKING with the version already held. -/
def State.ocAgain (s : State) : State :=
  if s.ocPhase ≠ 0 || !s.on F.OC_STAT_LOADED || !s.engineerOpen then s
  else
    let s1 := match s.newImage with | some p => if s.role = roleActive then s.sendCode 7 p else s | none => s
    s1.ocCheck

/-- REVERT (R197): back to the previous version by an ordinary online change. -/
def revertOp (s : State) : State := s.ocAgain

/-- RESUME (R197): the change that was abandoned before its switch goes on. -/
def resumeOp (s : State) : State := s.ocAgain

/-! ## The switch (R199–R212) -/

/-- The switch task (R199): the enabled cyclic task of lowest priority, the highest identifier among several. -/
def State.switchTask (s : State) : Option Nat :=
  (List.range 32).foldl (fun (b : Option Nat) t =>
    if !s.enabled t then b
    else match b with
      | none => some t
      | some u => if s.rd (F.TCFG_PRIO t) ≤ s.rd (F.TCFG_PRIO u) then some t else some u) none

/-- A planned release falls due at the next tick (spec/05 R141, R154). (DEDUCED: log entry 43) -/
def State.plannedNext (s : State) : Bool :=
  let k := s.tick + 1
  (List.range 32).any (fun t => s.enabled t && s.period t != 0 && k % s.period t == s.rd (F.TCFG_PHASE t))
    || s.sch.tasks.any (fun e => match e.2.armed with | some due => decide (due ≤ k) | none => false)

/-- The instant at which the next tick begins. -/
def State.nextTickNs (s : State) : Nat := (50 * ((s.tick + 1 : Nat) : Int) - s.sch.ttOff).toNat * 1000

/-- The first three conditions of R200: the switch task has just ended, no task runs or is ready, no release within 10 µs. (DEDUCED: log entry 43) -/
def State.quiet (s : State) : Bool :=
  (s.oc.atPoint || s.switchTask.isNone)
    && !s.sch.tasks.any (fun e => e.2.st != .idle || e.2.again)
    && !(s.plannedNext && decide (s.nextTickNs ≤ s.ns + 10000))

/-- No release and no timer of a task is left, not even a release by the collector, whose handling ends. -/
def State.forget (s : State) (t : Nat) : State :=
  let r := s.rt t
  let s1 := s.setRt t { r with st := if r.st = .ready then .idle else r.st, again := false, armed := none }
  { s1 with
    sch := { s1.sch with held := s1.sch.held.filter (· != t), due := s1.sch.due.filter (· != t) }
    fc := { s1.fc with stack := s1.fc.stack.map fun (h : Handling) => if h.task == t then { h with await := 0, ended := true } else h } }.showTask t

/-- Tasks after a switch (R205, R206): EN of a task that the new version does not declare is cleared, its pending release and timer go; SINGLE
without NONCRIT becomes DUAL. -/
def State.switchTasks (s : State) (p : Image) : State :=
  (List.range 98).foldl (fun (s : State) t =>
    let d := p.tasks.find? (fun (x : TaskDecl) => x.id == t)
    let nc := match d with | some x => x.noncrit | none => false
    let s1 := if d.isNone && t < 96 then
        (s.disable t).forget t else s
    let s2 := s1.flag (F.XMODE_NONCRIT t) nc
    if s2.rd (F.XMODE_MODE t) = 1 && !nc then s2.wrSet (F.XMODE_MODE t) 2 else s2) s

/-- OC_FIRST bits of every declared task (R208). -/
def State.markFirst (s : State) (p : Image) : State :=
  (List.range 4).foldl (fun (s : State) k =>
    s.setWord (W.OC_FIRST k) (BitVec.ofNat 32 (bitsNat ((List.range 32).map (fun b => p.tasks.any (fun (t : TaskDecl) => t.id == 32 * k + b)))))) s

/-- Held triggers and due timers are released (R199; spec/05 R154). -/
def State.releaseHeld (s : State) : State :=
  let l := s.sch.held
  l.foldl (fun (s : State) t => if s.trapHeld t then (s.trigger t 4 true true).2 else (s.trigger t 1 false false).2) { s with sch := { s.sch with held := [] } }

/-- The switch itself (R201–R212): the bank is completed, code area and bank are exchanged. (DEDUCED: log entry 43) -/
def State.ocSwap (s : State) : State :=
  match s.newImage with
  | none => s
  | some pn =>
    let s1 := State.runAll (2 * s.le.queue.length + 2) s.ocFill
    let old := s1.prog
    let s2 : State := { s1 with
      prog := some pn
      mram := { s1.mram with area := 1 - s1.mram.area, rewriting := true }
      sch := { s1.sch with tasks := s1.sch.tasks.map (fun (e : Nat × TaskRt) => (e.1, { e.2 with regs := ⟨false, 0, 0, false, false, false, false, [], 0, 0⟩, calls := [] })) } }
    let s3 := (s2.switchTasks pn).loopsSwitch pn
    let s4 := (s3.flag F.OC_STAT_AREA (s3.mram.area == 1)).flag F.OC_STAT_MRAM_SYNC false
    let s5 := (s4.setWord W.OC_VER_RUN (BitVec.ofNat 32 pn.version)).setWord W.OC_VER_NEW (BitVec.ofNat 32 ((old.map (·.version)).getD 0))
    ((s5.markFirst pn).bump F.OC_COUNT).setLoaded old.isSome

/-- OC_SWITCH_POINT (R200, R214): the conditions hold. With a synchronised standby the active marks the point and the standby switches first; else
the switch begins. -/
def ocSwitchPointOp (s : State) : State :=
  if s.ocPhase ≠ 4 || s.oc.trial = 1 || !s.quiet || !s.on F.OC_CFG_ALLOW || !s.on F.HOLDUP_CHARGED || !s.isActive then s
  else if s.role = roleActive && s.partnerRole = roleSync && s.oc.trial = 0 then
    let s1 := s.dtSend .mark 16 [s.tick, s.ttNow, 1]
    { s1.setOc { s1.oc with trial := 1, atPoint := false } with pair := { s1.pair with partnerTrial := true } }
  else (s.wr F.OC_STAT_PHASE 5).setOc { s.oc with t0 := s.ns, atPoint := false, toTrial := false }

/-- The switch ends (R201): SOLO or active IDLE with RESULT 1; a standby on trial in TRIAL. -/
def State.ocComplete (s : State) (ns : Nat) : State :=
  let s1 : State := { s with ns := max s.ns (s.oc.t0 + ns) }
  let s2 := s1.ocSwap.setWord W.OC_SW_NS (BitVec.ofNat 32 ns)
  let s3 := if s.oc.toTrial then ((s2.wr F.OC_STAT_PHASE 6).flag F.OC_STAT_TRIAL true).setOc { s2.oc with toTrial := false }
    else s2.ocEnd 1
  s3.releaseHeld

/-- OC_SWITCH_COMPLETE (R201): `ns` after the switch point, 8 µs at most. -/
def ocSwitchCompleteOp (ns : Nat) (s : State) : State := if s.ocPhase ≠ 5 || 8000 < ns then s else s.ocComplete ns

/-- OC_WAIT_TIMEOUT (R200). -/
def ocWaitTimeoutOp (s : State) : State :=
  if s.ocPhase ≠ 4 || s.oc.trial = 1 then s else (s.wr F.OC_STAT_PHASE 3).wr F.OC_STAT_RESULT 10

/-- The trial on this module is over: it runs the version it has and waits for its data from the active (Table 7-5, step 4). -/
def State.trialOver (s : State) (result : Nat) : State :=
  let s1 := (s.flag F.OC_STAT_TRIAL false).ocEnd result
  { s1 with pair := { s1.pair with marked0 := false, releases := [], inputs := [], preempts := [], extwrites := [], theirs := [], ours := [] } }

/-- OC_TRIAL_END (R214): on the standby the result goes to the active; on the active the switch is due at the next switch point. -/
def ocTrialEndOp (s : State) : State :=
  if s.on F.OC_STAT_TRIAL then (s.sendTrial 1).trialOver 1
  else if s.ocPhase = 4 && s.oc.trial = 1 then
    { s.setOc { s.oc with trial := 2 } with pair := { s.pair with partnerTrial := false } }
  else s

/-- The standby on trial returns to the old version and its data, which the switch froze (Table 7-5, step 3a; R211), drops synchronisation
with cause TRIAL and resynchronises. -/
def State.trialReturn (s : State) (result : Nat) : State :=
  let s0 := s.setOc { s.oc with failed := false }
  if !s.on F.OC_STAT_TRIAL then s0
  else
    let s1 := s0.syncDrop 5
    let old := s1.newImage
    let s2 : State := { s1.idleTasks with
      prog := old
      lp := { s1.lp with win := none, snap := none }
      mram := { s1.mram with area := 1 - s1.mram.area } }
    let v := s2.word W.OC_VER_RUN
    let s3 := ((s2.setWord W.OC_VER_RUN (s2.word W.OC_VER_NEW)).setWord W.OC_VER_NEW v).flag F.OC_STAT_AREA (s2.mram.area == 1)
    let s4 := match old with | some p => (s3.switchTasks p).loopsSwitch p | none => s3
    s4.trialOver result

/-- A failed trial: the active is told (Table 7-5, step 3a). -/
def State.trialFailed (s : State) : State :=
  (if s.on F.OC_STAT_TRIAL then s.sendTrial 11 else s).trialReturn 11

end Sys2Proof.Machine
end

