-- ==== Sys2Proof/Machine/Startup.lean ====
section
/-! DEFINITION. Stopping, reset and start-up (spec/02 R36, R52–R65): what the power-fail sequence and a module reset do first, what a reset leaves,
the restart decision, and the preparation of the data areas. -/

namespace Sys2Proof.Machine

def State.setPw (s : State) (x : Power) : State := { s with pw := x }

/-! ## The power-fail record (R54) -/

/-- The CRC-32 of a copy: over its sequence number, t0, cause, PF_STEP, complete and used, each as a word or two. (DESIGN CHOICE: log entry 76) -/
def PfRec.crc32 (r : PfRec) : Word :=
  crc32c (leBytes 4 r.seq ++ leBytes 8 r.t0 ++ leBytes 4 r.cause ++ leBytes 4 r.step ++ leBytes 4 (bitNat r.complete) ++ leBytes 4 (bitNat r.used))

/-- A copy counts if it passes its CRC. -/
def PfRec.passed (r : Option PfRec) : Option PfRec := r.filter fun (x : PfRec) => x.crc == x.crc32

/-- The newer copy that passes its CRC. -/
def State.pfNewest (s : State) : Option PfRec :=
  match PfRec.passed s.mram.pfA, PfRec.passed s.mram.pfB with
  | some a, some b => if a.seq < b.seq then some b else some a
  | some a, none => some a
  | none, b => b

/-- Writes a copy, alternately (R54). -/
def State.pfWrite (s : State) (r : PfRec) : State :=
  let n := ((s.pfNewest.map (·.seq)).getD 0) + 1
  let r0 := { r with seq := n }
  let r1 := { r0 with crc := r0.crc32 }
  if n % 2 = 1 then { s with mram := { s.mram with pfA := some r1 } } else { s with mram := { s.mram with pfB := some r1 } }

/-- The highest n such that steps 1 to n have all completed (R54). -/
def pfHighest (done : List Nat) : Nat :=
  (List.range 6).foldl (fun n k => if k ≠ 0 && n + 1 = k && done.contains k then k else n) 0

/-- Rewrites the record of the sequence in progress. -/
def State.pfUpdate (s : State) (complete : Bool) : State :=
  match s.pfNewest with
  | none => s
  | some r => s.pfWrite { r with step := pfHighest s.pw.pfDone, complete := complete }

/-! ## Stopping -/

/-- ALV_EXT stops and stays low until the next reset (spec/15 R444). -/
def State.alvExtStop (s : State) : State :=
  let s1 := (s.setPw { s.pw with alvExt := false, alvArmed := false }).flag F.FC_STAT_ALV_STOPPED true
  if s.pw.alvExt then s1.emit .field .level [1, 0] else s1

/-- Step 1 of Table 2-3: no cycle begins, the LP stops and the open window is discarded, the engine completes an evaluation and starts no
other (spec/08 R244), DEPART is sent, the alive signals stop and ROLE_OUT is released, a freeze ends (spec/15 R455). (DEDUCED: log entry 26) -/
def State.stepOne (s : State) (cause freeze : Nat) : State :=
  let s1 := ((s.unfreeze freeze).evalDone .agree).lpStop
  let s2 : State := { s1 with le := { s1.le with stopped := true, cur := none } }
  ((s2.dtSend .depart 4 [cause]).alvOutStop).alvExtStop

/-- The module is held in reset (R53, R56): tasks, windows and links are gone; the words stay until release. -/
def State.hold (s : State) (kind : Nat) : State :=
  { s with
    pw := { s.pw with phase := .held, kind := kind, alvRun := false, alvOut := false, roleOut := false, alvExt := false, alvArmed := false
                      pfStep := 0, pfDone := [], pfEarly := false }
    sch := {}
    lp := {}
    fc := { s.fc with stack := [], queue := [] }
    oc := {}
    upd := { s.upd with stopping := false } }.wr F.SCH_STAT_STATE 0

/-- A module reset (R56): steps 1 and 2, then the reset; no power-fail record. After a fault reaction or a command the module-reset window
lasts until release (spec/15 R443, R447). -/
def State.moduleReset (s : State) (kind : Nat) : State :=
  let s1 := ((s.stepOne 2 3).flushNow).hold kind
  { s1 with fc := { s1.fc with resetWindow := kind == 3 || kind == 4 } }

/-! ## Release (R36, Table 2-4 t0) -/

/-- AON words and verdicts that stand through a reset (spec/09 R251; Table 2-12): feeds, hold-up, board temperature, the oscillator, the filtered
partner inputs, the slot identity. (DESIGN CHOICE: log entry 25) -/
def aonWords : List Nat := [W.SLOT_STAT, W.FEED_A_MV, W.FEED_B_MV, W.HOLDUP, W.BOARD_TEMP, W.AON_STAT]

/-- Verdicts of PAIR_STAT that the AON domain keeps, and the presence that follows from them (spec/09 R251). (DESIGN CHOICE: log entry 25) -/
def State.keepVerdicts (s t : State) : State :=
  (((t.flag F.PAIR_STAT_SEATED (s.on F.PAIR_STAT_SEATED)).flag F.PAIR_STAT_CLAIM (s.on F.PAIR_STAT_CLAIM)).flag F.PAIR_STAT_ALV_OK
    (s.on F.PAIR_STAT_ALV_OK)).flag F.PAIR_STAT_PRESENT (s.on F.PAIR_STAT_SEATED && s.on F.PAIR_STAT_ALV_OK)

/-! ## The Glue-up record (spec/17 R479) -/

/-- The CRC-32 of a copy: over its sequence number and the fields of Table 17-3, each as a word. (DESIGN CHOICE: log entry 76) -/
def GlueCopy.crc32 (c : GlueCopy) : Word :=
  Machine.crc32 (leBytes 4 c.seq ++ leBytes 4 c.glue.state ++ leBytes 4 c.glue.origin ++ leBytes 4 c.glue.setSeq ++ leBytes 4 c.glue.crc.toNat)

/-- A copy counts if it passes its CRC. -/
def GlueCopy.passed (c : Option GlueCopy) : Option GlueCopy := c.filter fun (x : GlueCopy) => x.crc == x.crc32

/-- The newer copy that passes its CRC. -/
def Upd.glueNewest (u : Upd) : Option GlueCopy :=
  match GlueCopy.passed u.glueA, GlueCopy.passed u.glueB with
  | some a, some b => if a.seq < b.seq then some b else some a
  | some a, none => some a
  | none, b => b

/-- The Glue-up record in force; with no copy that passes, STATE is none of Table 17-3. -/
def Upd.glue (u : Upd) : Glue := match u.glueNewest with | some c => c.glue | none => ⟨0, 0, 0, 0⟩

/-- Writes the Glue-up record into the copies by turns. -/
def Upd.putGlue (u : Upd) (g : Glue) : Upd :=
  let n := ((u.glueNewest.map (·.seq)).getD 0) + 1
  let c : GlueCopy := ⟨n, g, 0⟩
  let c1 : Option GlueCopy := some { c with crc := c.crc32 }
  if n % 2 = 1 then { u with glueA := c1 } else { u with glueB := c1 }

/-- The set in force, as the words of the update block report it (spec/17 Tables 17-10, 17-11). -/
def State.showSet (s : State) : State :=
  let g := s.upd.glue
  let s1 := ((s.wr F.UPD_STAT_GLUE g.state).wr F.UPD_STAT_ORIGIN g.origin).wr F.BENCH_STAT_LOCK s.upd.lock
  let s2 := (s1.setWord W.SET_SEQ (BitVec.ofNat 32 g.setSeq)).setWord W.SET_ID g.crc
  let s3 := s2.setWord (W.PART_VER 0) Config.loaderVersion
  match s.upd.manifest with
  | none => s3
  | some m => m.entries.foldl (fun (s : State) (e : ManifestEntry) => s.setWord (W.PART_VER e.part) e.version) s3

/-- Outage in AON ticks, if it is known (R60): the record is not used, the backup ran without a break and not on the RC oscillator, 72 h at most. -/
def State.outage (s : State) : Option Nat :=
  match s.pfNewest with
  | none => none
  | some r =>
    let d := s.aonTicks - r.t0
    if r.used || !s.pw.backupUnbroken || s.on F.AON_STAT_RC_MODE || decide (72 * 3600 * 32768 < d) then none else some d

/-- What release re-initialises (R59, R64, R65): every word at its reset value but those of the AON domain and those that MRAM and the image store
keep; the record is reported and marked used. (DESIGN CHOICE, DEDUCED: log entries 25, 70) -/
def State.reinit (s : State) : State :=
  let out := s.outage
  let rec0 := s.pfNewest
  let t : State := { s with
    words := aonWords.foldl (fun (w : Words) i => wset i (s.word i) w) []
    pw := { s.pw with phase := .loading, releaseNs := s.ns, tasksBegan := false, alvRun := false }
    sch := { ttOff := -((s.ns / 1000 : Nat) : Int) }
    lp := {}
    prot := {}
    fc := {}
    recd := {}
    pair := {}
    ring := {}
    plant := {}
    ptp := { atNs := s.ns }
    sr := {}
    le := {}
    oc := {}
    can := {}
    prog := none
    mrt := { s.mrt with frame := none, viewHold := none, mrecNs := none }
    vn := { temp := s.vn.temp }
    lio := { s.lio with
      good := 0, missed := 0, lossNs := none, held := false, out := none, hart := none, doCmd := 0, ucCmd := List.replicate 8 hiZ
      failApplied := false, everValid := false }
    upd := { s.upd with target := if s.pw.kind = 5 then s.upd.target else none, left := [], offered := false, stopping := false }
    mram := { s.mram with bootCount := satAdd 0xFFFFFFFF s.mram.bootCount 1 } }
  let t1 := s.keepVerdicts t
  let t2 := match s.mram.restartCfg with | some v => t1.setWord W.RESTART_CFG v | none => t1
  let t3 := ((t2.wr F.RESET_CAUSE_CAUSE s.pw.kind).setWord W.BOOT_COUNT (BitVec.ofNat 32 t2.mram.bootCount)).flag F.OC_STAT_AREA (s.mram.area == 1)
  let t4 := (t3.wr F.EPOCH s.storedEpoch).wr F.EPOCH_SEEN s.storedEpoch
  let t5 := match out with
    | some d => t4.setWord W.OUTAGE_MS (BitVec.ofNat 32 (openRoundN (d * 1000) 32768))
    | none => t4.setWord W.OUTAGE_MS 0xFFFFFFFF#32
  let t6 := match rec0 with
    | none => t5
    | some r => ((t5.wr F.PWR_STAT_PF_CAUSE r.cause).flag F.PWR_STAT_PF_COMPLETE r.complete).wr F.PWR_STAT_PF_STEP r.step
  let t7 := match rec0 with | none => t6 | some r => t6.pfWrite { r with used := true }
  let t8 := (t7.flag F.PAIR_STAT_SLOT t7.inSlot2).emit .field .level (0 :: List.replicate 8 hiZ)
  (t8.flag F.OC_STAT_LOADED (t8.newImage.isSome && t8.mram.checked)).setWord W.OC_VER_NEW (BitVec.ofNat 32 ((t8.newImage.map (·.version)).getD 0))

/-! ## The restart decision (R60) -/

/-- The mode that RESTART_CFG requests (R60 step 1, Table 2-13). -/
def State.requestedMode (s : State) : Nat :=
  if s.pw.kind = 1 || s.pw.kind = 2 then (if s.rd F.RESTART_CFG_AFTER_POWER = 0 then 1 else s.rd F.RESTART_CFG_AFTER_POWER)
  else if s.rd F.RESTART_CFG_AFTER_RESET = 2 then 2 else 1

/-- The first condition of R60 step 2, as REASON. -/
def State.notHot (s : State) : Nat :=
  let out := (s.word W.OUTAGE_MS).toNat
  let lim := s.rd F.RESTART_CFG_HOT_MAX_OUTAGE
  if s.pw.kind ≠ 1 && s.pw.kind ≠ 2 then 1
  else if s.mram.pfVersion.isNone || s.mram.pfVersion ≠ s.prog.map Image.version then 2
  else if ((s.pfNewest.map (·.step)).getD 0) < 3 then 3
  else if out = 0xFFFFFFFF || (lim ≠ 0 && 1000 * lim < out) then 4
  else if s.mram.journalOvf then 5
  else 0

/-- The first test of R60 step 3 that holds, as REASON. -/
def State.notWarm (s : State) : Nat :=
  let p := s.prog
  if !s.mram.ran then 7
  else if p.any (fun (p : Image) => p.retained != []) && (!s.mram.retainOk || s.mram.retainFor != p.map (·.lineage)) then 6
  else if s.mram.dataOwner != p.map (·.lineage) then 8
  else 0

/-- Mode performed and first reason for a fallback, from the mode requested (R60). A version mark that no longer fits counts behind a failed
integrity check: a rewrite cut short before the retentive ranges gives REASON 6 (spec/07 R212). (DEDUCED: log entry 29) -/
def State.restartMode (s : State) (req : Nat) : Nat × Nat :=
  let r2 := if req = 3 then s.notHot else 0
  let m := if r2 ≠ 0 then 2 else req
  let r3 := if m = 1 then 0 else s.notWarm
  (if r3 ≠ 0 then 1 else m, if r2 ≠ 0 && !(r2 == 2 && r3 == 6) then r2 else r3)

/-! ## The data areas (R62) -/

/-- A key lies in a list of ranges. -/
def inRanges (l : List (Nat × Nat)) (k : Nat) : Bool := l.any (fun r => decide (r.1 ≤ k) && decide (k < r.2))

/-- A list of journal lines with one more, the cycle that started latest first. -/
def insertLine (x : JLine) : List JLine → List JLine
  | [] => [x]
  | y :: t => if y.order ≤ x.order then x :: y :: t else y :: insertLine x t

/-- Rolls back every interrupted cycle, the latest-started first (R61). -/
def rollback (l : List JLine) (m : List Host.Cell) : List Host.Cell :=
  (l.foldl (fun (a : List JLine) x => insertLine x a) []).foldl (fun (m : List Host.Cell) (x : JLine) =>
    x.old.foldl (fun (m : List Host.Cell) (c : Host.Cell) => mset c.1 c.2 m) (mclear x.key (x.key + 64) m)) m

/-- LAST of every timer instance kept is TT (spec/04 R121). -/
def holdTimers (p : Image) (tt : Nat) (kept : Nat → Bool) (m : List Host.Cell) : List Host.Cell :=
  p.insts.foldl (fun (m : List Host.Cell) (d : InstDecl) =>
    let k := cellKey 0 ⟨5, 0, 32 * d.n⟩
    if d.area = 5 && kept k then msetList (k + 24) (leBytes 6 tt) m else m) m

/-- The cells that a restart mode gives the data areas: 1 COLD, 2 WARM, 3 HOT (R61, R62; spec/04 R121). -/
def State.restartCells (s : State) (p : Image) (mode : Nat) : List Host.Cell :=
  let fresh := p.freshCells
  let tt := s.ttNow % 2 ^ 48
  if mode = 3 then
    holdTimers p tt (fun _ => true) (mclear 0 (2 ^ 40) (rollback s.mram.journal s.mram.copy))
  else if mode = 2 then
    let ranges := p.retained
    let m := fresh.filter (fun (c : Host.Cell) => !inRanges ranges c.1)
    holdTimers p tt (inRanges ranges) ((s.mram.retain.filter (fun (c : Host.Cell) => inRanges ranges c.1)).foldl
      (fun (m : List Host.Cell) (c : Host.Cell) => mset c.1 c.2 m) m)
  else fresh

/-- Prepares the data areas of the running bank for a mode (Table 2-4 t4). (DEDUCED: log entry 29) -/
def State.prepare (s : State) (mode : Nat) : State :=
  match s.prog with
  | none => s
  | some p => { s with mem := putBank s.bank (s.restartCells p mode) s.mem }

/-- The version in the running area becomes the program (R57; spec/06 R187; spec/07 Table 7-7). -/
def State.adopt (s : State) : State :=
  let p := nth none s.mram.areas s.mram.area
  let s1 := { s with prog := p }.setWord W.OC_VER_RUN (BitVec.ofNat 32 ((p.map Image.version).getD 0))
  match p with
  | none => s1
  | some q => q.tasks.foldl (fun (s : State) (d : TaskDecl) => s.flag (F.XMODE_NONCRIT d.id) d.noncrit) s1

/-- A rewrite of the MRAM copy that was cut short (spec/07 R212): whether the retentive ranges had been written is open. (DESIGN CHOICE: log entry 24) -/
def State.rewriteCut (s : State) : State :=
  if !s.mram.rewriting then s
  else
    let w := Config.retentiveWritten s.freeCtr
    let kept := match s.prog with
      | some p => (bankCells s.bank s.mem).filter (fun (c : Host.Cell) => inRanges p.retained c.1)
      | none => []
    { s.drawn with mram := { s.mram with rewriting := false, retain := if w then kept else s.mram.retain, retainOk := s.mram.retainOk && w } }

/-- The layout of the MRAM containers at the first start of a set (spec/17 R485). -/
def State.migrate (s : State) : State :=
  let ver := (s.upd.manifest.map (·.dataVer)).getD 0
  let low := (s.upd.manifest.map (·.dataMin)).getD 0
  let found := s.upd.dataVer
  let s1 := (s.wr F.UPD_STAT_B_FOUND found).wr F.UPD_STAT_B_VER ver
  if s.upd.ranSet then s1
  else
    let s2 : State := { s1 with upd := { s1.upd with ranSet := true, dataVer := ver } }
    if ver < found || found < low then
      { (s2.flag F.UPD_STAT_MIG_FAIL true).raise 61 0 found ver with mram := { s2.mram with retainOk := false } }
    else s2

/-- FIRMWARE_START (R57 t3–t4, R60, R61, R48; spec/17 R482, R485): firmware runs, the mode is decided, the data areas are prepared. -/
def firmwareStartOp (s : State) : State :=
  if s.pw.phase != .checked then s
  else
    let tb := if s.pw.backupUnbroken && s.on F.AON_STAT_BACKUP_VALID
      then s.pw.backupTime + openRoundN ((s.aonTicks - s.pw.backupTicks) * 1000000000) 32768 else 0
    let can := nth DomMode.off s.pw.doms 10
    let s1 := s.setPw { s.pw with
      phase := .prepared, alvRun := true
      doms := [.run, .run, .run, .run, .run, .run, .run, .run, .run, .run, can, nth DomMode.off s.pw.doms 11, .run, .run] }
    let s2 : State := { s1 with ptp := { base := tb, atNs := s.ns } }
    let s3 := s2.adopt.rewriteCut.showSet.migrate
    let s4 := (s3.wr F.UPD_STAT_FAIL_REASON s3.upd.failReason).wr F.UPD_STAT_FAIL_PART s3.upd.failPart
    let s5 := if s4.upd.failNew then { s4 with upd := { s4.upd with failNew := false } }.raise 60 0 s4.upd.failReason s4.upd.failPart else s4
    let req := s5.requestedMode
    let (mode, why) := s5.restartMode req
    let s6 := ((s5.wr F.START_INFO_REQUESTED req).wr F.START_INFO_PERFORMED mode).wr F.START_INFO_REASON why
    let s7 : State := { s6.prepare mode with pair := { s6.pair with startMode := mode } }
    s7.note 0x0010 s.pw.kind (s7.word W.START_INFO).toNat (s7.word W.PWR_STAT).toNat (s7.word W.OUTAGE_MS).toNat

/-! ## The settings image (R63) -/

/-- A word takes the setting fields that an image holds. -/
def State.restoreWord (s : State) (e : Nat × Word) : State :=
  let m := (rowOr e.1).rw
  s.setWord e.1 ((s.word e.1 &&& ~~~m) ||| (e.2 &&& m))

/-- The CAN buffers take their settings (spec/13 R395). -/
def State.restoreBufs (s : State) : State :=
  let buf := fun (c : Nat) => (s.mram.canBufs.filter (fun (e : Nat × List Nat) => e.1 / 64 == c)).foldl
    (fun (t : Tab Buf) (e : Nat × List Nat) =>
      tput (e.1 % 64) { cfg := BitVec.ofNat 32 (nth 0 e.2 0), id := nth 0 e.2 1, mask := nth 0 e.2 2 } t) []
  { s with can := { ch0 := { s.can.ch0 with bufs := buf 0 }, ch1 := { s.can.ch1 with bufs := buf 1 } } }

/-- The staged protection rules, made active with PR_EPOCH 1 (spec/15 R436). -/
def State.restoreRules (s : State) : State :=
  ({ s with prot := { s.prot with staged := s.mram.rules, active := s.mram.rules } }.setWord W.PR_EPOCH 1).showStaged

/-- The settings image is written back: words, CAN buffers, protection rules (R63). (DESIGN CHOICE: log entry 30) -/
def State.restoreSettings (s : State) : State := ((s.mram.settings.foldl State.restoreWord s).restoreBufs).restoreRules

/-- Under COLD and WARM the settings image is rebuilt by the start task (R63): it begins as the current values of the settings. -/
def State.forgetSettings (s : State) : State :=
  let bufs := fun (c : Nat) (b : Tab Buf) => b.map fun (e : Nat × Buf) => (64 * c + e.1, [e.2.cfg.toNat, e.2.id, e.2.mask])
  { s with mram := { s.mram with
    settings := (s.words.filter fun (e : Nat × Word) => isSetting e.1).map fun (e : Nat × Word) => (e.1, e.2 &&& (rowOr e.1).rw)
    canBufs := bufs 0 s.can.ch0.bufs ++ bufs 1 s.can.ch1.bufs
    rules := s.prot.staged } }

/-- What MRAM keeps once a start is made: the retentive ranges and, in HOT mode, the full copy of the areas as prepared; the journal starts empty
(R60, R61). (DEDUCED: log entry 29) -/
def State.mramBegin (s : State) : State :=
  let s1 := { s with mram := { s.mram with
    ran := true, retainOk := true, retainFor := s.prog.map Image.lineage, dataOwner := s.prog.map Image.lineage
    journal := [], jsealed := false, journalOvf := false } }
  (s1.flag F.OC_STAT_MRAM_SYNC true).mramKeep

end Sys2Proof.Machine
end

