-- ==== Sys2Proof/Machine/PairOps.lean ====
section
/-! DEFINITION. The redundant pair (spec/09): presence, heartbeats, the link, the standby's stream, the start decision, takeover and handover,
and resynchronisation. -/

namespace Sys2Proof.Machine

def State.setPair (s : State) (x : Pair) : State := { s with pair := x }

/-- The pair firmware runs (R251). -/
def State.pairUp (s : State) : Bool := s.netUp && s.pw.phase != .loading && s.pw.phase != .checked

/-- A tick lies on the grid of a cyclic task (spec/05 R141). -/
def State.onGrid (s : State) (t k : Nat) : Bool := s.period t != 0 && k % s.period t == s.rd (F.TCFG_PHASE t)

/-- A cyclic task's planned release (spec/05 R141, R145), with the loops it hosts: a release at the first grid point that does not lie on the
task's own grid is not numbered (spec/08 R217). -/
def State.gridRelease (s : State) (t : Nat) : State :=
  let made := (s.rt t).st == .idle
  let s1 := if made then s.release t 0 false else ((s.inc (F.TSTAT_OVR_CNT t)).flag (F.TSTAT_OVR t) true).raise 16 t 0 0
  if s.onGrid t s.tick then s1.loopGrid t made else s1

/-- A cyclic task's planned release falls due at a tick (spec/05 R141). -/
def State.dueAt (s : State) (t k : Nat) : Bool := s.enabled t && s.onGrid t k

/-! ## Presence (R250–R252) -/

/-- Shows whether the partner is present, and its role; SOLO and ACTIVE follow (R251, R284). While SEATED does not hold a valid heartbeat counts
as presence (R252). A partner that is present ends an orphaning (R281). (DEDUCED: log entry 47) -/
def State.showPresent (s0 : State) : State :=
  let p := if s0.on F.PAIR_STAT_SEATED then s0.on F.PAIR_STAT_HB_OK || s0.on F.PAIR_STAT_ALV_OK else s0.pair.hbRun != 0
  let s := if p then s0.setPair { s0.pair with orphaned := false } else s0
  let gone := !p && s.role == roleActive && s.pairUp
  let s1 := if gone then s.stopForward.setRole roleSolo else s
  let s2 := (s1.flag F.PAIR_STAT_PRESENT p).wr F.PAIR_STAT_PARTNER_ROLE (if p then (s.pair.partner.map (·.role)).getD 0xF else 0xF)
  if p && s2.role == roleSolo && s2.pairUp then s2.setRole roleActive else s2

/-- ALV_OUT_TOGGLE (R250). -/
def alvOutToggleOp (s : State) : State :=
  if !s.pw.alvRun then s else (s.setPw { s.pw with alvOut := !s.pw.alvOut }).emit .field .level [2, bitNat (!s.pw.alvOut)]

/-- LIVENESS_LAPSE (R250, R255). -/
def livenessLapseOp (s : State) : State := if !s.pw.alvRun then s else s.alvOutStop

/-- ALV_EDGE (R251, R252). (DEDUCED: log entry 47) -/
def alvEdgeOp (s : State) : State := ((s.setPair { s.pair with alvIgnored := false }).flag F.PAIR_STAT_ALV_OK true).showPresent

/-- The alive signal is dead while heartbeats come: its verdict is ignored until an edge returns (R252). -/
def State.alvFault (s : State) : State :=
  ((s.setPair { s.pair with alvIgnored := true }).flag F.PAIR_EVT_ALV_FAULT true).raise 29 0 0 0

/-- ALV_DEAD (R251, R252). A standby that has lost the heartbeats and still sees the witness raises FS29 as well (Table 9-8). (DEDUCED: log entry 47) -/
def alvDeadOp (s : State) : State :=
  let s1 := s.flag F.PAIR_STAT_ALV_OK false
  let s2 := if s.on F.PAIR_STAT_HB_OK then s1.alvFault
    else if s.isStandby && s.on F.PAIR_STAT_RING_OK then s1.raise 29 0 0 0
    else s1
  s2.showPresent

/-! ## The start decision (R265, R266, R275, R278) -/

/-- The decision ends with a role. -/
def State.decided (s : State) (r : Nat) : State :=
  (s.setPair { s.pair with deciding := false, claimed := false }).setRole r
    |>.setPw { s.pw with phase := if s.pw.phase == .prepared then .ready else s.pw.phase }

/-- Lost, or step 1 of Table 9-6 holds: a standby performs no restart mode (spec/02 R60). -/
def State.lose (s : State) : State :=
  (((s.wr F.START_INFO_PERFORMED 0).wr F.START_INFO_REASON 0).setRoleOut false).decided roleUnsync

/-- The epoch may not rise further: STANDBY-UNSYNC instead (R278). -/
def State.epochLimit (s : State) : State := (s.flag F.PAIR_EVT_EPOCH_LIMIT true).raise 31 0 0 0

/-- Won: E := H + 1, ROLE_OUT low, SOLO or ACTIVE (Table 9-6 step 4). -/
def State.win (s : State) : State :=
  if 0xFFFFFFFE ≤ s.rd F.EPOCH_SEEN then s.epochLimit.lose
  else
    let s1 := (s.setEpoch (s.rd F.EPOCH_SEEN + 1)).setRoleOut true
    s1.decided (if s1.on F.PAIR_STAT_PRESENT then roleActive else roleSolo)

/-- The partner's heartbeats report ACTIVE or SOLO. -/
def State.partnerActs (s : State) : Bool :=
  s.on F.PAIR_STAT_HB_OK && s.pair.partner.any (fun d => d.role == roleActive || d.role == roleSolo)

/-- Step 1 of Table 9-6, as far as it holds at once. -/
def State.decideFirst (s : State) : State := if s.partnerActs || s.on F.PAIR_STAT_CLAIM then s.lose else s

/-- ROLE_DECISION_START (R265). -/
def roleDecisionStartOp (s : State) : State :=
  if s.pw.phase != .prepared || s.pair.deciding then s
  else (s.setPair { s.pair with deciding := true, claimed := false }).decideFirst

/-- A decision afresh (R266, R281): the tasks are as after a reset, the data areas are prepared for the mode where one is given. (DEDUCED: log entry 50) -/
def State.decideAfresh (s : State) : State :=
  let s0 := s.idleTasks
  let s1 : State := { s0 with
    lp := { breakpoints := s.lp.breakpoints }
    pair := { s.pair with deciding := true, claimed := false }
    pw := { s.pw with phase := .prepared } }
  (s1.wr F.SCH_STAT_STATE 0).decideFirst

/-- Rank of a start record: restart mode, stored epoch, slot 1 first (Table 9-6 step 2). -/
def outranks (mode epoch : Nat) (slot1 : Bool) (mode2 epoch2 : Nat) : Bool :=
  if mode ≠ mode2 then decide (mode2 < mode) else if epoch ≠ epoch2 then decide (epoch2 < epoch) else slot1

/-- START_RECORD_EXCHANGE (R265): the partner's record. A partner in LOADER or STANDBY-UNSYNC takes no part (spec/17 R488). (DEDUCED: log entry 50) -/
def startRecordExchangeOp (mode epoch : Nat) (s : State) : State :=
  if !s.pair.deciding || !s.on F.DT_STAT_LINK_UP then s
  else
    let s1 := (s.seeEpoch epoch).emit .dovetail .startRecord [s.pair.startMode, s.storedEpoch]
    if s.pair.partner.any (fun d => d.role == roleUnsync) || outranks s.pair.startMode s.storedEpoch (!s.inSlot2) mode epoch then s1.win
    else s1.lose

/-- The partner is not one that step 2 decides with: the link is down, or its heartbeats show no role outside the decision. -/
def State.aloneNow (s : State) : Bool := !s.on F.DT_STAT_LINK_UP || !s.pair.partner.any (fun d => d.role != roleLoader)

/-- ROLE_CLAIM_INSTANT (R265 step 3). (DEDUCED: log entry 50) -/
def roleClaimInstantOp (roleInLow witness : Bool) (s : State) : State :=
  if !s.pair.deciding || s.pair.claimed || !s.aloneNow then s
  else if roleInLow || witness then s.lose
  else (s.setPair { s.pair with claimed := true }).setRoleOut true

/-- ROLE_CLAIM_CHECK (R265 step 3). (DEDUCED: log entry 50) -/
def roleClaimCheckOp (roleInLow witness : Bool) (s : State) : State :=
  if !s.pair.deciding || !s.pair.claimed then s
  else
    let s1 := if roleInLow then (s.flag F.PAIR_EVT_ARB_CONFLICT true).raise 29 1 0 0 else s
    if witness || (roleInLow && s.inSlot2) then s1.lose else s1.win

/-- SEATED_CHANGE (R251, R273). -/
def seatedChangeOp (seated : Bool) (s : State) : State :=
  let s1 := (s.flag F.PAIR_STAT_SEATED seated).flag F.SLOT_STAT_SEATED seated
  let s2 := if !seated && s.pair.verdict then (s1.wr F.LAST_TAKEOVER_VERDICT 3).setPair { s1.pair with verdict := false } else s1
  s2.showPresent

/-- CLAIM_CHANGE (R251, R265 step 1). -/
def claimChangeOp (claim : Bool) (s : State) : State :=
  let s1 := s.flag F.PAIR_STAT_CLAIM claim
  if claim && s.pair.deciding && !s.pair.claimed then s1.lose else s1

/-! ## Synchronisation, takeover, handover (R262, R269–R274) -/

/-- A drop of synchronisation, which on trial fails the trial too (R262; spec/07 Table 7-5, step 3a). -/
def State.drop (s : State) (cause : Nat) : State :=
  let s1 := s.trialBad.syncDrop cause
  if s.oc.toTrial then s1.ocEnd 11 else s1

/-- A handover or takeover and an online change: abandoned before TRIAL, completed from TRIAL on (R274). -/
def State.ocAtTakeover (s : State) : State :=
  if s.ocPhase = 0 then s
  else if s.on F.OC_STAT_TRIAL then (s.flag F.OC_STAT_TRIAL false).ocEnd 1
  else s.ocEnd 2

/-- Planned releases that fell due in a tick: released now, or counted as dropped in the Kerf (R270 step 6). -/
def State.releasesAt (s : State) (k : Nat) : List Nat := (List.range 32).filter (fun t => s.dueAt t k)

/-- The releases of the tick in which the decision falls, but for those the stream has made (R270 step 6). -/
def State.releaseDue (s : State) : State :=
  let start := 50000 * s.tick
  (s.releasesAt s.tick).foldl (fun s t =>
    let r := s.rt t
    if r.st != .idle && decide (start ≤ 1000 * s.ttNow) && decide (s.ns - r.relNs ≤ 1000 * s.ttNow - start) then s
    else if s.mayRelease then s.gridRelease t else s) s

/-- Takeover or handover (R270): kind of Table 9-17. The Kerf's ticks are those that begin after the partner's last heartbeat (R271). Releases and
writes of the stream that wait are still made (R270 step 5). (DEDUCED: log entry 51) -/
def State.takeOver (s : State) (kind : Nat) : State :=
  if 0xFFFFFFFE ≤ s.rd F.EPOCH_SEEN then (s.setRole roleUnsync).epochLimit
  else
    let un := s.role == roleUnsync
    let kerf := s.pair.kerf
    let s1 := (((s.setEpoch (s.rd F.EPOCH_SEEN + 1)).setRole roleActive).setRoleOut true).sendWitness
    let s2 := ((((s1.inc F.TAKEOVER_CNT).wr F.LAST_TAKEOVER_KIND kind).wr F.LAST_TAKEOVER_VERDICT 0).flag F.LAST_TAKEOVER_FROM_UNSYNC un)
      |>.setWord W.LAST_KERF_NS (BitVec.ofNat 32 (if kerf = 0 then 0 else s.ns - s.pair.missNs))
    let drops := ((List.range (kerf - 1)).map (fun i => (s.releasesAt (s.tick - 1 - i)).length)).foldl (· + ·) 0
    let s3 : State := { s2.incBy F.KERF_DROPS drops with
      pair := { s2.pair with verdict := true, missed := 0, kerf := 0, hbLost := false, inOpen := none, handover := none, fwdStopped := true, partnerTrial := false,
                             marked0 := false, preempts := [], theirs := [], ours := [], deciding := false, retryWait := false }
      lio := { s2.lio with out := if s.on F.PAIR_CFG_LOCAL_MIRROR then s2.lio.out else none } }
    let s4 := (s3.wr F.RESYNC_STAT_PHASE 0).ocAtTakeover.releaseDue.takeoverRings
    (s4.raise 24 0 kind s4.epoch).showPresent

/-- The module shadows and is not detached: it may take over (R269, R281, R282). (DEDUCED: log entry 51) -/
def State.mayTakeOver (s : State) : Bool :=
  s.shadowing && !s.on F.RESYNC_STAT_DETACHED && (s.role == roleSync || s.rd F.RESYNC_STAT_PHASE != 5)

/-- TAKEOVER_VERDICT (R273). (DEDUCED: log entry 51) -/
def takeoverVerdictOp (alvDead : Bool) (s : State) : State :=
  if !s.pair.verdict then s
  else
    let s1 := s.setPair { s.pair with verdict := false }
    if s.pair.alvIgnored then s1
    else ((s1.wr F.LAST_TAKEOVER_VERDICT (if alvDead then 1 else 2)).flag F.PAIR_STAT_ALV_OK (!alvDead)).showPresent

/-- The active hands over at the tick after the next (R274). -/
def State.handOver (s : State) (kind : Nat) : State :=
  if s.pair.handover.isSome then s
  else (s.setPair { s.pair with handover := some (s.tick + 2, kind) }).dtSend .handover 8 [s.tick + 2]

/-- HANDOVER (R274, R287). -/
def handoverOp (s : State) : State :=
  if s.role = roleActive && s.partnerRole = roleSync && s.on F.DT_STAT_LINK_UP then s.handOver 2
  else if s.role = roleSync && s.on F.DT_STAT_LINK_UP then s.dtSend .handover 8 [0]
  else s.flag F.PAIR_EVT_HO_REFUSED true

/-- RINGDOWN_TIMEOUT (R274). -/
def ringdownTimeoutOp (s : State) : State :=
  if s.role = roleActive && s.on F.PAIR_CFG_RINGDOWN_HO && !s.on F.RING_STAT_LINK_A && !s.on F.RING_STAT_LINK_B
      && s.pair.partner.any (fun d => d.linkA || d.linkB) then
    (if s.partnerRole = roleSync then s.handOver 3 else s.flag F.PAIR_EVT_HO_REFUSED true)
  else s

/-- The active at tick h (R274 step 2): its LP stops, and it is STANDBY-UNSYNC. -/
def State.handedOver (s : State) : State :=
  let s1 := (s.lpStop.setPair { s.pair with handover := none, fwdStopped := true, marking := false, marked := [], cutover := false }).ocAtTakeover
  (s1.setRoleOut false).setRole roleUnsync

/-! ## The link (R253–R256) -/

/-- A link fault (R256): FS25, and synchronisation is lost with cause LINK while HB_OK holds (Table 9-5). Without HB_OK a standby's witness decides
first, and a takeover that the loss has led to raises none (R279, R285). (DEDUCED: log entry 47) -/
def State.dtFault (s : State) : State :=
  if s.pair.linkFault then s
  else
    let s0 := s.setPair { s.pair with linkFault := true }
    let s1 := if s.on F.PAIR_STAT_HB_OK || !(s.shadowing || s.pair.verdict) then s0.raise 25 0 0 0 else s0
    let s2 := if s1.isActive then s1.stopForward else s1
    if s.on F.PAIR_STAT_HB_OK then s2.drop 3 else s2

/-- DOVETAIL_LINK_UP (R253): both directions count SEQ from 1. -/
def dovetailLinkUpOp (s : State) : State :=
  if !s.pairUp then s
  else (s.setPair { s.pair with linkFault := false, txSeq := 0, rxSeq := 0, acked := 0, replay := [], resent := [], naks := 0 }).flag
    F.DT_STAT_LINK_UP true

/-- DOVETAIL_LINK_DOWN (R253, R256). -/
def dovetailLinkDownOp (s : State) : State := if !s.on F.DT_STAT_LINK_UP then s else s.dtFault.flag F.DT_STAT_LINK_UP false

/-- A received frame is dropped: DT_ERR, and a NAK that names the first SEQ missing (R254, R256). A SEQ dropped four times is a link fault. (DEDUCED: log entry 48) -/
def State.dtDrop (s : State) (numbered : Bool) : State :=
  let n := if numbered then s.pair.naks + 1 else s.pair.naks
  let s1 := ((s.inc F.DT_ERR).setPair { s.pair with naks := n }).dtSendPlain .nak 4 [s.pair.rxSeq + 1]
  if numbered && 4 ≤ n then s1.dtFault else s1

/-- DOVETAIL_FRAME_DROP (R254, R256): `seq` of the dropped frame, 0 for HB and NAK. -/
def dovetailFrameDropOp (seq : Nat) (s : State) : State :=
  if !s.on F.DT_STAT_LINK_UP || !s.pairUp then s else s.dtDrop (seq != 0)

/-- The partner has acknowledged frames up to a SEQ (R256). -/
def State.dtAcked (s : State) (ack : Nat) : State :=
  if ack ≤ s.pair.acked then s
  else s.setPair { s.pair with
    acked := ack, replay := s.pair.replay.filter (fun (f : DtFrame) => decide (ack < f.seq))
    resent := s.pair.resent.filter (fun (e : Nat × Nat) => decide (ack < e.1))
    linkFault := s.pair.linkFault && !s.on F.DT_STAT_LINK_UP }

/-- NAK (R256, R275): its EPOCH and ACK are taken, and every frame from a SEQ on is sent again; a link fault if one of them has been sent again
three times, or if the frame is gone. -/
def nakOp (h : DtHdr) (seq : Nat) (s0 : State) : State :=
  if !s0.on F.DT_STAT_LINK_UP || !s0.pairUp then s0
  else
    let s := (s0.hearEpoch h.epoch).dtAcked h.ack
    let l := s.pair.replay.filter (fun (f : DtFrame) => decide (seq ≤ f.seq))
    if s.pair.txSeq < seq then s
    else if !l.any (fun (f : DtFrame) => f.seq == seq) || l.any (fun (f : DtFrame) => decide (3 ≤ tget 0 s.pair.resent f.seq)) then s.dtFault
    else
      let again := l.foldl (fun (t : Tab Nat) (f : DtFrame) => tput f.seq (tget 0 t f.seq + 1) t) s.pair.resent
      let s1 := (s.incBy F.DT_STAT_REPLAYS l.length).setPair { s.pair with resent := again }
      l.foldl (fun (s : State) (f : DtFrame) => s.emit .dovetail f.kind (s.dtHead f.kind true (f.len - 20) f.seq ++ f.data)) s1

/-- A numbered frame arrives: its CRC may be the Jig's to invert, its epoch and ACK are taken, and it is accepted in order (R254, R256, R275;
spec/15 R450). -/
def State.dtTake (s : State) (h : DtHdr) : Bool × State :=
  if !s.on F.DT_STAT_LINK_UP || !s.pairUp || s.dtMute then (false, s)
  else
    let (bad, s0) := s.jigCheck 5
    if bad then (false, s0.dtDrop true)
    else
      let s1 := (s0.hearEpoch h.epoch).dtAcked h.ack
      if h.seq = s1.pair.rxSeq + 1 then (true, s1.setPair { s1.pair with rxSeq := h.seq, naks := 0 })
      else if h.seq ≤ s1.pair.rxSeq then (false, s1)
      else (false, s1.dtSendPlain .nak 4 [s1.pair.rxSeq + 1])

/-- What a numbered frame does if it is accepted. It also shows that the INPUT frames of the cycle before it have all arrived (R258). (DEDUCED: log entry 49) -/
def State.onFrame (s : State) (h : DtHdr) (f : State → State) : State :=
  let (ok, s1) := s.dtTake h
  if ok then f (s1.setPair { s1.pair with inOpen := none }) else s1

/-! ## Resynchronisation (R280–R282) -/

/-- The partner's set at a HELLO (spec/17 Table 17-10). -/
def State.seePartnerSet (s : State) : State := s.setWord W.PTN_SET_ID ((s.pair.partner.map (·.setId)).getD 0)

/-- HELLO begins. -/
def State.resyncStart (s : State) : State :=
  let s1 := (((s.wr F.RESYNC_STAT_PHASE 1).wr F.RESYNC_STAT_ROUNDS 0).flag F.RESYNC_STAT_PROG_COPY false).seePartnerSet
  s1.setPair { s.pair with
    resyncNs := s.ns, retryWait := false, agreed := [], agreeCnt := 0, copyDone := false, marked0 := false
    releases := [], inputs := [], preempts := [], extwrites := [], theirs := [], ours := []
    budgetRetries := if s.pair.budgetDrop then s.ns :: s.pair.budgetRetries else s.pair.budgetRetries }

/-- BUDGET losses have used up the automatic resynchronisations of the last 10 min (R264). -/
def State.budgetSpent (s : State) : Bool :=
  s.pair.budgetDrop
    && decide (s.rd F.PAIR_CFG_BUDGET_RETRY ≤ (s.pair.budgetRetries.filter (fun n => decide (s.ns ≤ n + 600000000000))).length)

/-- The conditions of R280 for resynchronising from the active. -/
def State.mayResync (s : State) : Bool :=
  s.role == roleUnsync && !s.pair.deciding && !s.on F.RESYNC_STAT_DETACHED && s.on F.DT_STAT_LINK_UP && !s.on F.OC_STAT_TRIAL && !s.oc.toTrial
    && s.pair.partner.any (fun d => d.role == roleActive && d.schState == 2)

/-- The automatic start of resynchronisation (R264, R276, R280). -/
def State.autoResync (s : State) : State :=
  if s.mayResync && s.on F.PAIR_CFG_RESYNC_AUTO && s.rd F.RESYNC_STAT_PHASE == 0 && !s.pair.retryWait && !s.budgetSpent then s.resyncStart
  else s

/-- Detaching (R282). -/
def State.detach (s : State) : State :=
  if !s.isStandby then s else ((s.drop 6).flag F.RESYNC_STAT_DETACHED true).wr F.RESYNC_STAT_PHASE 0

/-- RESYNC on a standby (R282). -/
def State.resyncCmd (s : State) : State :=
  if !s.isStandby then s
  else
    let s1 := (s.flag F.RESYNC_STAT_DETACHED false).setPair { s.pair with budgetRetries := [], budgetDrop := false, retryWait := false }
    if s1.mayResync then s1.resyncStart else s1

/-- DETACH (R282, R287). -/
def detachOp (s : State) : State :=
  if s.role = roleActive then (s.setPair { s.pair with ptnDetached := true }).dtSend .detach 4 [] else s.detach

/-- RESYNC (R282, R287). (DEDUCED: log entry 49) -/
def resyncOp (s : State) : State := if s.role = roleActive then s.dtSend .resync 4 [] else s.resyncCmd

/-- PAIR_CLR_STATS (Table 9-16). -/
def pairClrStatsOp (s : State) : State :=
  ([W.TAKEOVER_CNT, W.HASH_SAME, W.HASH_DIFF, W.FWD_TICK_MAX, W.FWD_1MS_MAX, W.DT_ERR, W.KERF_DROPS].foldl (fun (s : State) i => s.setWord i 0) s).wr
    F.SYNC_INFO_LOSSES 0

/-- The active sends its data: the running bank, every loop context, and the settings image with its CAN buffers and rules (R280, IMAGE; spec/02
R63). -/
def State.sendImage (s : State) : State :=
  let cells := bankCells s.bank s.mem
  let s1 := (chunks 4080 cells.length cells).foldl (fun (s : State) (l : List Host.Cell) =>
    s.dtSend .bulk (8 + l.length) (0 :: l.flatMap (fun c => [c.1, c.2.toNat]))) s
  let s2 := s1.le.tab.foldl (fun (s : State) (e : Nat × LoopRt) => s.dtSend .bulk 288 (1 :: e.1 :: e.2.j :: (s.rt e.2.host).grid :: e.2.f.map (·.toNat))) s1
  let s3 := (chunks 500 s.mram.settings.length s.mram.settings).foldl (fun (s : State) (l : List (Nat × Word)) =>
    s.dtSend .bulk (8 + 8 * l.length) (2 :: l.flatMap (fun e => [e.1, e.2.toNat]))) s2
  let s4 := (chunks 250 s.mram.canBufs.length s.mram.canBufs).foldl (fun (s : State) (l : List (Nat × List Nat)) =>
    s.dtSend .bulk (8 + 16 * l.length) (9 :: l.flatMap (fun e => e.1 :: e.2))) s3
  (chunks 500 s.mram.rules.length s.mram.rules).foldl (fun (s : State) (l : List (Nat × Word)) =>
    s.dtSend .bulk (8 + 8 * l.length) (10 :: l.flatMap (fun e => [e.1, e.2.toNat]))) s4

/-- The active sends the marked lines and clears the marks (R280, CONVERGE and CUTOVER). -/
def State.sendMarked (s : State) : State :=
  if s.pair.marked = [] then s
  else
    (chunks 56 s.pair.marked.length s.pair.marked).foldl (fun (s : State) (l : List Nat) =>
      s.dtSend .bulk (72 * l.length) (0 :: l.flatMap (fun k => k :: (mgetList s.mem (64 * k) 64).map (·.toNat)))) (s.setPair { s.pair with marked := [] })

/-- The active follows the phase that the standby's heartbeats report (R280). -/
def State.serveResync (s : State) (old new : Nat) : State :=
  if !s.isActive then s
  else if new = 1 && old ≠ 1 then s.seePartnerSet
  else if new = 2 && old ≠ 2 then
    match s.prog with
    | some p => s.sendCode 3 p
    | none => s
  else if new = 3 && old ≠ 3 then (s.setPair { s.pair with marking := true, marked := [], cutover := false }).sendImage
  else if new = 4 then (if 1048576 < 64 * s.pair.marked.length then s.sendMarked else s)
  else if new = 5 && old ≠ 5 then s.setPair { s.pair with cutover := true }
  else if new = 0 then s.setPair { s.pair with marking := false, marked := [], cutover := false }
  else s

/-- The scheduler counts cycles from MARK on (R260). -/
def State.countFromMark (s : State) : State :=
  { s with sch := { s.sch with tasks := s.sch.tasks.map (fun (e : Nat × TaskRt) => (e.1, { e.2 with cyc := 0 })) } }

/-- RESYNC_CUTOVER_POINT (R280): MARK, then every line still marked; forwarding begins. Not while the LP is halted (spec/17 R494). -/
def resyncCutoverPointOp (s : State) : State :=
  if s.role ≠ roleActive || !s.pair.cutover || !s.quiet || s.lp.halted then s
  else
    let en := (List.range 96).filter s.enabled
    let s1 := s.countFromMark.dtSend .mark (20 + en.length) (s.tick :: s.ttNow :: 0 :: en)
    let s2 := s1.sendMarked
    (s2.setPair { s2.pair with cutover := false, marking := false, fwdStopped := false, prevLatch := [] }).setWord W.HASH_SAME 0

/-- Protocol levels of two sets are compatible (spec/17 R486). -/
def protoOk (proto min proto2 min2 : Nat) : Bool :=
  decide (min2 ≤ proto) && decide (proto ≤ proto2) && decide (min ≤ proto2) && decide (proto2 ≤ proto)

/-- RESYNC_PHASE_COMPLETE (R280). -/
def resyncPhaseCompleteOp (s : State) : State :=
  let ph := s.rd F.RESYNC_STAT_PHASE
  let same := s.pair.partner.any (fun d => some d.version == s.prog.map Image.version)
  if s.role ≠ roleUnsync then s
  else if ph = 1 then (if !s.on F.DT_STAT_PROTO_OK then s else s.wr F.RESYNC_STAT_PHASE (if same then 3 else 2))
  else if ph = 2 then (if same then (s.wr F.RESYNC_STAT_PHASE 3).flag F.RESYNC_STAT_PROG_COPY true else s)
  else if ph = 3 || ph = 4 then s.wr F.RESYNC_STAT_PHASE (ph + 1)
  else if ph = 5 then (if s.pair.marked0 then s.wr F.RESYNC_STAT_PHASE 6 else s)
  else if ph = 6 then
    (if (List.range 32).all (fun t => !s.enabled t || s.pair.agreed.contains t) && decide (1000 ≤ s.pair.agreeCnt) && s.pair.copyDone
        && s.on F.HOLDUP_CHARGED then
      let s1 := ((s.wr F.RESYNC_STAT_PHASE 0).wr F.RESYNC_STAT_FAILS 0).wr F.RESYNC_STAT_LAST_MS (min 65535 ((s.ns - s.pair.resyncNs) / 1000000))
      (s1.setPair { s1.pair with budgetDrop := false }).setRole roleSync
    else s)
  else s

/-- A phase of resynchronisation fails (R280): after 10 s it begins again. -/
def State.resyncFail (s : State) : State :=
  let s1 := ((s.wr F.RESYNC_STAT_PHASE 0).inc F.RESYNC_STAT_FAILS).raise 31 0 (s.rd F.RESYNC_STAT_PHASE) 0
  s1.setPair { s1.pair with retryWait := true, marked0 := false }

/-- RESYNC_PHASE_FAIL (R280); in TRACK a phase fails only by a cause of Table 9-5. -/
def resyncPhaseFailOp (s : State) : State :=
  let ph := s.rd F.RESYNC_STAT_PHASE
  if s.role ≠ roleUnsync || ph = 0 || ph = 6 then s else s.resyncFail

/-- RESYNC_RETRY (R280): 10 s after the failure. -/
def resyncRetryOp (s : State) : State :=
  if !s.pair.retryWait then s
  else
    let s1 := s.setPair { s.pair with retryWait := false }
    if s1.mayResync && !s1.budgetSpent then s1.resyncStart else s1

/-! ## Heartbeats (R251, R252, R255, R266, R275) -/

/-- HB_SEND (R255, Table 9-4). -/
def hbSendOp (s : State) : State :=
  if !s.pairUp || !s.pw.alvRun then s
  else
    let m := s.upd.manifest
    s.dtSendPlain .hb 32 [s.role, s.tick, s.ttNow, (m.map (·.proto)).getD 0, (m.map (·.protoMin)).getD 0, (s.prog.map Image.version).getD 0,
      s.rd F.RESYNC_STAT_PHASE, bitNat (s.on F.RING_STAT_LINK_A), bitNat (s.on F.RING_STAT_LINK_B), s.upd.glue.crc.toNat, s.upd.glue.state,
      s.rd F.SCH_STAT_STATE, bitNat (s.on F.PAIR_STAT_RING_OK)]

/-- What a heartbeat tells, beyond the verdict: protocol, ring, epoch, the start decision and resynchronisation. -/
def State.hbTells (s : State) (d : HbData) (old : Option HbData) : State :=
  let m := s.upd.manifest
  let s1 := s.flag F.DT_STAT_PROTO_OK (protoOk ((m.map (·.proto)).getD 0) ((m.map (·.protoMin)).getD 0) d.proto d.protoMin)
  let s2 := if s1.isActive then s1.flag F.PAIR_STAT_RING_OK d.witnessSeen else s1
  let s3 := (s2.setRing { s2.ring with partnerOpen := !d.linkA || !d.linkB }).judgeRing
  let s4 := s3
  let acts := d.role == roleActive || d.role == roleSolo
  let s5 := if s4.pair.deciding && acts && !s4.pair.claimed then s4.lose else s4
  let s6 := if s5.role = roleUnsync && !s5.pair.afresh && !s5.pair.deciding && d.role == roleUnsync && d.schState == 3 && s5.rd F.SCH_STAT_STATE ≠ 3
    then (s5.setPair { s5.pair with afresh := true }).decideAfresh else s5
  let s7 := if s6.shadowing && !acts && s6.pair.handover.isNone then s6.drop 7 else s6
  let switched := old.any (fun o => o.version != d.version)
  let s8 := if s7.role = roleUnsync && s7.rd F.RESYNC_STAT_PHASE ≠ 0 && switched then s7.resyncStart else s7
  s8.autoResync

/-- The active stops forwarding to a partner that shadows no more (R257, R284); a partner that resynchronises is no longer detached. -/
def State.fwdFollow (s0 : State) (d : HbData) : State :=
  let s := if d.phase ≠ 0 || d.role ≠ roleUnsync then s0.setPair { s0.pair with ptnDetached := false } else s0
  let follows := d.role == roleSync || (d.role == roleUnsync && (d.phase == 5 || d.phase == 6 || s.pair.partnerTrial))
  if s.isActive && !s.pair.fwdStopped && !follows then s.stopForward else s

/-- HB (R251, R252, R275): a standby takes its partner's E at every heartbeat. An alive signal that is dead for 1 ms of HB_OK is a fault. -/
def hbOp (d : HbData) (s : State) : State :=
  if !s.on F.DT_STAT_LINK_UP || !s.pairUp || s.dtMute then s
  else
    let (bad, s0) := s.jigCheck 5
    if bad then s0.dtDrop false
    else
      let old := s0.pair.partner
      let sa := ((s0.hearEpoch d.epoch).dtAcked d.ack).fwdFollow d
      let s1 := if sa.isStandby then sa.setEpoch d.epoch else sa
      let first := s1.pair.hbRun = 0
      let run := min 3 (s1.pair.hbRun + 1)
      let newly := run = 3 && !s1.on F.PAIR_STAT_HB_OK
      let s2 := s1.setPair { s1.pair with
        partner := some d, hbRun := run, hbLost := false, hbNs := s1.ns, okNs := if newly then s1.ns else s1.pair.okNs }
      let sb := if run = 3 then s2.flag F.PAIR_STAT_HB_OK true else s2
      let s3 := if run = 3 && !sb.on F.PAIR_STAT_ALV_OK && !sb.pair.alvIgnored && decide (sb.pair.okNs + 1000000 ≤ sb.ns) then sb.alvFault else sb
      let s4 := if s3.on F.PAIR_STAT_SEATED then s3
        else
          let a := s3.flag F.PAIR_EVT_PRES_FAULT true
          if first || !s3.on F.PAIR_EVT_PRES_FAULT then a.raise 29 2 0 0 else a
      let s5 := s4.showPresent
      if run < 3 then s5 else (s5.hbTells d old).serveResync ((old.map (·.phase)).getD 0) d.phase

/-- HB_LOST (R251, R269, R279, R285): a shadowing standby judges it with the witness window; with two windows missed already it takes over.
(DEDUCED: log entries 47, 51) (DEDUCED: log entry 47) -/
def hbLostOp (s : State) : State :=
  if s.pair.hbRun = 0 then s
  else
    let s1 := s.setPair { s.pair with hbRun := 0, hbLost := s.shadowing }
    let s2 := if s1.isActive then s1.stopForward else s1
    let s3 := if s.shadowing || s.pair.linkFault then s2 else s2.raise 25 0 1 0
    let s4 := (s3.flag F.PAIR_STAT_HB_OK false).showPresent
    if 2 ≤ s4.pair.missed && s4.mayTakeOver then s4.takeOver 1 else s4

/-! ## The witness (R267, R269, R276, R279) -/

/-- FENCE (R276). -/
def fenceOp (epoch : Nat) (s : State) : State :=
  let s1 := s.seeEpoch epoch
  if s.epoch < epoch || (s.epoch = epoch && s.inSlot2) then s1.fence else s1

/-- FENCE_TIMEOUT (R276). (DESIGN CHOICE: log entry 4) -/
def fenceTimeoutOp (s : State) : State := if s.role ≠ roleFenced then s else (s.setRole roleUnsync).autoResync

/-- WITNESS (R265, R267, R276). -/
def witnessOp (_portB : Bool) (h : RingHdr) (b : WitnessBody) (s : State) : State :=
  let (ok, s1) := s.ringTake h 1
  if !ok || h.src ≠ 0xFFFF || h.slot == s1.inSlot2 then s1
  else
    let s2 := if s1.epoch = h.epoch && s1.inSlot2 then s1.fence else s1
    let s3 := if s2.pair.deciding && !s2.pair.claimed then s2.lose else s2
    if (s3.pair.witTick.map (fun k => decide (k < b.tick))).getD true then s3.setPair { s3.pair with witTick := some b.tick } else s3

/-- WITNESS_WINDOW_CLOSE (R269, R279): the witness of the current tick is present or missing. -/
def witnessWindowCloseOp (s : State) : State :=
  if !s.isStandby then s
  else
    let here := s.pair.witTick == some s.tick
    let s1 := s.flag F.PAIR_STAT_RING_OK here
    if here then
      let s2 := s1.setPair { s1.pair with missed := 0, kerf := 0 }
      if s.pair.hbLost && s.shadowing then ((s2.setPair { s2.pair with hbLost := false }).raise 25 0 1 0).drop 3 else s2
    else
      let first := s.pair.missed = 0
      let start := s.ns - (1000 * s.ttNow - 50000 * s.tick)
      let dead := decide (s.pair.hbNs < start)
      let s2 := s1.setPair { s1.pair with
        missed := s.pair.missed + 1, kerf := s.pair.kerf + bitNat dead, missNs := if dead && s.pair.kerf == 0 then start else s.pair.missNs }
      if s.on F.PAIR_STAT_HB_OK then
        (if s.partnerActs then
          let s3 := s2.flag F.PAIR_EVT_RING_WIT true
          if first then s3.raise 30 0 0 0 else s3
        else s2)
      else if 2 ≤ s2.pair.missed && s.pair.hbLost && s.mayTakeOver then s2.takeOver 1
      else s2

/-- EPOCH_RESET (R278): with the pair stopped, and every station of its ring. (DEDUCED: log entry 50) -/
def epochResetOp (s : State) : State :=
  if s.isActive || s.partnerActs || s.shadowing then s else ((s.wr F.EPOCH 0).wr F.EPOCH_SEEN 0).storeEpoch 0

/-- ORPHAN_TIMEOUT (R281). (DEDUCED: log entry 50) -/
def orphanTimeoutOp (s : State) : State :=
  let lost := !s.on F.PAIR_STAT_PRESENT || (!s.on F.PAIR_STAT_HB_OK && !s.on F.PAIR_STAT_ALV_OK && !s.on F.PAIR_STAT_RING_OK)
  if s.role ≠ roleUnsync || s.shadowing || s.pair.deciding || s.pair.orphaned || !lost then s
  else
    let s1 := (s.setPair { s.pair with orphaned := true }).wr F.RESYNC_STAT_PHASE 0
    if !s.on F.PAIR_CFG_ORPHAN_START then s1.raise 31 0 0 1
    else
      let req := if s.rd F.RESTART_CFG_AFTER_RESET = 2 then 2 else 1
      let (mode, why) := s1.restartMode req
      let s2 := ((s1.wr F.START_INFO_REQUESTED req).wr F.START_INFO_PERFORMED mode).wr F.START_INFO_REASON why
      let s3 := (s2.prepare mode)
      (s3.setPair { s3.pair with startMode := mode }).decideAfresh

/-! ## The standby's stream (R257–R261) -/

/-- TICK_RECORD (R259). -/
def tickRecordOp (h : DtHdr) (k tt : Nat) (s : State) : State :=
  s.onFrame h fun s =>
    if !s.shadowing then s
    else { s.set64 W.TICK_LO W.TICK_HI k with sch := { s.sch with ttOff := (tt : Int) - (s.ns / 1000 : Nat) } }

/-- RELEASE_RECORD (R258). -/
def releaseRecordOp (h : DtHdr) (task cycle cause : Nat) (s : State) : State :=
  s.onFrame h fun s => if !s.shadowing then s else s.setPair { s.pair with releases := s.pair.releases ++ [⟨task, cycle, cause⟩] }

/-- INPUT_RECORD (R258). (DEDUCED: log entry 49) -/
def inputRecordOp (h : DtHdr) (task cycle tt : Nat) (cells : List (Nat × Byte)) (s : State) : State :=
  s.onFrame h fun s =>
    if !s.shadowing then s
    else s.setPair { s.pair with inputs := s.pair.inputs ++ [⟨task, cycle, tt, cells⟩], inOpen := some (task, cycle) }

/-- SERVICE_RECORD (R258). (DESIGN CHOICE: log entry 36) -/
def serviceRecordOp (h : DtHdr) (task window : Nat) (vals : List Nat) (s : State) : State :=
  s.onFrame h fun s => if !s.shadowing then s else { s with lp := { s.lp with services := s.lp.services ++ [(task, window, vals)] } }

/-- PREEMPT_RECORD (R258). -/
def preemptRecordOp (h : DtHdr) (task count byTask : Nat) (s : State) : State :=
  s.onFrame h fun s => if !s.shadowing then s else s.setPair { s.pair with preempts := s.pair.preempts ++ [(task, count, byTask)] }

/-- HASH_RECORD (R260). -/
def hashRecordOp (h : DtHdr) (task cycle endIdx : Nat) (hash : BitVec 64) (s : State) : State :=
  s.onFrame h fun s =>
    if !s.shadowing then s
    else
      let s1 := s.setPair { s.pair with theirs := s.pair.theirs ++ [⟨task, cycle, endIdx, hash⟩] }
      match s.pair.ours.find? (fun (o : HashRec) => o.task == task && o.cycle == cycle) with
      | none => s1
      | some o => (s1.setPair { s1.pair with ours := s1.pair.ours.filter (fun (x : HashRec) => !(x.task == task && x.cycle == cycle)) }).hashJudge o

/-- EXTWRITE_RECORD (R258): applied at its point. (DESIGN CHOICE: log entry 52) -/
def extwriteRecordOp (h : DtHdr) (cells : List (Loc × Byte)) (point : ExtPoint) (s : State) : State :=
  s.onFrame h fun s =>
    if !s.shadowing then s
    else s.setPair { s.pair with extwrites := s.pair.extwrites ++ [(cells, point, s.sch.ord + s.pair.releases.length)] }

/-- A write record covers the result record of a ring's descriptor: the descriptor is done (R258; spec/16 Table 16-3). (DESIGN CHOICE: log entry 52) -/
def State.resultSeen (s : State) (cells : List (Loc × Byte)) (r : Nat) : State :=
  if s.ringDi r = s.ringPi r then s
  else
    let l := dLoc (dNat (tget [] s.sr.slots (65536 * r + s.ringDi r)) 4 4)
    if cells.any (fun c => c.1 == ⟨l.area, l.sel, l.off + 1⟩ && c.2.getLsbD 7) then
      let s1 : State := { s with sr := { s.sr with slots := tdel (65536 * r + s.ringDi r) s.sr.slots } }
      (s1.wr (F.RNG_DONE_DI r) (s.ringDi r + 1)).wr (F.RNG_CI r) (s.ringDi r + 1)
    else s

/-- Writes of a record are applied. -/
def State.applyExt (s : State) (cells : List (Loc × Byte)) : State :=
  let s1 := (cells.foldl (fun (s : State) (c : Loc × Byte) => s.setBytes c.1 [c.2]) s).mramKeep
  ((List.range 12).filter ringPosted).foldl (fun s r => s.resultSeen cells r) s1

/-- A record for a point after a release may be applied: every cycle released up to there has ended (R258). (DEDUCED: log entry 49) -/
def State.extReady (s : State) (ord : Nat) : Bool :=
  decide (ord ≤ s.sch.ord) && !s.sch.tasks.any (fun e => e.2.st != .idle && decide (e.2.relOrd < ord))

/-- A task may not start while a record for a point before its release waits (R258). -/
def State.extHolds (s : State) (t : Nat) : Bool :=
  s.pair.extwrites.any (fun e => match e.2.1 with | .afterRelease _ _ => decide (e.2.2 ≤ (s.rt t).relOrd) | .beforeLatch _ _ => false)

/-- Pending releases whose task is idle are made, in order of the stream (R258). -/
def State.takeReleases : Nat → State → State
  | 0, s => s
  | n + 1, s =>
    match s.pair.releases with
    | [] => s
    | r :: rest =>
      if (s.rt r.task).st != .idle || s.ocPhase = 5 || s.rd F.RESYNC_STAT_PHASE = 5 || s.oc.mark.any (· ≤ s.sch.ord) then s
      else
        let s1 := (s.setPair { s.pair with releases := rest }).release r.task r.cause (r.cause == 4)
        State.takeReleases n (if r.cause = 0 then s1.loopGrid r.task true else s1)

/-- Writes whose point after a release has come are applied, in order of the stream, at most `n` (R258). -/
def State.takeExt : Nat → State → State
  | 0, s => s
  | n + 1, s =>
    match s.pair.extwrites with
    | (cells, .afterRelease _ _, ord) :: rest =>
      if s.extReady ord then State.takeExt n ((s.setPair { s.pair with extwrites := rest }).applyExt cells) else s
    | _ => s

/-- A switch mark whose point has come: the standby begins its switch, to enter TRIAL (spec/07 R214, Table 7-5). -/
def State.takeMark (s : State) : State :=
  match s.oc.mark with
  | none => s
  | some ord =>
    if s.role ≠ roleSync || (s.ocPhase ≠ 3 && s.ocPhase ≠ 4) then s.setOc { s.oc with mark := none }
    else if !s.extReady ord then s
    else
      let s1 := ((s.countFromMark.setWord W.HASH_SAME 0).setRole roleUnsync).wr F.OC_STAT_PHASE 5
      { s1 with
        oc := { s1.oc with mark := none, toTrial := true, t0 := s1.ns, atPoint := false }
        pair := { s1.pair with marked0 := true } }

/-- The standby's turn after a step (R258): releases of the stream, writes whose point has come, and a switch mark. After a takeover the active
goes on until the stream is used up (R270 step 5). -/
def State.shadowTurn (s : State) : State :=
  let rest := s.isActive && (s.pair.releases != [] || s.pair.extwrites != [])
  if !s.shadowing && !rest then s
  else
    let s1 := State.takeReleases s.pair.releases.length s
    (State.takeExt s1.pair.extwrites.length s1).takeMark

/-- LAG_TIMEOUT (R261). -/
def lagTimeoutOp (task cycle : Nat) (s : State) : State :=
  if s.shadowing && s.pair.theirs.any (fun (h : HashRec) => h.task == task && h.cycle == cycle) then s.drop 4 else s

/-! ## Other frames -/

/-- MREC (spec/10 R319). -/
def mrecOp (h : DtHdr) (frame : List Word) (s : State) : State := s.onFrame h fun s => if s.isActive then s.takeMrec frame else s

/-- CTRL_HANDOVER (R274, R287): on the standby the tick h, on the active a request that the standby passes on. -/
def ctrlHandoverOp (h : DtHdr) (tick : Nat) (s : State) : State :=
  s.onFrame h fun s =>
    if s.role = roleActive then handoverOp s
    else if s.mayTakeOver then
      let down := s.pair.partner.any (fun d => !d.linkA && !d.linkB)
      s.setPair { s.pair with handover := some (tick, if down then 3 else 2) }
    else s

/-- CTRL_SYNC_DROPPED (R262, R263, R266). (DEDUCED: log entry 72) -/
def ctrlSyncDroppedOp (h : DtHdr) (cause : Nat) (s : State) : State :=
  s.onFrame h fun s =>
    if s.isActive then { s.stopForward with pair := { s.stopForward.pair with ptnDetached := s.pair.ptnDetached || cause == 6 } } else s.drop cause

/-- CTRL_DETACH (R282). (DEDUCED: log entry 72) -/
def ctrlDetachOp (h : DtHdr) (s : State) : State := s.onFrame h State.detach

/-- CTRL_RESYNC (R282). -/
def ctrlResyncOp (h : DtHdr) (s : State) : State := s.onFrame h State.resyncCmd

/-- CTRL_TRIAL_RESULT (spec/07 R214, Table 7-5): 1 the trial has succeeded, else the RESULT of the change on both modules; the trial's counts
come with it. (DEDUCED: log entry 44) -/
def ctrlTrialResultOp (h : DtHdr) (result same diff : Nat) (s : State) : State :=
  s.onFrame h fun s =>
    if s.ocPhase = 0 then s
    else if s.isStandby then
      (if result = 1 then s
       else if s.on F.OC_STAT_TRIAL then s.trialReturn result
       else if s.oc.toTrial then s.trialOver result
       else s.ocEnd result)
    else if !s.isActive || 5 ≤ s.ocPhase then s
    else
      let s0 := (s.setWord W.OC_TRIAL_SAME (BitVec.ofNat 32 same)).setWord W.OC_TRIAL_DIFF (BitVec.ofNat 32 diff)
      let s1 := s0.setPair { s.pair with partnerTrial := false }
      if result = 1 then (if s.oc.trial = 1 then s1.setOc { s1.oc with trial := 2 } else s1)
      else s1.ocEnd result

/-- DEPART (R274, R279). -/
def departOp (h : DtHdr) (_cause : Nat) (s : State) : State :=
  s.onFrame h fun s => if s.mayTakeOver then s.takeOver 4 else if s.isActive then s.stopForward else s

/-- MARK (R280; spec/07 R214). (DEDUCED: log entry 49) -/
def markOp (h : DtHdr) (d : MarkData) (s : State) : State :=
  s.onFrame h fun s =>
    let base := fun (s : State) =>
      let s1 := s.set64 W.TICK_LO W.TICK_HI d.tick
      { s1 with sch := { s1.sch with ttOff := (d.tt : Int) - (s1.ns / 1000 : Nat) } }
    if d.switchMark then
      (if s.role ≠ roleSync || (s.ocPhase ≠ 3 && s.ocPhase ≠ 4) then s
       else (base s).setOc { s.oc with mark := some (s.sch.ord + s.pair.releases.length) })
    else if s.role ≠ roleUnsync || s.rd F.RESYNC_STAT_PHASE ≠ 5 then s
    else
      let si := s.idleTasks
      let s0 : State := { si with
        sch := { si.sch with first := false }
        lp := { breakpoints := s.lp.breakpoints }
        pair := { s.pair with marked0 := true, agreed := [], agreeCnt := 0, copyDone := false, releases := [], inputs := [], preempts := []
                              extwrites := [], theirs := [], ours := [] } }
      let s1 := (List.range 96).foldl (fun (s : State) t =>
        if s.enabled t == d.enabled.contains t then s else s.wrSet (F.TCFG_EN t) (bitNat (d.enabled.contains t))) (base s0).countFromMark
      (s1.setWord W.HASH_SAME 0).wr F.SCH_STAT_STATE 2

/-- The content of a bulk frame of resynchronisation or of an online change (R264, R280; spec/07 R214). -/
def State.takeBulk (s : State) (d : BulkData) : State :=
  let ph := s.rd F.RESYNC_STAT_PHASE
  let un := s.role == roleUnsync
  match d with
  | .memory cells =>
    if !un || ph < 3 then s
    else
      let s1 := (cells.foldl (fun (s : State) (c : Loc × Byte) => s.setBytes c.1 [c.2]) s).mramKeep
      if ph ≠ 4 then s1
      else if 8 ≤ s1.rd F.RESYNC_STAT_ROUNDS then s1.resyncFail
      else s1.wr F.RESYNC_STAT_ROUNDS (s1.rd F.RESYNC_STAT_ROUNDS + 1)
  | .loopFields n j grid fields =>
    let known := (s.loop n).orElse (fun _ => (s.prog.bind (fun p => p.loops.find? (·.n == n))).map LoopDecl.rt)
    if !un || ph < 3 then s
    else match known with
      | none => s
      | some r =>
        let f := fields.foldl (fun (f : List Word) (e : Nat × Word) => setNth e.2 f e.1) r.f
        let h := lbits f 1 28 24
        let s1 := s.setLoop n { r with
          f := f, pub := f, host := h, div := lbits f 1 17 0, lph := lbits f 2 17 0, j := j, resched := false, due := false, batches := []
          staged := none, first := false, nonAuto := false, cont := true }
        let s2 := s1.setRt h { s1.rt h with grid := grid }
        { s2 with le := { s2.le with resident := if s2.le.resident.length < 256 then addNew s2.le.resident [n] else s2.le.resident } }.showLoops
  | .settings words bufs rules =>
    if !un || ph < 3 then s
    else
      let s1 := words.foldl (fun (s : State) (e : Nat × Word) => if isSetting e.1 then (s.restoreWord e).keepSetting e.1 else s) s
      { s1 with mram := { s1.mram with canBufs := bufs, rules := rules } }.restoreBufs.restoreRules
  | .program img =>
    if !un || ph ≠ 2 || !img.intact then s
    else
      let s1 : State := { s with mram := { s.mram with areas := setNth (some img) s.mram.areas s.bank } }
      s1.adopt.loopsFresh
  | .ocImage img => if !s.isStandby || 5 ≤ s.ocPhase then s else (s.wr F.OC_STAT_PHASE 0).ocLoad img
  | _ => s

end Sys2Proof.Machine
end

