-- ==== Sys2Proof/Machine/Passes.lean ====
section
/-! DEFINITION. The forms in which the passes of a compare window hold their values (spec/06 R170, R171, Table 6-1): the true value, its
complement, and 7 times it, whose divisibility by 7 pass C checks. -/

namespace Sys2Proof.Machine

/-- One of the three passes. -/
inductive PassId where
  | a | b | c
  deriving DecidableEq, Repr

/-- The form of a word of `w` bits in a pass: WA, WB and what is logged as signed, DSEL as unsigned. -/
def PassId.word (p : PassId) {w : Nat} (signed : Bool) (x : BitVec w) : BitVec 67 :=
  match p with
  | .a => x.setWidth 67
  | .b => (~~~x).setWidth 67
  | .c => BitVec.ofInt 67 (7 * (if signed then x.toInt else (x.toNat : Int)))

/-- The true value of a held word: none for a code error of pass C (R171). -/
def PassId.readWord (p : PassId) (w : Nat) (y : BitVec 67) : Option (BitVec w) :=
  match p with
  | .a => some (y.setWidth w)
  | .b => some (~~~(y.setWidth w))
  | .c => if y.toInt % 7 = 0 then some (BitVec.ofInt w (y.toInt / 7)) else none

/-- The form of a bit in a pass: b, ¬b, or 0 and 7. -/
def PassId.bit (p : PassId) (b : Bool) : BitVec 3 :=
  match p with
  | .a => if b then 1 else 0
  | .b => if b then 0 else 1
  | .c => if b then 7 else 0

/-- The true value of a held bit: none for a code of pass C that is neither 0 nor 7. -/
def PassId.readBit (p : PassId) (y : BitVec 3) : Option Bool :=
  match p with
  | .a => some (y.getLsbD 0)
  | .b => some !(y.getLsbD 0)
  | .c => if y = 7 then some true else if y = 0 then some false else none

/-- AND, OR, XOR on held bits: pass B computes OR, AND, XNOR of the complements, pass C by table on the codes (Table 6-1). -/
def PassId.and (p : PassId) (x y : BitVec 3) : BitVec 3 := match p with | .b => x ||| y | _ => x &&& y
def PassId.or (p : PassId) (x y : BitVec 3) : BitVec 3 := match p with | .b => x &&& y | _ => x ||| y
def PassId.xor (p : PassId) (x y : BitVec 3) : BitVec 3 := match p with | .b => (x ^^^ y) ^^^ 1 | _ => x ^^^ y

/-- ADD and SUB on the held words of passes A and B: ¬a + ¬b + 1 and ¬a − ¬b − 1 of the complements (Table 6-1). -/
def PassId.add (p : PassId) (x y : Word64) : Word64 := match p with | .b => x + y + 1 | _ => x + y
def PassId.sub (p : PassId) (x y : Word64) : Word64 := match p with | .b => x - y - 1 | _ => x - y

/-- The registers and the call stack as a pass holds them (R170). -/
def PassId.bank (p : PassId) (r : Regs) (calls : List (Nat × BitVec 16)) : Bank :=
  { ba := p.bit r.ba, wa := p.word true r.wa, wb := p.word true r.wb, sov := p.bit r.sov, nf := p.bit r.nf, zf := p.bit r.zf, cf := p.bit r.cf
    ns := r.ns.map (fun n => (List.range 4).map (fun i => p.bit (n.getLsbD i)))
    dsel := p.word false r.dsel, ip := r.ip, calls := calls.map (fun c => (c.1, p.word false c.2)) }

/-- The true values of every item of a list, or none. -/
def allSome {α : Type} : List (Option α) → Option (List α)
  | [] => some []
  | none :: _ => none
  | some a :: t => (allSome t).map (a :: ·)

/-- A nest entry from its four held bits. -/
def PassId.readNest (p : PassId) (l : List (BitVec 3)) : Option (BitVec 4) := (allSome (l.map p.readBit)).map (fun l => BitVec.ofNat 4 (bitsNat l))

/-- The true registers of a held bank at the end of a window; none for a code error (R171). -/
def PassId.readBank (p : PassId) (b : Bank) : Option (Regs × List (Nat × BitVec 16)) :=
  match p.readBit b.ba, p.readWord 64 b.wa, p.readWord 64 b.wb, allSome ([b.sov, b.nf, b.zf, b.cf].map p.readBit), allSome (b.ns.map p.readNest),
    p.readWord 16 b.dsel, allSome (b.calls.map (fun c => (p.readWord 16 c.2).map (fun d => (c.1, d)))) with
  | some ba, some wa, some wb, some [sov, nf, zf, cf], some ns, some dsel, some calls => some (⟨ba, wa, wb, sov, nf, zf, cf, ns, dsel, b.ip⟩, calls)
  | _, _, _, _, _, _, _ => none

/-- A log entry with another value. -/
def LogEntry.put (e : LogEntry) (v : Word64) : LogEntry :=
  match e with
  | .memBit l i _ => .memBit l i (v.getLsbD 0)
  | .mem l w _ => .mem l w (BitVec.ofNat 64 (v.toNat % 2 ^ (8 * w)))
  | .sysBit i b _ => .sysBit i b (v.getLsbD 0)
  | .sysWord i _ => .sysWord i (v.setWidth 32)
  | .lpwr n f _ => .lpwr n f (v.setWidth 32)
  | .trig n => .trig n
  | .rpost r l bytes => .rpost r l bytes

/-- The log of a pass from the values its entries are held with, in order; none for a code error at the write-log port (R171). -/
def PassId.readLog (p : PassId) : List LogEntry → List (BitVec 67) → Option (List LogEntry)
  | e :: t, y :: ys =>
    match p.readWord 64 y, p.readLog t ys with
    | some v, some l => some (e.put v :: l)
    | _, _ => none
  | l, _ => some l

/-- The outcome that a pass delivered; none for a code error (R171). -/
def PassResult.outcome (x : PassResult) (p : PassId) (o : Outcome) : Option Outcome :=
  match x with
  | .same => some o
  | .other x => some x
  | .codeError => none
  | .held x b data =>
    match p.readBank b, p.readLog x.log data with
    | some (r, calls), some log => some { x with regs := r, calls := calls, log := log }
    | _, _ => none

end Sys2Proof.Machine
end

