-- ==== Sys2Proof/Machine/Services.lean ====
section
/-! DEFINITION. Loop-engine instructions and RPOST (spec/04 R133–R136, Table 4-20; spec/08 R240–R242). -/

namespace Sys2Proof.Machine

/-- Loop and field of LPRD and LPWR, or the cause met (R133). -/
def loopOperand (c : LpCtx) (area : BitVec 4) (opd : BitVec 22) : Except Nat (Nat × Nat) :=
  let n := opBits opd 19 8
  let f := opBits opd 7 0
  if area ≠ 0 then .error cIllegalArea
  else if opBits opd 21 20 ≠ 0 then .error cIllegalField
  else match c.s.loopField n f with
    | none => .error cServiceRange
    | some _ => .ok (n, f)

/-- An LPRD starts the engine's domain if it is stopped, for itself alone (spec/02 R44; spec/08 R241), and waits for it. (DESIGN CHOICE: log entry 27) -/
def State.engineWait (s : State) : State :=
  let s1 := s.domWait 6
  if s.dom 6 == .gated || s.dom 6 == .parked || s.dom 6 == .off then { s1 with le := { s1.le with access := true } } else s1

/-- A service read of LPRD (spec/08 R223, R240, R241): it swaps the loop in; the pass waits while domain 6 has no clock. Answers the value and
whether a swap was made. -/
def State.loopRead (s : State) (t n f : Nat) : Svc × Bool :=
  match s.svcTake t with
  | some (v, s1) => (.value v s1, false)
  | none =>
    if s.shadowing then (.wait s, false)
    else if s.dom 6 != .run then (.wait s.engineWait, false)
    else
      let (sw, s1) := s.swapIn n
      let busy := fun (s : State) => { s.engineBusy 240 with le := { (s.engineBusy 240).le with free := max s.le.free s.ns + 240 } }
      (.value ((s1.loopField n f).getD 0).toNat (if sw then busy s1 else s1), sw)

/-- LPRD l.f (R133, R134). (DESIGN CHOICE: log entry 27) -/
def lprd (area : BitVec 4) (opd : BitVec 22) : State → State :=
  lpInstr 1 0 fun c =>
    match loopOperand c area opd with
    | .error e => .fault e c.s
    | .ok (n, f) =>
      match c.s.loopRead c.t n f with
      | (.wait s, _) => .wait s
      | (.value v s, sw) =>
        .ok ({ (c.eff 1) with s := s, extra := 23 + (if sw then 240 else 0), svc := [v] }.setWA (extend 4 true v))

/-- LPWR l.f (R133, R134). -/
def lpwr (area : BitVec 4) (opd : BitVec 22) : State → State :=
  lpInstr 1 1 fun c =>
    match loopOperand c area opd with
    | .error e => .fault e c.s
    | .ok (n, f) =>
      let (x, clip) := sat32 c.r.wa.toInt
      .ok ({ (c.eff 1) with log := [.lpwr n f (BitVec.ofInt 32 x)] }.setSov clip)

/-- The descriptor of RPOST, or the cause met (R135). -/
def postOperand (c : LpCtx) (o : Opnd) : Except Nat (Nat × Loc) :=
  let a := o.area.toNat
  if !edgeAreas.contains a then .error cIllegalArea
  else if a ≠ 3 && opBits o.opd 21 21 ≠ 0 then .error cIllegalField
  else match selOf c a (opBits o.opd 21 21 == 1) o.w2 with
    | .error e => .error e
    | .ok sel =>
      let off := opBits o.opd 15 0
      match c.s.areaLen a sel with
      | none => .error cOperandRange
      | some n =>
        if n < off + 32 then .error cOperandRange
        else if off % 8 ≠ 0 then .error cAlign
        else if !ringOpen (opBits o.opd 20 16) then .error cServiceRange
        else .ok (opBits o.opd 20 16, ⟨a, sel, off⟩)

/-- Slots of a ring that the open window has reserved. -/
def reserved (log : List LogEntry) (r : Nat) : Nat :=
  (log.filter (fun e => match e with | .rpost q _ _ => q == r | _ => false)).length

/-- Whether the ring has a slot for one descriptor more (R136). -/
def State.ringRoom (s : State) (r : Nat) : Bool :=
  decide ((s.ringPi r + 65536 - s.ringDi r) % 65536 + reserved s.winLog r < s.ringDepth r)

/-- RPOST (R135, R136). -/
def rpost (o : Opnd) : State → State :=
  lpInstr (4 + (o.words false - 1)) 5 fun c =>
    match postOperand c o with
    | .error e => .fault e c.s
    | .ok (r, l) =>
      match c.s.svc c.t (fun s => (bitNat (s.ringRoom r), s)) with
      | .wait s => .wait s
      | .value v s =>
        let (ok, s1) := s.access (memAccess 0 c.t false l 32 false)
        let bytes := if ok then s.lpBytes l 32 else List.replicate 32 0#8
        .ok ({ (c.eff (o.words false)) with
          s := s1, cyc := 4 + (o.words false - 1), extra := 11, svc := [v]
          log := if v = 0 then [] else [.rpost r l bytes] }.setBA (v != 0))

end Sys2Proof.Machine
end

