-- ==== Sys2Proof/Machine/SysWrite.lean ====
section
/-! DEFINITION. Writing a system word (spec/00 R8–R10): one operation, which hands the write to the block that holds the word. A write names the
bits it covers (`mask`): all of them for a word store, one for a bit store. -/

namespace Sys2Proof.Machine

/-! ## Clocks (spec/02 R65) -/

/-- A write of RESTART_CFG (spec/02 R61, R65): MRAM keeps it; a module newly in HOT mode makes its full copy first. -/
def State.restartWrite (s : State) (mask v : Word) : State :=
  let s1 := s.plainWrite W.RESTART_CFG mask v
  let s2 : State := { s1 with mram := { s1.mram with restartCfg := some (s1.word W.RESTART_CFG) } }
  if s2.hotMode && !s.hotMode then s2.flag F.OC_STAT_MRAM_SYNC false else s2

/-! ## Scheduler (spec/05 R166–R169) -/

/-- A refused setting of a task (R167). -/
def State.taskRefuse (s : State) (t i : Nat) (v : Word) : State :=
  (((s.flag (F.TSTAT_CFG_ERR t) true).wr (F.TSTAT_LAST_CAUSE t) 4)).raise 19 t i v.toNat

/-- Arguments that Table 5-3 allows. -/
def trigOk (src arg : Nat) : Bool :=
  if src = 1 then decide (arg ≤ 0x3F)
  else if src = 2 then decide (arg ≤ 0xFFF)
  else if src = 3 then (BitVec.ofNat 28 arg &&& ~~~0x17F#28) == 0
  else if src = 4 then decide (arg ≤ 239) || arg == 0xFF
  else if src = 6 then decide (1 ≤ arg) && decide (arg ≤ 200000)
  else decide (src ≤ 5) && arg == 0

/-- A value that a word of a task refuses (R167): offset `o` of the task's four words. -/
def State.taskBad (s : State) (t o : Nat) (new : Word) : Bool :=
  let n := fun (f : Nat → Fld) => (f 0).get new
  if o = 0 then
    (n F.TCFG_EN == 1 && !s.declared t) || (if isCyclic t then decide (s.period t ≤ n F.TCFG_PHASE) else n F.TCFG_PHASE != 0)
  else if o = 1 && isCyclic t then
    n F.TPER_N == 0 || decide (200000 < n F.TPER_N) || decide (n F.TPER_N ≤ s.rd (F.TCFG_PHASE t))
  else if o = 1 then
    let src := (fTrigSrc 0).get new
    !trigOk src ((fTrigArg 0).get new) || (src != 0 && (s.rd F.FC_CFG_FAULT_TASK == t || s.rd F.FC_CFG_TRAP_TASK == t))
  else false

/-- A write to one of a task's four words (R166, R167, R169). -/
def State.taskWrite (s : State) (i : Nat) (mask v : Word) : State :=
  let t := (i - 0x0240) / 4
  let o := (i - 0x0240) % 4
  let new := accessWrite i (s.word i) mask v
  if o < 3 && (decide (96 ≤ t) || s.taskBad t o new) then s.taskRefuse t i v
  else
    let s1 := (s.plainWrite i mask v).flag (F.TSTAT_CFG_ERR t) false
    if o = 3 then (if (F.TSTAT_OVR 0).get (mask &&& v) = 1 then s1.wr (F.TSTAT_OVR_CNT t) 0 else s1)
    else if o = 0 then
      (if (F.TCFG_EN 0).get (mask &&& v) = 1 then s1.flag (F.TSTAT_DIS_FAULT t) false
       else if s.enabled t && !s1.enabled t then s1.dropPending t else s1)
    else s1

/-- A write of TIMER_ARM (R154): the delay starts afresh, with the D that TTRIG holds now. (DEDUCED, DESIGN CHOICE: log entries 41, 77) -/
def State.timerArm (s : State) (t : Nat) : State :=
  if isEvent t && s.rd (fTrigSrc t) == 6 then
    let s1 : State := { s with sch := { s.sch with due := s.sch.due.filter (· != t) } }
    (s1.setRt t { s.rt t with armed := some (s.tick + s.rd (fTrigArg t)) }).flag (F.TSTAT_ARMED t) true
  else s

/-- A write of STAT_SEL (R169): the longest times start afresh for the selected task. -/
def State.statSel (s : State) (mask v : Word) : State :=
  let s1 := s.plainWrite W.STAT_SEL mask v
  let t := s1.rd F.STAT_SEL
  s1.setRt t { s1.rt t with maxNs := 0, maxDelay := 0 }

/-- Writes to the scheduler block. -/
def State.schWrite (s : State) (i : Nat) (mask v : Word) : State :=
  if 0x0240 ≤ i && i < 0x03C8 then s.taskWrite i mask v
  else if i = W.TIMER_ARM then (s.timerArm ((mask &&& v).toNat % 128)).reservedWrite i mask v
  else if i = W.STAT_SEL then s.statSel mask v
  else if i = W.BUDGET_STAT then
    let s1 := s.plainWrite i mask v
    if F.BUDGET_STAT_CLR_MAX.get (mask &&& v) = 1 then s1.wr F.BUDGET_STAT_FAST_MAX_NS 0 else s1
  else if (rowOf i).isSome then s.plainWrite i mask v
  else s

/-! ## Redundant execution (spec/06 R185, R187, R188, R195) -/

/-- A write of XMODE of a task (R187). (DEDUCED: log entry 42) -/
def State.xmodeWrite (s : State) (t : Nat) (mask v : Word) : State :=
  let i := W.XMODE t
  let s1 := if (F.XMODE_MM_CLR 0).get (mask &&& v) = 1 then s.wr (F.XMODE_MM_CNT t) 0 else s
  if mask &&& 3#32 = 0 then s1.reservedWrite i mask v
  else
    let new := (F.XMODE_MODE 0).get ((s1.word i &&& ~~~mask) ||| (v &&& mask))
    if new = 0 || (new = 1 && !s1.on (F.XMODE_NONCRIT t)) || (isStart t && new ≠ 2) then (s1.flag (F.XMODE_REFUSED t) true).raise 13 t i v.toNat
    else ((s1.flag (F.XMODE_REFUSED t) false).wrSet (F.XMODE_MODE t) new).reservedWrite i mask v

def clrPersistOp (s : State) : State := (s.flag F.RX_STAT_PERSIST false).wr F.RX_STAT_PERSIST_TASK 0
def capClrOp (s : State) : State := (s.setWord W.CAP_INFO 0).setWord W.CAP_INDEX 0

/-- Writes to the redundant-execution block. -/
def State.rxWrite (s : State) (i : Nat) (mask v : Word) : State :=
  if 0x0410 ≤ i && i < 0x0472 then s.xmodeWrite (i - 0x0410) mask v
  else if i = W.CAP_CTRL then
    let b := mask &&& v
    let s1 := if b.getLsbD 1 then clrPersistOp s else s
    (if b.getLsbD 0 then capClrOp s1 else s1).reservedWrite i mask v
  else s.plainWrite i mask v

/-! ## Loop engine, pair, request area -/

def clrLastOp (s : State) : State := s.setWord W.LE_LAST 0
def clrStatsOp (s : State) : State := s.engineClear

/-- A write of LE_CTRL (spec/08 Table 8-13). -/
def State.leCtrl (s : State) (b : Word) : State :=
  let s1 := if b.getLsbD 1 then clrLastOp s else s
  if b.getLsbD 0 then clrStatsOp s1 else s1

/-- The writer is the program. -/
def Writer.isTask : Writer → Bool
  | .task _ => true
  | _ => false

/-- A write of PAIR_CTRL (spec/09 R287): the standby ignores its shadow execution of the program's writes. -/
def State.pairCtrl (s : State) (w : Writer) (b : Word) : State :=
  if w.isTask && s.isStandby then s
  else
    let s1 := if b.getLsbD 3 then pairClrStatsOp s else s
    let s2 := if b.getLsbD 2 then detachOp s1 else s1
    let s3 := if b.getLsbD 1 then resyncOp s2 else s2
    if b.getLsbD 0 then handoverOp s3 else s3

/-! ## Fault collector and recorder (spec/15 R439–R442, R450, R455–R460) -/

/-- A refused write of the collector (R458). -/
def State.fcRefuse (s : State) (i : Nat) (v : Word) : State := (s.flag F.FC_STAT_CFG_ERR true).raise 47 0 i v.toNat

/-- A task that FC_CFG may name (R440, R441). -/
def State.fcTaskBad (s : State) (t : Nat) : Bool := t != 0x7F && !(isEvent t && s.declared t && s.rd (fTrigSrc t) == 0)

/-- Reactions of one FC_REACT word that are refused (R439, R442). -/
def reactBad (n : Nat) (new : Word) : Bool :=
  (List.range 8).any fun k =>
    let r := (Fld.mk 0 (4 * k + 2) (4 * k)).get new
    let src := 8 * n + k
    decide (6 ≤ r) || (r == 2 && (decide (src ≤ 19) || (decide (44 ≤ src) && decide (src ≤ 47))))

/-- A write of FC_JIG (R450): refused while armed, in the LOADER role, and for a checker or a count outside its range. (DEDUCED: log entry 39) -/
def State.jigWrite (s : State) (b v : Word) : State :=
  let c := F.FC_JIG_CHECKER.get b
  let n := F.FC_JIG_COUNT.get b
  if s.on F.FC_JIG_STAT_ARMED || s.role = roleLoader || c = 0 || n = 0 then s.fcRefuse W.FC_JIG v
  else
    let s1 := s.setWord W.FC_JIG_STAT (BitVec.ofNat 32 (2 ^ 31 + c * 2 ^ 16 + n))
    { s1 with fc := { s1.fc with jigSafe := F.FC_JIG_SAFE.get b == 1 } }

def clrFirstOp (s : State) : State := ((s.setWord W.FC_FIRST 0).setWord W.FC_FIRST_TLO 0).setWord W.FC_FIRST_THI 0
def clrQovfOp (s : State) : State := s.setWord W.FC_QOVF 0
def clrCntOp (s : State) : State := (List.range 64).foldl (fun (s : State) n => s.setWord (W.FC_CNT n) 0) s

/-- Writes to the fault-collector block. -/
def State.fcWrite (s : State) (i : Nat) (mask v : Word) : State :=
  let new := accessWrite i (s.word i) mask v
  if i = W.FC_CFG then
    let f := F.FC_CFG_FAULT_TASK.get new
    let t := F.FC_CFG_TRAP_TASK.get new
    if s.fcTaskBad f || s.fcTaskBad t || (f = t && f ≠ 0x7F) then s.fcRefuse i v else s.plainWrite i mask v
  else if 0x2010 ≤ i && i < 0x2018 then (if reactBad (i - 0x2010) new then s.fcRefuse i v else s.plainWrite i mask v)
  else if i = W.FC_JIG then
    let s1 := s.jigWrite (mask &&& v) v
    if s1.on F.FC_JIG_STAT_ARMED && !s.on F.FC_JIG_STAT_ARMED then s1.reservedWrite i mask v else s1
  else if i = W.FC_CTRL then
    let b := mask &&& v
    let s1 := if b.getLsbD 0 then clrFirstOp s else s
    let s2 := if b.getLsbD 1 then clrQovfOp s1 else s1
    (if b.getLsbD 2 then clrCntOp s2 else s2).reservedWrite i mask v
  else s.plainWrite i mask v

/-- FREEZE (R455). -/
def freezeOp (s : State) : State := if s.on F.REC_STAT_FROZEN then s else (s.flag F.REC_STAT_FROZEN true).note 3 0 1 0 0
/-- UNFREEZE (R455): the freeze ends with case 0. -/
def unfreezeOp (s : State) : State := s.unfreeze 0
/-- FLUSH (R452, R455). -/
def flushOp (s : State) : State := s.flush

/-- A refused write of the recorder (R458). -/
def State.recRefuse (s : State) (i : Nat) (v : Word) : State := (s.flag F.REC_STAT_CFG_ERR true).raise 47 0 i v.toNat

/-- SOURCE of a user record (Table 15-8). -/
def Writer.source : Writer → Nat
  | .task n => n
  | .session n => 0x100 + n
  | .bench => 0x200

/-- A write of REC_UCODE (R456, R458). -/
def State.userRecord (s : State) (w : Writer) (b v : Word) : State :=
  let c := b.toNat % 2 ^ 16
  if c < 0x8000 then s.recRefuse W.REC_UCODE v
  else s.note c w.source (s.word (W.REC_UDATA 0)).toNat (s.word (W.REC_UDATA 1)).toNat (s.word (W.REC_UDATA 2)).toNat

/-- Writes to the recorder block: the bits of REC_CTRL act in the order UNFREEZE, FLUSH, FREEZE (R455). -/
def State.recWrite (s : State) (w : Writer) (i : Nat) (mask v : Word) : State :=
  let b := mask &&& v
  if i = W.REC_CTRL then
    let s1 := if b.getLsbD 1 then unfreezeOp s else s
    let s2 := if b.getLsbD 2 then flushOp s1 else s1
    (if b.getLsbD 0 then freezeOp s2 else s2).reservedWrite i mask v
  else if i = W.REC_UCODE then (s.userRecord w b v).reservedWrite i mask v
  else if i = W.REC_CFG && F.REC_CFG_FREEZE_S.get (accessWrite i (s.word i) mask v) = 0 then s.recRefuse i v
  else s.plainWrite i mask v

/-! ## Rings and the CRC unit (spec/16) -/

/-- Writes to the rings and the CRC unit. -/
def State.rngWrite (s : State) (i : Nat) (mask v : Word) : State :=
  if 0x2210 ≤ i && i < 0x2290 then
    (if i % 4 = 2 then (s.writeCi ((i - 0x2210) / 4) mask v).reservedWrite i mask v else s.plainWrite i mask v)
  else if 0x2290 ≤ i && i < 0x22D0 then
    let c := (i - 0x2290) / 8
    let k := (i - 0x2290) % 8
    let b := (mask &&& v).toNat
    if k = 0 then s.crcPut (.cfg c mask v)
    else if k = 1 then s.crcVal c mask v
    else if k = 3 then (s.crcPut (.bytes c (leBytes 1 b))).reservedWrite i mask v
    else if k = 4 then (s.crcPut (.bytes c (leBytes 2 b))).reservedWrite i mask v
    else if k = 5 then s.crcPut (.bytes c (leBytes 4 b))
    else s.plainWrite i mask v
  else s.plainWrite i mask v

/-! ## All words -/

/-- A write of the bits of `mask` to word `i` by a writer (R8–R10). A word that no map lists takes nothing (R9). -/
def State.sysWrite (s : State) (w : Writer) (i : Nat) (mask v : Word) : State :=
  if 0x0200 ≤ i && i < 0x0400 then s.schWrite i mask v
  else if (rowOf i).isNone then s
  else if i = W.RESTART_CFG then s.restartWrite mask v
  else if i < 0x0400 then s.plainWrite i mask v
  else if i < 0x0500 then s.rxWrite i mask v
  else if i = W.LE_CTRL then (s.leCtrl (mask &&& v)).reservedWrite i mask v
  else if i < 0x1000 then s.plainWrite i mask v
  else if i = W.PAIR_CTRL then (s.pairCtrl w (mask &&& v)).reservedWrite i mask v
  else if i < 0x14F0 then s.plainWrite i mask v
  else if i = W.REQ_CMD then (s.requestWrite (mask &&& v)).reservedWrite i mask v
  else if i < 0x1500 then s.plainWrite i mask v
  else if i < 0x1800 then s.lioWrite i mask v
  else if i < 0x1D00 then s.ringWrite i mask v
  else if i < 0x1E00 then s.canWrite i mask v
  else if i < 0x1F00 then (s.blockStart i).vnWrite i mask v
  else if i < 0x2000 then
    (if 0x1F40 ≤ i && i < 0x1F80 then s.writeRule i mask v
     else if i = W.PR_MSEL then s.writeMsel mask v
     else if i = W.PR_STAT then s.writePrStat mask v
     else s.plainWrite i mask v)
  else if i < 0x2100 then s.fcWrite i mask v
  else if i < 0x2200 then s.recWrite w i mask v
  else if i < 0x2300 then s.rngWrite i mask v
  else s.plainWrite i mask v

end Sys2Proof.Machine
end

