-- ==== Sys2Proof/Machine/TaskCycle.lean ====
section
/-! DEFINITION. The task cycle (spec/05, spec/06): its start and input update point, the resolution and commit of a compare window, its end and
output update point, preemption, the watchdog, triggers and timers, and the grid tick. -/

namespace Sys2Proof.Machine

/-! ## The input update point (spec/05 R155–R157; spec/09 R257, R258) -/

/-- The words of a Mortise view as bytes, as of the last complete update (spec/10 R309). -/
def State.viewBytes (s : State) (v : Nat) : List Byte :=
  if v = 0 then s.mrt.viewHold.getD s.view0 else (List.range 16).flatMap (fun k => leBytes 4 (s.peek (0x14C0 + k)).toNat)

/-- `n` bytes of a list, filled with 0. -/
def fit (n : Nat) (l : List Byte) : List Byte := (l ++ List.replicate n 0#8).take n

/-- The newest complete data of an input segment (R156). -/
def State.segBytes (s : State) (g : SegDecl) : List Byte :=
  fit g.len (match g.kind with
    | .field => s.localIn
    | .station n => s.stationIn n
    | .view v => s.viewBytes v)

/-- Segments of one direction that a task owns (R155). -/
def State.owned (s : State) (t : Nat) (out : Bool) : List SegDecl :=
  match s.prog with | some p => p.segs.filter (fun (g : SegDecl) => g.out == out && g.owners == [t]) | none => []

/-- The changed bytes of a latch: I offset and byte, against the previous forwarded latch of the segment (spec/09 R257). -/
def changedBytes (off : Nat) (old new : List Byte) : List (Nat × Byte) :=
  (List.range new.length).filterMap (fun i => if old[i]? = new[i]? then none else some (off + i, nth 0#8 new i))

/-- Latches one owned segment and forwards what changed; counts the frames (spec/05 R156; spec/09 R257). -/
def State.latchSeg (t cyc tt : Nat) (a : Nat × State) (g : SegDecl) : Nat × State :=
  let s := a.2
  let bs := s.segBytes g
  let ch := changedBytes g.off (tget [] s.pair.prevLatch g.off) bs
  let s1 := s.setBytes ⟨0, 0, g.off⟩ bs
  let s2 := s1.setPair { s1.pair with prevLatch := tput g.off bs s1.pair.prevLatch }
  if ch = [] then (a.1, s2)
  else (a.1 + 1, s2.forward .input (8 + ch.length) (t :: cyc :: tt :: g.off :: ch.flatMap (fun (c : Nat × Byte) => [c.1, c.2.toNat])))

/-- The module's own latch of every segment a task owns, in one piece (R156). -/
def State.latchOwn (s : State) (t cyc tt : Nat) : State :=
  let a := (s.owned t false).foldl (State.latchSeg t cyc tt) (0, s)
  if a.1 = 0 then a.2.forward .input 8 [t, cyc, tt] else a.2

/-- INPUT records of a task cycle that have arrived (spec/09 R258). -/
def State.inputsFor (s : State) (t cyc : Nat) : List InRec := s.pair.inputs.filter (fun (r : InRec) => r.task == t && r.cycle == cyc)

/-- The INPUT frames of a task cycle have all arrived (spec/09 R257, R258): a frame of another event has followed them, or the one without bytes has
come, or one for each segment that the task owns. -/
def State.inputsAll (s : State) (t cyc : Nat) : Bool :=
  let l := s.inputsFor t cyc
  s.pair.inOpen != some (t, cyc) || l.any (fun (r : InRec) => r.cells == [])
    || (s.owned t false).all (fun (g : SegDecl) => l.any (fun (r : InRec) => r.cells.any (fun (c : Nat × Byte) => decide (g.off ≤ c.1) && decide (c.1 < g.off + g.len))))

/-- The latch from forwarded records (spec/09 R258). -/
def State.latchFrom (s : State) (t cyc : Nat) : State :=
  let l := s.inputsFor t cyc
  let s1 := l.foldl (fun (s : State) (r : InRec) => r.cells.foldl (fun (s : State) (c : Nat × Byte) => s.setBytes ⟨0, 0, c.1⟩ [c.2]) s) s
  s1.setPair { s1.pair with inputs := s1.pair.inputs.filter (fun (r : InRec) => !(r.task == t && r.cycle == cyc)) }

/-- Write records for the point before a cycle's latch are applied (spec/09 R258). -/
def State.applyBefore (s : State) (t cyc : Nat) : State :=
  let mine := fun (e : List (Loc × Byte) × ExtPoint × Nat) => e.2.1 == .beforeLatch t cyc
  let s1 := s.setPair { s.pair with extwrites := s.pair.extwrites.filter (fun e => !mine e) }
  (s.pair.extwrites.filter mine).foldl (fun (s : State) e => s.applyExt e.1) s1

/-! ## Starting a cycle (R142, R143; spec/03 R67) -/

/-- The LP and the domains it runs in have their clocks (spec/02 R46). -/
def State.lpReady (s : State) : Bool :=
  s.pw.phase == .running && s.dom 2 == .run && s.dom 5 == .run && !s.lp.stopped && !s.lp.halted && s.rd F.OC_STAT_PHASE != 5

/-- The registers a cycle begins with (spec/03 R67). -/
def startRegs (entry : Nat) : Regs := ⟨false, 0, 0, false, false, false, false, [], 0, BitVec.ofNat 22 entry⟩

/-- The task enters its cycle with TT latched; nothing of the cycle has run. -/
def State.enterCycle (s : State) (t tt : Nat) : State :=
  let r := s.rt t
  let entry := ((s.decl t).map (·.entry)).getD 0
  let r1 : TaskRt := { r with
    st := .cycle, cyc := r.cyc + 1, startNs := s.ns, lpNs := 0, regs := startRegs entry, calls := [], tt := BitVec.ofNat 64 tt, wins := 0
    owed := false, ending := false
    waitEpoch := none, preempted := false, jovf := false, maxDelay := max r.maxDelay (s.ns - r.relNs) }
  let s1 : State := { s.mramRuns.setRt t r1 with lp := { s.lp with win := none, snap := none, waiting := none, waitNs := 0 } }
  { s1 with sch := { s1.sch with running := some t }, oc := { s1.oc with atPoint := false } }.showTask t

/-- A released task starts its cycle: writes that wait, the latch of TT and of its segments, its due loops (R142, R156; spec/08 R219;
spec/12 R373). A shadowing standby waits for the records of the cycle (spec/09 R258). -/
def State.startCycle (s : State) (t : Nat) : State :=
  let c := (s.rt t).cyc + 1
  match s.inputsFor t c with
  | r :: _ =>
    if s.shadowing && (s.extHolds t || !s.inputsAll t c) then s
    else
      let s1 := (s.applyBefore t c).applyJobs (.beforeLatch t c)
      ((s1.enterCycle t r.tt).latchFrom t c).loopRequests t
  | [] =>
    if s.shadowing then s
    else
      let s1 := (s.applyBefore t c).applyJobs (.beforeLatch t c)
      ((s1.enterCycle t s.ttNow).latchOwn t c s.ttNow).loopRequests t

/-- TASK_START (R142, R143, R151): the first of the ready tasks by R143 starts, unless a preempted task ranks before it. (DEDUCED: log entry 40) -/
def taskStartOp (s : State) : State :=
  if s.sch.running.isSome || !s.lpReady then s
  else match s.bestReady with
    | none => s.resumeTask
    | some e => if s.bestPreempted.any (fun p => !ranksBefore e p) then s.resumeTask else s.startCycle e.1

/-! ## The cycle journal (spec/02 R61) -/

/-- The previous content of the lines of a write goes to the journal, on each line's first write in the cycle. -/
def State.journalLine (t : Nat) (s : State) (line : Nat) : State :=
  let r := s.rt t
  if r.jovf || s.mram.journal.any (fun (j : JLine) => j.task == t && j.key == 64 * line) then s
  else if 16384 ≤ s.mram.journal.length then (s.setRt t { r with jovf := true }).flag F.JOURNAL_STAT_OVF true
  else
    let k := s.bank * 2 ^ 44 + 64 * line
    let old := (s.mem.filter (fun (c : Host.Cell) => decide (k ≤ c.1) && decide (c.1 < k + 64))).map (fun (c : Host.Cell) => (c.1 - s.bank * 2 ^ 44, c.2))
    { s with mram := { s.mram with journal := s.mram.journal ++ [JLine.mk t r.startNs (64 * line) old] } }.peak F.JOURNAL_STAT_PEAK_LINES
      (s.mram.journal.length + 1)

/-- A write of a task to program data at commit (R177). -/
def State.taskWriteBytes (s : State) (t : Nat) (l : Loc) (bs : List Byte) : State :=
  let s1 := if s.hotMode then (linesOf (cellKey 0 l) bs.length).foldl (State.journalLine t) s else s
  s1.setBytes l bs

/-! ## Commit (spec/06 R177; spec/15 R431) -/

/-- One entry of the log reaches its block; a denied one is dropped. -/
def State.commitEntry (t : Nat) (s : State) : LogEntry → State
  | .memBit l i v =>
    let (ok, s1) := s.access (memAccess 0 t true l 1 true)
    if ok then s1.taskWriteBytes t l [setBit (s1.byte l) i v] else s1
  | .mem l w v =>
    let (ok, s1) := s.access (memAccess 0 t true l w false)
    if ok then s1.taskWriteBytes t l (leBytes w v.toNat) else s1
  | .sysBit i b v =>
    let (ok, s1) := s.access (sysAccess 0 t true i true)
    if ok then s1.sysWrite (.task t) i (BitVec.ofNat 32 (2 ^ b)) (if v then BitVec.ofNat 32 (2 ^ b) else 0) else s1
  | .sysWord i v =>
    let (ok, s1) := s.access (sysAccess 0 t true i false)
    if ok then s1.sysWrite (.task t) i 0xFFFFFFFF#32 v else s1
  | .lpwr .. => s
  | .trig n => if s.shadowing then s else (s.trigger n 2 false false).2
  | .rpost r _ bytes => s.ringPost r bytes

/-- The LPWR writes of a log, in order. -/
def lpwrOf (log : List LogEntry) : List (Nat × Nat × Word) :=
  log.filterMap (fun e => match e with | .lpwr n f v => some (n, f, v) | _ => none)

/-- The log reaches its blocks in program order (R177); all LPWR writes of the window to one loop are applied together (spec/08 R224), at the
last of them. `done` are the entries before. -/
def State.commitLog (t : Nat) (done : List LogEntry) : List LogEntry → State → State
  | [], s => s
  | e :: rest, s =>
    let s1 := match e with
      | .lpwr n f v =>
        if (lpwrOf rest).any (·.1 == n) then s
        else s.loopWrites n ((lpwrOf (done ++ [.lpwr n f v])).filterMap (fun x => if x.1 = n then some (x.2.1, x.2.2) else none))
      | _ => s.commitEntry t e
    State.commitLog t (done ++ [e]) rest s1

/-- Forgets the first entry that satisfies `p`. -/
def dropFirst {α : Type} (p : α → Bool) : List α → List α
  | [] => []
  | a :: t => if p a then t else a :: dropFirst p t

/-- A window's outcome is committed: its log in order, registers and call stack for the next window, what MRAM keeps, the online change's
bank, and its service values forwarded (R177; spec/07 R198; spec/09 R257). -/
def State.commit (s : State) (t : Nat) (w : Win) (o : Outcome) : State :=
  let s1 := State.commitLog t [] o.log s
  let r := s1.rt t
  let s2 := s1.setRt t { r with regs := o.regs, calls := o.calls, wins := r.wins + 1 }
  let s3 : State := { s2 with lp := { s2.lp with
    win := none, snap := none
    services := dropFirst (fun (e : Nat × Nat × List Nat) => e.1 == t && e.2.1 == r.wins) s2.lp.services } }
  let s4 := (if o.log = [] then s3 else s3.mramKeep).ocFollow
  if w.services = [] then s4 else s4.forward .service (4 + 4 * w.services.length) (t :: r.wins :: w.services)

/-! ## Faults of a window (spec/06 R182–R188) -/

/-- The capture takes a fault unless it holds one (R185). -/
def State.capture (s : State) (kind task mode cause index passFlt : Nat) (codeErr chk : Bool) : State :=
  if s.on F.CAP_INFO_VALID then s
  else
    let s1 := ((((s.setWord W.CAP_INFO 0).flag F.CAP_INFO_VALID true).wr F.CAP_INFO_KIND kind).wr F.CAP_INFO_TASK task).wr F.CAP_INFO_MODE mode
    let s2 := (((s1.wr F.CAP_INFO_CAUSE cause).wr F.CAP_INFO_PASS_FLT passFlt).flag F.CAP_INFO_CODE_ERR codeErr).flag F.CAP_INFO_CHK_ERR chk
    s2.wr F.CAP_INDEX index

/-- A source raised with the capture as its detail. -/
def State.raiseCap (s : State) (src t : Nat) : State := s.raise src t (s.word W.CAP_INFO).toNat (s.word W.CAP_INDEX).toNat

/-- A program fault: counted, FS10, the cycle ends (R184; spec/03 R99); staged loop outputs are written all the same (spec/08 R221). -/
def State.programFault (s : State) (t cause index passFlt : Nat) (codeErr : Bool) : State :=
  let s1 := (s.capture 1 t (s.rt t).mode cause index passFlt codeErr false).inc F.PF_TOTAL
  ((s1.raiseCap 10 t).writeLoops t).abortCycle t 2 cause

/-- A task fault: counted, FS09, the cycle ends (R183); FS11 as well if the LP checker ended the window (R186). -/
def State.taskFault (s : State) (t cause index passFlt : Nat) (codeErr chk : Bool) : State :=
  let s1 := ((s.capture 2 t (s.rt t).mode cause index passFlt codeErr chk).inc F.TF_TOTAL).raiseCap 9 t
  let s2 := if chk then s1.raiseCap 11 t else s1
  (s2.writeLoops t).abortCycle t 3 0x83

/-- A corrected mismatch (R182, R188): `odd` is 1 A, 2 B, 3 C. -/
def State.mismatch (s : State) (t odd first : Nat) : State :=
  let s1 := ((s.inc (F.XMODE_MM_CNT t)).inc F.MM_TOTAL).setWord W.LAST_MM_INFO (BitVec.ofNat 32 (odd * 256 + t % 128))
  let s2 := s1.setWord W.LAST_MM_INDEX (BitVec.ofNat 32 first)
  let s3 := s2.raise 8 t (s2.word W.LAST_MM_INFO).toNat first
  let r := s3.rt t
  let again := r.mmSec == s.ttSec
  let n := if again then r.mmCnt + 1 else 1
  let tooMany := s.rd F.RX_CFG_MM_LIMIT != 0 && decide (s.rd F.RX_CFG_MM_LIMIT < n) && !(again && r.mmRaised)
  let s4 := s3.setRt t { r with mmSec := s.ttSec, mmCnt := n, mmRaised := (again && r.mmRaised) || tooMany }
  if tooMany then ((s4.flag F.RX_STAT_PERSIST true).wr F.RX_STAT_PERSIST_TASK t).raise 12 t (s4.word W.LAST_MM_INFO).toNat first else s4

/-! ## Resolution (spec/06 R171, R175, R180, R189, R193) -/

/-- The outcome of the window from the true values (Table 6-2). -/
def State.trueOutcome (s : State) (w : Win) : Outcome :=
  let r := s.rt w.task
  { close := w.closed.getD .full, count := w.count, path := w.path, sig := ~~~w.sig, regs := r.regs, calls := r.calls, log := w.log, fault := w.fault }

/-- Passes A and B meet no code error (R171): what stands for one there counts as the true outcome. (DEDUCED: log entry 7) -/
def PassResult.plain (x : PassResult) (p : PassId) (o : Outcome) : Outcome := (x.outcome p o).getD o

/-- Two outcomes agree: every item of Table 6-2 is equal; the index is no item. -/
def agree (a b : Outcome) : Bool := { a with regs := { a.regs with ip := 0 } } == { b with regs := { b.regs with ip := 0 } }

/-- How a window resolves (R180): the majority's outcome, the odd pass (0 none, 1 A, 2 B, 3 C), and whether pass C ran. -/
structure Vote where
  maj : Option Outcome
  odd : Nat
  ranC : Bool
  deriving DecidableEq, Repr

/-- The resolution of R180; `jig` inverts the A-against-B comparison (R193). (DEDUCED: log entry 7) -/
def vote (mode : Nat) (jig : Bool) (a b : Outcome) (c : Option Outcome) : Vote :=
  if mode = 1 || (mode ≠ 3 && agree a b && !jig) then ⟨some a, 0, false⟩
  else
    let ac := c.any (fun x => agree a x)
    let bc := c.any (fun x => agree b x)
    if agree a b then ⟨some a, if ac then 0 else 3, true⟩
    else if ac then ⟨some a, 2, true⟩
    else if bc then ⟨c, 1, true⟩
    else ⟨none, 0, true⟩

/-- The close of a window after which the LP waits for the commit (Table 6-4). -/
def Close.waits : Close → Bool
  | .full => false
  | .buffer => false
  | _ => true

/-- The compare and commit of a window overlap what follows it (Table 6-4): their 6 cycles are not charged yet. -/
def overlapped (mode : Nat) (jig : Bool) (w : Win) (v : Vote) : Bool :=
  !(w.closed.getD .full).waits && (mode == 1 || (mode == 3 && v.maj.isSome && v.odd == 0 && !jig) || (mode == 2 && !v.ranC))

/-- LP time of a window [ns] (R189, Table 6-4). Where the table says 'up to 6' cycles of discarded work, all 6 are taken. (DEDUCED, DESIGN CHOICE:
log entries 7, 39, 79) (DEDUCED, DESIGN CHOICE: log entries 7, 39, 79) -/
def windowNs (mode : Nat) (jig : Bool) (w : Win) (v : Vote) : Nat :=
  let a := w.cycles + w.extraA
  let n := w.cycles
  let tail := if (w.closed.getD .full).waits then 6 else 0
  if mode = 1 then a + tail
  else if mode = 3 then
    2 * n + a + (if v.maj.isNone then 6 else if v.odd ≠ 0 then 6 + 8 else if jig then 6 else tail)
  else if !v.ranC then n + a + tail
  else n + a + 6 + n + 6 + (if v.odd ≠ 0 then 8 else 0)

/-- LP time is used by a task. (DESIGN CHOICE: log entry 5) -/
def State.lpUse (s : State) (t n : Nat) : State :=
  let r := s.rt t
  let s1 := s.setRt t { r with lpNs := r.lpNs + n }
  { s1 with ns := s1.ns + n, sch := { s1.sch with busyMs := s1.sch.busyMs + n, busyS := s1.sch.busyS + n } }

/-- PASS_FLT and CODE_ERR of a capture (Table 6-10). -/
def passFlt (a b : Outcome) (c : Option Outcome) (ranC : Bool) : Nat :=
  bitNat a.fault.isSome + 2 * bitNat b.fault.isSome + 4 * bitNat (ranC && (c.all (fun o => o.fault.isSome)))

/-- The bit of BENCH_STAT that refuses a halt, if one does (spec/17 Table 17-8). (DEDUCED: log entry 38) -/
def State.haltRefusal (s : State) : Option Fld :=
  if s.role = roleActive then some F.BENCH_STAT_REFUSED_ACTIVE
  else if !(s.role == roleSolo || (s.role == roleUnsync && s.on F.RESYNC_STAT_DETACHED)) then some F.BENCH_STAT_REFUSED_ROLE
  else if !s.on F.BENCH_CFG_HALT_EN || s.ocPhase = 5 then some F.BENCH_STAT_REFUSED_CFG
  else none

/-- The LP halts (R190; spec/17 Table 17-9). (DEDUCED: log entry 38) -/
def State.haltLp (s : State) : State :=
  ({ s with lp := { s.lp with halted := true, stepping := false, haltNs := s.ns } }.flag F.BENCH_STAT_HALTED true).raise 63 0 2 0

/-- A halt is due after a committed window: at a breakpoint, on a halt request, after a single step (R190, R191; spec/17 R493). (DEDUCED: log entry 38) -/
def State.haltAsk (s : State) : State :=
  let s1 : State := { s with lp := { s.lp with stepping := false } }
  if s.lp.halted then s1
  else match s.haltRefusal with
    | some f => s1.flag f true
    | none => s1.haltLp

/-- What follows a resolved window of the running task. -/
inductive After where
  | stopped | goes | ended | drains
  deriving DecidableEq, Repr

/-- Resolves the closed window of the running task (R180–R188): commit, or the fault that ends the cycle. (DEDUCED: log entry 7) -/
def State.resolve (s : State) (rep : PassReport) (w : Win) : After × State :=
  let t := w.task
  let mode := (s.rt t).mode
  let o := s.trueOutcome w
  let (chk, s0) := s.jigCheck 2
  if chk then
    (.stopped, (s0.lpUse t (w.cycles + w.extraA + 6)).taskFault t ((w.fault.map (·.1)).getD 0) w.first (bitNat w.fault.isSome) false true)
  else
    let (jig, s1) := if mode = 1 then (false, s0) else s0.jigCheck 1
    let a := rep.a.plain .a o
    let b := if mode = 1 then a else rep.b.plain .b o
    let c := rep.c.outcome .c o
    let v := vote mode jig a b c
    let real := v.odd != 0 || v.maj.isNone
    let sj : State := if real then { s1 with fc := { s1.fc with jigNow := s0.fc.jigNow } } else s1
    let s2 := (sj.lpUse t (windowNs mode jig w v)).peak F.RX_STAT_BUF_PEAK w.entries
    let s3 := if jig && v.maj.isSome && v.odd = 0 then s2.bump F.RX_STAT_JIG_HITS else s2
    let code := v.ranC && c.isNone
    match v.maj with
    | none => (.stopped, s3.taskFault t ((a.fault.map (·.1)).getD 0) w.first (passFlt a b c v.ranC) code false)
    | some m =>
      match m.fault with
      | some (cause, index) => (.stopped, s3.programFault t cause index (passFlt a b c v.ranC) code)
      | none =>
        let s4 := s3.commit t w m
        let sm := if v.odd = 0 then s4 else s4.mismatch t v.odd w.first
        let s5 := sm.setRt t { sm.rt t with owed := overlapped mode jig w v }
        let brk := m.close == .breakpoint || ((m.close == .taken || m.close == .psync) && s.lp.breakpoints.contains (m.regs.ip.toNat - 1))
        let s6 := if brk || s.lp.stepping then s5.haltAsk else s5
        (if m.close = .taken then .ended else if m.close = .psync then .drains else .goes, s6)

/-! ## The end of a cycle (R130, R150, R160, R163, R208) -/

/-- Output segments of a task in ascending Q offset. -/
def State.outSegs (s : State) (t : Nat) : List SegDecl :=
  (s.owned t true).foldl (fun (l : List SegDecl) g =>
    l.filter (fun (x : SegDecl) => decide (x.off < g.off)) ++ [g] ++ l.filter (fun (x : SegDecl) => decide (g.off ≤ x.off))) []

/-- An output segment is handed on (R160). -/
def State.handOn (s : State) (g : SegDecl) : State :=
  let bs := s.bytes ⟨1, 0, g.off⟩ g.len
  match g.kind with
  | .field => s.setLio { s.lio with out := some bs }
  | .station n => s.stationOut n bs
  | .view _ => s

/-- The task has had a completed cycle since the switch (spec/07 R208). -/
def State.firstDone (s : State) (t : Nat) : State :=
  s.setWord (W.OC_FIRST (t / 32)) (s.word (W.OC_FIRST (t / 32)) &&& ~~~(BitVec.ofNat 32 (2 ^ (t % 32))))

/-- The instant at which a task's watchdog expires (R146; spec/06 R192). -/
def State.wdLimit (s : State) (t : Nat) : Nat := let r := s.rt t; r.relNs + 1000 * r.wdUs + r.wdHeld

/-- WATCHDOG_EXPIRY (R147, R192): a released task's limit has expired. (DESIGN CHOICE, DEDUCED: log entries 4, 40) -/
def watchdogExpiryOp (t : Nat) (s : State) : State :=
  let r := s.rt t
  if r.st = .idle || isStart t || s.lp.halted then s
  else
    let s1 := if r.st = .ready then s.setRt t { r with cyc := r.cyc + 1 } else s
    ((s1.raise 17 t r.wdUs ((s.ns - r.relNs) / 1000)).writeLoops t).abortCycle t 1 0x81

/-- Evaluations of the loops that a task hosts are requested or in progress. -/
def State.hostPending (s : State) (t : Nat) : Bool :=
  s.le.cur.any (fun (c : LoopCur) => c.req.host == t) || s.le.queue.any (fun (q : LoopReq) => q.host == t)

/-- The output update point (R160; spec/08 R220), the output hash (spec/09 R260), statistics and budget; after a start task the module is
cycling (R164). -/
def State.finishCycle (s2 : State) (t : Nat) : State :=
  let s3 := s2.writeLoops t
  let segs := s3.outSegs t
  let s4 := segs.foldl State.handOn (s3.setRing { s3.ring with cycleEnded := true })
  let s5 := s4.hashOut t 0 (segs.flatMap (fun (g : SegDecl) => s4.bytes ⟨1, 0, g.off⟩ g.len))
  let s6 := (((s5.handlingCycleEnd t).cycleStats t).budget t).firstDone t
  let sw := s6.switchTask == some t
  let s7 := s6.leaveCycle t
  let s8 := if sw && s7.sch.running.isNone then s7.setOc { s7.oc with atPoint := true } else s7
  if isStart t then { s8.wr F.SCH_STAT_STATE 2 with sch := { s8.sch with first := true } } else s8

/-- The cycle ends through END, ENDC or ENDCN. The output update point waits for the loops the task hosts, and the wait counts towards its
watchdog (spec/08 R220): at the limit the watchdog expires. While the engine's domain has no clock the task waits on (spec/02 R46). -/
def State.endCycle (s : State) (t : Nat) : State :=
  if !s.hostPending t || s.le.stopped then s.finishCycle t
  else
    let limit := s.wdLimit t
    let s1 := State.runHost t limit (2 * s.le.queue.length + 4) s
    if !s1.hostPending t then { s1 with ns := max s1.ns s1.le.free }.finishCycle t
    else if s1.engineRuns then watchdogExpiryOp t { s1 with ns := max s1.ns limit }
    else s1.setRt t { s1.rt t with ending := true }

/-- Tasks whose output update point waits for the engine go on. -/
def State.endWaiting (s : State) : State :=
  (s.sch.tasks.filter (fun (e : Nat × TaskRt) => e.2.ending)).foldl (fun (s : State) (e : Nat × TaskRt) =>
    if s.engineRuns then (s.setRt e.1 { s.rt e.1 with ending := false }).endCycle e.1 else s) s

/-- The task waits in PSYNC (R132; spec/15 R433, R434): the staged rules are active and the epoch has advanced. -/
def State.psyncWait (s : State) (t : Nat) : State :=
  let s1 := s.epochAdvance
  (s1.setRt t { s1.rt t with waitEpoch := some (s1.word W.PR_EPOCH).toNat }).flag F.PR_STAT_PSYNC_WAIT true

/-- A resolved window's consequence. -/
def afterWindow (t : Nat) (a : After × State) : State :=
  match a.1 with
  | .ended => a.2.endCycle t
  | .drains => a.2.psyncWait t
  | _ => a.2

/-- Resolves the open window if it is closed and of the running task, with what follows. -/
def State.compareWindow (s : State) (rep : PassReport) : State :=
  match s.sch.running, s.lp.win with
  | some t, some w => if w.task = t && w.closed.isSome && !s.lp.stopped then afterWindow t (s.resolve rep w) else s
  | _, _ => s

/-- WINDOW_COMPARE (R180): a closed window is resolved. In an open one the LP fetches first: a word that spells no instruction, or the end of
the code, closes the window with its cause, in every pass (spec/03 R83, R89, R95, R97; spec/04 R114, R129, R138); it takes 1 cycle, since no table
gives it a base count. (DESIGN CHOICE: log entries 6, 79) -/
def windowCompareOp (rep : PassReport) (s : State) : State :=
  match s.lpTask.bind (fun t => (s.fetchCause t).map (fun c => (t, c))) with
  | none => s.compareWindow rep
  | some (t, cause) => (s.applyFault t (s.curWin t) cause 1).compareWindow rep

/-- The window closed by END or PSYNC is resolved in the same step; one that they do not close stays open. -/
def State.compareAtEnd (s0 s : State) (rep : PassReport) : State :=
  match s0.lpTask, s.lp.win with
  | some _, some w => if w.closed = some .taken || w.closed = some .psync then s.compareWindow rep else s
  | _, _ => s

/-- The passes of a window that have begun: pass A alone while it is open or in SINGLE mode, else up to `ran` of the three. -/
def passesRun (mode ran : Nat) (w : Win) : Nat := if w.closed.isNone || mode = 1 then 1 else max 1 (min 3 ran)

/-- LP_CHECKER_ERROR (R186): `ran` passes had begun, `passFlt` names those that had already ended through a fault or a code error, `codeErr` says
that pass C met a code error. A pass that the error cuts short counts whole. (DESIGN CHOICE: log entry 79) -/
def lpCheckerErrorOp (ran : Nat) (passFlt : BitVec 3) (codeErr : Bool) (s : State) : State :=
  match s.sch.running, s.lp.win with
  | some t, some w =>
    if w.task = t && !s.lp.stopped then
      let n := passesRun (s.rt t).mode ran w
      (s.lpUse t (n * w.cycles + w.extraA + 6)).taskFault t ((w.fault.map (·.1)).getD 0) w.first (passFlt.toNat % 2 ^ n) (codeErr && n == 3) true
    else s
  | _, _ => s

/-- PSYNC_DRAIN_COMPLETE (R132; spec/15 R434): every access of earlier epochs has completed; the task continues. -/
def psyncDrainCompleteOp (t : Nat) (s : State) : State :=
  if (s.rt t).waitEpoch.isNone then s
  else
    let s1 := s.setRt t { s.rt t with waitEpoch := none }
    s1.flag F.PR_STAT_PSYNC_WAIT (s1.sch.tasks.any (fun (e : Nat × TaskRt) => e.2.waitEpoch.isSome))

/-! ## Preemption and the watchdog (R144, R146–R148) -/

/-- A task ranks above the running one by class or priority, not by the order of release (R143, R441). -/
def outprio (a b : TaskRt) : Bool := if a.trap != b.trap then a.trap else decide (b.prio < a.prio)

/-- The LP waits for the commit of the running task's last window, where that commit overlaps what follows (Table 6-4). -/
def State.overlapEnd (s : State) : State :=
  match s.sch.running with
  | some t =>
    if (s.rt t).owed then
      let s1 := s.lpUse t 6
      s1.setRt t { s1.rt t with owed := false }
    else s
  | none => s

/-- The running task `t` gives way: the LP saves its registers, after the commit of its last window (R144, Table 6-4). -/
def State.giveWay (s : State) (t : Nat) (by_ : Nat) : State :=
  let r := s.rt t
  let s1 := s.overlapEnd
  let s2 := s1.setRt t { s1.rt t with preempted := true }
  let s3 : State := { s2 with ns := s2.ns + 40, sch := { s2.sch with running := none } }
  (s3.forward .preempt 12 [t, r.wins, by_]).showTask t

/-- TASK_PREEMPT (R144; spec/09 R258): at a window boundary; on a shadowing standby where a PREEMPT record names it. -/
def taskPreemptOp (s : State) : State :=
  match s.sch.running, s.bestReady with
  | some t, some e =>
    let r := s.rt t
    if s.lp.win.isSome || s.lp.stopped || s.lp.halted || isStart t || !outprio e.2 r then s
    else if s.shadowing then
      let here := fun (x : Nat × Nat × Nat) => x == (t, r.wins, e.1)
      if s.pair.preempts.any here then (s.setPair { s.pair with preempts := dropFirst here s.pair.preempts }).giveWay t e.1 else s
    else s.giveWay t e.1
  | _, _ => s

/-! ## Triggers and timers (R152–R154) -/

/-- EVENT_TRIGGER (R152, R153): an event of a source 1–5 reaches every event task that selects it. A standby uses none of its own (spec/09 R258). (DEDUCED: log entry 40) -/
def eventTriggerOp (src a : Nat) (s : State) : State :=
  if src = 0 || 5 < src then s else s.sourceEvent src a

/-- A timer fires and is disarmed (R154); it releases nothing if TTRIG no longer selects it (R152). -/
def State.timerFire (s : State) (t : Nat) : State :=
  let s1 := (s.setRt t { s.rt t with armed := none }).flag (F.TSTAT_ARMED t) false
  if s.rd (fTrigSrc t) = 6 then (s1.trigger t 3 false false).2 else s1

/-- EVENT_TIMER_EXPIRY (R154): the beginning of tick a + D; while no task may be released it waits for the first tick that allows it. -/
def eventTimerExpiryOp (t : Nat) (s : State) : State :=
  match (s.rt t).armed with
  | none => s
  | some due =>
    if s.tick < due || s.rd (fTrigSrc t) ≠ 6 || !s.isActive then s
    else if s.mayRelease then s.timerFire t
    else if s.sch.due.contains t then s else { s with sch := { s.sch with due := s.sch.due ++ [t] } }

/-- TIMER_ARM (R154). -/
def timerArmOp (t : Nat) (s : State) : State := s.timerArm t

/-! ## The grid tick (R141, R145, R154, R164) -/

/-- The end of the tick before: transfer budget (spec/09 R263), loads (Table 5-12; spec/08 Table 8-10). LP_LOAD is taken over intervals of 20 and
of 20,000 ticks that begin at multiples of them, without the 40 ns of a switch of tasks. (DESIGN CHOICE: log entry 77) -/
def State.tickEnd (s : State) : State :=
  let n := s.pair.fwdTick
  let sum := n + (s.pair.fwdLast.take 19).foldl (· + ·) 0
  let s1 := ((s.peak F.FWD_TICK_MAX n).peak F.FWD_1MS_MAX sum).setPair { s.pair with fwdTick := 0, fwdLast := n :: s.pair.fwdLast.take 18 }
  let s2 := if s.isActive && !s.pair.fwdStopped && (decide (32768 < n) || decide (1000000 < sum)) then (s1.dtSend .syncDropped 4 [1]).stopForward else s1
  let k := s2.tick + 1
  let s3 := s2.engineTick
  let s4 := if k % 20 = 0 then
      { s3.peak F.LP_LOAD_PEAK_1MS (min 65535 (s3.sch.busyMs / 100)) with sch := { s3.sch with busyMs := 0, ms := s3.sch.ms + 1 } }
    else s3
  if k % 20000 = 0 then
    { s4.engineSecond.wr F.LP_LOAD_LOAD_1S (min 65535 (s4.sch.busyS / 100000)) with
      le := s4.engineSecond.le, sch := { s4.sch with busyS := 0, sec := s4.sch.sec + 1 } }
  else s4

/-- The tick begins at the instant at which TT equals 50 × k µs. (DESIGN CHOICE: log entry 5) -/
def State.alignTick (s : State) : State :=
  { s with ns := max s.ns s.tickNs }

/-- The watchdog limit of a task in its cycle has been reached at the instant of its next release: it comes first (R145). (DEDUCED: log entry 40) -/
def State.watchdogFirst (s : State) (t : Nat) : State :=
  let r := s.rt t
  if r.st != .idle && decide (s.wdLimit t ≤ s.tickNs) then watchdogExpiryOp t s else s

/-- The releases of a tick (R141, R145, R164) and what waited for a grid point (R154). -/
def State.tickReleases (s : State) : State :=
  let k := s.tick
  if !s.mayRelease then s
  else
    let first := s.sch.first
    let s1 : State := { s with sch := { s.sch with first := false } }
    let s2 := (List.range 32).foldl (fun (s : State) t =>
      let grid := s.onGrid t k
      if s.enabled t then (if grid || first then (s.watchdogFirst t).gridRelease t else s)
      else if grid && s.declared t then s.loopGrid t false else s) s1
    let due := s2.sch.due
    due.foldl State.timerFire ({ s2 with sch := { s2.sch with due := [] } }.releaseHeld)

/-- A trial standby's task in overrun by its own grid fails the trial (spec/07 Table 7-5, step 3a). (DEDUCED: log entry 44) -/
def State.trialOverrun (s : State) : State :=
  if s.on F.OC_STAT_TRIAL && (s.releasesAt s.tick).any (fun t => (s.rt t).st != .idle) then s.trialBad else s

/-- The handover at tick h (spec/09 R274): answers whether this module sends no witness. -/
def State.handoverTick (s : State) : Bool × State :=
  match s.pair.handover with
  | none => (false, s)
  | some (h, kind) =>
    if s.tick < h then (false, s)
    else if s.role = roleActive then (true, s.handedOver)
    else if s.mayTakeOver then (true, s.takeOver kind)
    else (false, s.setPair { s.pair with handover := none })

/-- TICK (R141): tick k + 1 begins. (DESIGN CHOICE: log entry 5) -/
def tickOp (s : State) : State :=
  if !s.netUp then s
  else
    let s1 := s.tickEnd
    let s2 := (s1.set64 W.TICK_LO W.TICK_HI ((s1.tick + 1) % 2 ^ 64)).alignTick
    let s3 := s2.forward .dtTick 16 [s2.tick, s2.ttNow]
    let (mute, s4) := s3.handoverTick
    let s5 := s4.ringTick mute
    if s5.shadowing then s5.trialOverrun
    else if s5.isActive && !mute then s5.tickReleases
    else s5

/-! ## Settings and statistics by command -/

/-- TASK_SETTING_WRITE (R166, R167): TCFG, TPER or TTRIG, and TWDOG of a task. -/
def taskSettingWriteOp (idx : Nat) (v : Word) (s : State) : State :=
  if 0x0240 ≤ idx && idx < 0x03C8 && (idx - 0x0240) % 4 < 3 then s.taskWrite idx 0xFFFFFFFF#32 v else s

def statSelWriteOp (v : Word) (s : State) : State := s.statSel 0xFFFFFFFF#32 v
def clrMaxOp (s : State) : State := s.wr F.BUDGET_STAT_FAST_MAX_NS 0

/-- OVR_CLEAR (Table 5-11): 1 is written to OVR of a task. -/
def ovrClearOp (t : Nat) (s : State) : State := if 98 ≤ t then s else s.taskWrite (W.TSTAT t) 1#32 1#32

def xmodeModeWriteOp (t : Nat) (v : Word) (s : State) : State := if 98 ≤ t then s else s.xmodeWrite t 0xFFFFFFFF#32 v

/-- MM_CLR (Table 6-12). -/
def mmClrOp (t : Nat) (s : State) : State := if 98 ≤ t then s else s.xmodeWrite t 0x8000#32 0x8000#32

end Sys2Proof.Machine
end

