-- ==== Sys2Proof/Machine/Settle.lean ====
section
/-! DEFINITION. The fault collector (spec/15 R438–R449): firing, reactions, nesting, block resets, safe hold; and `settle`, by which every
command ends: sources raised fire, the shadow execution takes its turn, the channels follow the role. -/

namespace Sys2Proof.Machine

/-! ## Block resets (R442, Table 15-5) -/

/-- The halted LP resumes (spec/06 R192): watchdogs go on, triggers held in the halt are released. -/
def State.lpResume (s : State) : State :=
  if !s.lp.halted then s
  else
    let d := s.ns - s.lp.haltNs
    let s1 : State := { s with
      lp := { s.lp with halted := false, stepping := false }
      sch := { s.sch with tasks := s.sch.tasks.map (fun (e : Nat × TaskRt) => (e.1, { e.2 with wdHeld := e.2.wdHeld + d })) } }
    (s1.flag F.BENCH_STAT_HALTED false).releaseHeld

/-- The Dovetail link is retrained: the replay buffer goes, a standby drops synchronisation with cause LINK. -/
def State.resetDovetail (s : State) : State :=
  let s1 := (s.setPair { s.pair with linkFault := true, replay := [], resent := [], naks := 0 }).flag F.DT_STAT_LINK_UP false
  if s1.isActive then s1.stopForward else s1.drop 3

/-- The receiver of the isolation link restarts: the field image is invalid until R349 holds (spec/11). -/
def State.resetIsolation (s : State) : State :=
  let clearV := fun (x : Nat) => x - x % 2
  (s.setLio { s.lio with
    good := 0, missed := max 3 s.lio.missed, diQual := 0, cntValid := 0, ucs := s.lio.ucs.map clearV
    lossNs := if s.lio.lossNs.isNone then some s.ns else s.lio.lossNs }).flag F.LIO_STAT_LINK_OK false

/-- The block that owns a source is re-initialised. -/
def State.blockReset (s : State) (src agent : Nat) : State :=
  if src ≤ 19 || (44 ≤ src && src ≤ 47) then s
  else if src ≤ 23 then s.engineReset
  else if src ≤ 31 then s.resetDovetail
  else if src ≤ 35 then s.setMrt { s.mrt with frame := none, viewHold := none }
  else if src ≤ 43 then s.resetIsolation
  else if src ≤ 55 then
    s.ring.flight.foldl (fun (s : State) (a : Acyc) => s.acycEnd a 2 [] []) (s.setRing { s.ring with seen := [] })
  else if src ≤ 57 then canChannelEnableOp agent (canChannelDisableOp agent s)
  else if src ≤ 59 then s.vnRenderAll.vnRewrite allRows
  else (s.flag F.BENCH_STAT_SESSION false).lpResume

/-! ## Reactions (R439–R448) -/

/-- The task that a field of FC_CFG names, unless it is none or no declared event task with SRC 0 (R440). -/
def State.fcTask (s : State) (f : Fld) : Option Nat :=
  let t := s.rd f
  if t = 0x7F || s.fcTaskBad t then none else some t

/-- The configured reaction of a source (Table 15-4). -/
def State.reaction (s : State) (src : Nat) : Nat := (Fld.mk 0 (4 * (src % 8) + 2) (4 * (src % 8))).get (s.word (0x2010 + src / 8))

/-- The reaction in effect and whether an NMT escalated to it (R441, R446–R450): 0–5 of Table 15-4, 6 safe hold. (DEDUCED: log entry 69) -/
def State.effective (s : State) (r : Raise) : Nat × Bool :=
  let c := s.reaction r.src
  let standby := s.role == roleSync || s.role == roleUnsync || s.role == roleFenced
  let base := if (r.jig && s.fc.jigSafe) || (standby && (c == 1 || c == 4)) then 0 else c
  if s.pw.phase == .safeHold || s.pw.phase == .powerFail then (0, false)
  else if s.fc.resetWindow then (if base = 4 || base = 5 then 6 else 0, false)
  else if base = 4 then
    if r.trap || s.on F.FC_STAT_TRAP then (5, true)
    else if (s.fcTask F.FC_CFG_TRAP_TASK).isNone then (5, false)
    else (4, false)
  else (base, false)

/-- A reaction whose handling lasts (R445). -/
def nests (e : Nat) : Bool := e == 1 || e == 2 || e == 4 || e == 5

/-- Class of the top handling, 0 with none in progress. -/
def State.topClass (s : State) : Nat := (s.fc.stack.head?.map (·.cls)).getD 0

/-- A handling enters the stack. (DEDUCED: log entry 69) -/
def State.push (s : State) (h : Handling) : State := { s with fc := { s.fc with stack := h :: s.fc.stack } }

/-- Safe hold (R448): flush, LP and tasks stopped, alive signals low, ROLE_OUT released; frames cease. -/
def State.safeHold (s : State) : State :=
  let s1 := s.flushNow.lpStop.alvOutStop.alvExtStop
  { (s1.idleTasks).setPw { s1.pw with phase := .safeHold, kind := 6 } with
    le := { s1.le with stopped := true, cur := none }
    fc := { s1.fc with stack := [], queue := [], resetWindow := false } }.wr F.RESET_CAUSE_CAUSE 6

/-- The task of an INTERRUPT or NMT reaction is triggered; its handling lasts until the cycle of that release ends (R440, R441). (DEDUCED: log entry 69) -/
def State.reactTask (s : State) (r : Raise) (cls : Nat) (t : Option Nat) : State :=
  match t with
  | none => s
  | some t =>
    let was := (s.rt t).st
    match s.trigger t 4 (cls == 4) (cls == 4) with
    | (.dropped, s1) => s1
    | (_, s1) => s1.push ⟨cls, r.src, t, if was = .cycle then 2 else 1, false⟩

/-- A reaction is applied (Table 15-4). -/
def State.react (s : State) (r : Raise) (e : Nat) : State :=
  let s1 := if 3 ≤ e then s.flush else s
  if e = 1 then s1.reactTask r 1 (s1.fcTask F.FC_CFG_FAULT_TASK)
  else if e = 2 then (s1.push ⟨2, r.src, 0, 1, false⟩).blockReset r.src r.agent
  else if e = 3 then s1.alvExtStop
  else if e = 4 then s1.reactTask r 4 (s1.fcTask F.FC_CFG_TRAP_TASK)
  else if e = 5 then s1.moduleReset 3
  else if e = 6 then s1.safeHold
  else s1

/-- What a firing meets (R445): it is applied, joins the queue, finds its source queued, or finds the queue full. -/
inductive Meets where
  | applied | queued | merged | overflow
  deriving DecidableEq, Repr

/-- The rule of R445 for a firing with reaction `e`. -/
def State.meets (s : State) (r : Raise) (e : Nat) : Meets :=
  if !nests e || s.fc.stack = [] || s.topClass < e then .applied
  else if s.fc.queue.any (·.src == r.src) then .merged
  else if 8 ≤ s.fc.queue.length then .overflow
  else .queued

/-- The common effects of a firing (R438): pending bit, count, FC_LAST and FC_FIRST. -/
def State.fireCommon (s : State) (n : Nat) : State :=
  let t := s.timeBase
  let i := W.FC_PEND (n / 32)
  let s1 := (s.setWord i (s.word i ||| BitVec.ofNat 32 (2 ^ (n % 32)))).setWord (W.FC_CNT n) (BitVec.ofNat 32 (satAdd 0xFFFFFFFF (s.word (W.FC_CNT n)).toNat 1))
  let s2 := ((s1.flag F.FC_LAST_VALID true).wr F.FC_LAST_SRC n).set64 W.FC_LAST_TLO W.FC_LAST_THI t
  if s2.on F.FC_FIRST_VALID then s2 else ((s2.flag F.FC_FIRST_VALID true).wr F.FC_FIRST_SRC n).set64 W.FC_FIRST_TLO W.FC_FIRST_THI t

/-- A source fires (R438–R449). The collector stands still while the module is held in reset outside the module-reset window. (DEDUCED: log entries 15, 69) -/
def State.fireOne (s : State) (r : Raise) : State :=
  if (s.pw.phase == .held || s.pw.phase == .aonOnly) && !s.fc.resetWindow then s
  else
    let (e, esc) := s.effective r
    let m := s.meets r e
    let d0 := s.reaction r.src + 8 * bitNat (m == .queued) + 16 * bitNat (m == .overflow) + 32 * bitNat esc + 64 * bitNat r.jig
      + 128 * bitNat (m == .merged)
    let s1 := (s.fireCommon r.src).note (0x0100 + r.src) r.agent d0 r.d1 r.d2
    match m with
    | .applied => s1.react r e
    | .queued => { s1 with fc := { s1.fc with queue := s1.fc.queue ++ [r] } }
    | .merged => s1
    | .overflow => s1.inc F.FC_QOVF

/-- After a handling has ended the oldest queued firing is applied by the rule of R445; the next, if that handling takes no time. -/
def State.nextQueued : Nat → State → State
  | 0, s => s
  | n + 1, s =>
    match s.fc.queue with
    | [] => s
    | r :: t =>
      let e := (s.effective r).1
      if nests e && s.fc.stack != [] && e ≤ s.topClass then s
      else
        let s1 := { s with fc := { s.fc with queue := t } }.react r e
        if s.fc.stack.length < s1.fc.stack.length then s1 else State.nextQueued n s1

/-- The first ended handling of a class leaves the stack; none answers none. -/
def dropEnded (cls : Nat) : List Handling → Option (List Handling)
  | [] => none
  | h :: t => if h.cls = cls && h.ended then some t else (dropEnded cls t).map (h :: ·)

/-- FAULT_HANDLING_END (R445): a handling of the class that has ended leaves the stack, and the oldest queued firing is applied. -/
def faultHandlingEndOp (cls : Nat) (s : State) : State :=
  match dropEnded cls s.fc.stack with
  | none => s
  | some l => State.nextQueued s.fc.queue.length { s with fc := { s.fc with stack := l } }

/-- The topmost handling of class 2 in progress has ended. -/
def endBlockReset : List Handling → List Handling
  | [] => []
  | h :: t => if h.cls = 2 && !h.ended then { h with ended := true } :: t else h :: endBlockReset t

/-- BLOCK_RESET_COMPLETE (R442): the block reset of the topmost handling of class 2 has ended. -/
def blockResetCompleteOp (s : State) : State := { s with fc := { s.fc with stack := endBlockReset s.fc.stack } }

/-- FAULT_FIRE (R438): source `n` fires. FS14 and FS15 are reserved and never fire (spec/00 R12; spec/06 R194). -/
def faultFireOp (n agent d1 d2 : Nat) (s : State) : State :=
  if 64 ≤ n || n == 14 || n == 15 then s else s.raise n agent d1 d2

/-- TICK_CONFIRM_LAPSE (R444). -/
def tickConfirmLapseOp (s : State) : State :=
  { (if s.pw.alvArmed then s.alvExtStop else s) with sch := { s.sch with confirming := false } }

/-! ## The end of a command -/

/-- Sources raised fire in order, and those that a firing raises after them. (DEDUCED: log entry 15) -/
def State.drain : Nat → State → State
  | 0, s => s
  | n + 1, s =>
    match s.raised with
    | [] => s
    | l => State.drain n (l.foldl State.fireOne { s with raised := [] })

/-- A clone that the link interrupted has failed; after three failures a partner that becomes present again gives three more attempts
(spec/17 R483, R484). (DEDUCED: log entry 71) -/
def State.cloneFollow (s : State) : State :=
  if s.pw.phase != .loader then s
  else
    let s1 : State := if s.pair.cloning && !s.on F.DT_STAT_LINK_UP then
        { s with pair := { s.pair with cloning := false }, upd := { s.upd with cloneFails := s.upd.cloneFails + 1 } } else s
    if 3 ≤ s1.upd.cloneFails && !s1.on F.PAIR_STAT_PRESENT then { s1 with upd := { s1.upd with cloneFails := 0 } } else s1

/-- ALV_EXT stops with SCH_STAT.STATE 3 (R444). -/
def State.alvFollow (s : State) : State := if s.pw.alvArmed && s.rd F.SCH_STAT_STATE = 3 then s.alvExtStop else s

/-- The blocks behind the system cores work: the module is released from reset and its firmware or its loader runs (spec/02 R36, R57). (DESIGN CHOICE: log entry 25) -/
def State.awake (s : State) : Bool :=
  !(s.pw.phase == .held || s.pw.phase == .aonOnly || s.pw.phase == .loading || s.pw.phase == .checked)

/-- What every command ends with: the collector, a failed trial, the shadow execution, the channels' modes. No source stays raised. (DESIGN CHOICE, DEDUCED: log entries 1, 15) -/
def settle (s : State) : State :=
  let s1 := State.drain 16 s
  let s2 := if s1.oc.failed then s1.trialFailed else s1
  let s3 := if s2.awake then ((s2.shadowTurn.canFollow 0).canFollow 1).cloneFollow.alvFollow else s2
  let s4 := State.drain 16 s3
  { s4 with raised := [], fc := { s4.fc with jigNow := false } }

/-- No source stays raised when a command has ended. -/
theorem settle_raised (s : State) : (settle s).raised = [] := rfl

/-- The Jig's inverted check has no effect past the command. -/
theorem settle_jigNow (s : State) : (settle s).fc.jigNow = false := rfl

/-- An effect that a block behind the system cores has: none while they do not run. (DESIGN CHOICE: log entry 1) -/
def awake (f : State → State) (s : State) : State := if s.awake then f s else s

end Sys2Proof.Machine
end

