-- ==== Sys2Proof/Machine/Bits.lean ====
section
/-! DEFINITION. The meanings of the Ebgen instructions of bit logic (spec/03). -/

namespace Sys2Proof.Machine

/-- LD (spec rule R84). -/
def execLd (o : Opnd) (s : State) : Host.Outcome State Fault Refusal :=
  .next (settle (combine (fun _ b => b) o s))

/-- LDN (spec rule R84). -/
def execLdn (o : Opnd) (s : State) : Host.Outcome State Fault Refusal :=
  .next (settle (combine (fun _ b => !b) o s))

/-- AND (spec rule R84). -/
def execAnd (o : Opnd) (s : State) : Host.Outcome State Fault Refusal :=
  .next (settle (combine (fun a b => a && b) o s))

/-- ANDN (spec rule R84). -/
def execAndn (o : Opnd) (s : State) : Host.Outcome State Fault Refusal :=
  .next (settle (combine (fun a b => a && !b) o s))

/-- OR (spec rule R84). -/
def execOr (o : Opnd) (s : State) : Host.Outcome State Fault Refusal :=
  .next (settle (combine (fun a b => a || b) o s))

/-- ORN (spec rule R84). -/
def execOrn (o : Opnd) (s : State) : Host.Outcome State Fault Refusal :=
  .next (settle (combine (fun a b => a || !b) o s))

/-- XOR (spec rule R84). -/
def execXor (o : Opnd) (s : State) : Host.Outcome State Fault Refusal :=
  .next (settle (combine (fun a b => a ^^ b) o s))

/-- XORN (spec rule R84). -/
def execXorn (o : Opnd) (s : State) : Host.Outcome State Fault Refusal :=
  .next (settle (combine (fun a b => a ^^ !b) o s))

/-- AND_NEST (spec rule R85). -/
def execAndNest (o : Opnd) (s : State) : Host.Outcome State Fault Refusal :=
  .next (settle (nestOpen false 1 o s))

/-- ANDN_NEST (spec rule R85). -/
def execAndnNest (o : Opnd) (s : State) : Host.Outcome State Fault Refusal :=
  .next (settle (nestOpen true 1 o s))

/-- OR_NEST (spec rule R85). -/
def execOrNest (o : Opnd) (s : State) : Host.Outcome State Fault Refusal :=
  .next (settle (nestOpen false 2 o s))

/-- ORN_NEST (spec rule R85). -/
def execOrnNest (o : Opnd) (s : State) : Host.Outcome State Fault Refusal :=
  .next (settle (nestOpen true 2 o s))

/-- XOR_NEST (spec rule R85). -/
def execXorNest (o : Opnd) (s : State) : Host.Outcome State Fault Refusal :=
  .next (settle (nestOpen false 3 o s))

/-- XORN_NEST (spec rule R85). -/
def execXornNest (o : Opnd) (s : State) : Host.Outcome State Fault Refusal :=
  .next (settle (nestOpen true 3 o s))

/-- CLOSE_BRACKET (spec rule R85). -/
def execCloseBracket (o : FnOpnd) (s : State) : Host.Outcome State Fault Refusal :=
  .next (settle (fn13 false closeBracket o s))

/-- NOT (spec rule R89). -/
def execNot (o : FnOpnd) (s : State) : Host.Outcome State Fault Refusal :=
  .next (settle (fn13 false (fun c e => .ok (e.setBA !c.r.ba)) o s))

/-- ONE (spec rule R89). -/
def execOne (o : FnOpnd) (s : State) : Host.Outcome State Fault Refusal :=
  .next (settle (fn13 false (fun _ e => .ok (e.setBA true)) o s))

/-- ZERO (spec rule R89). -/
def execZero (o : FnOpnd) (s : State) : Host.Outcome State Fault Refusal :=
  .next (settle (fn13 false (fun _ e => .ok (e.setBA false)) o s))

/-- LDC (spec rule R90). -/
def execLdc (o : FnOpnd) (s : State) : Host.Outcome State Fault Refusal :=
  .next (settle (fnCond (fun _ k => k) o s))

/-- ANDC (spec rule R90). -/
def execAndc (o : FnOpnd) (s : State) : Host.Outcome State Fault Refusal :=
  .next (settle (fnCond (fun a k => a && k) o s))

/-- ORC (spec rule R90). -/
def execOrc (o : FnOpnd) (s : State) : Host.Outcome State Fault Refusal :=
  .next (settle (fnCond (fun a k => a || k) o s))

/-- ST (spec rule R91). -/
def execSt (o : Opnd) (s : State) : Host.Outcome State Fault Refusal :=
  .next (settle (storeBit (fun a => some a) o s))

/-- STN (spec rule R91). -/
def execStn (o : Opnd) (s : State) : Host.Outcome State Fault Refusal :=
  .next (settle (storeBit (fun a => some !a) o s))

/-- SET (spec rule R92). -/
def execSet (o : Opnd) (s : State) : Host.Outcome State Fault Refusal :=
  .next (settle (storeBit (fun a => if a then some true else none) o s))

/-- RST (spec rule R92). -/
def execRst (o : Opnd) (s : State) : Host.Outcome State Fault Refusal :=
  .next (settle (storeBit (fun a => if a then some false else none) o s))

/-- JMP (spec rule R93). -/
def execJmp (area : BitVec 4) (t : BitVec 22) (s : State) : Host.Outcome State Fault Refusal :=
  .next (settle (jump (fun _ => true) area t s))

/-- JC (spec rule R93). -/
def execJc (area : BitVec 4) (t : BitVec 22) (s : State) : Host.Outcome State Fault Refusal :=
  .next (settle (jump (fun a => a) area t s))

/-- JCN (spec rule R93). -/
def execJcn (area : BitVec 4) (t : BitVec 22) (s : State) : Host.Outcome State Fault Refusal :=
  .next (settle (jump (fun a => !a) area t s))

end Sys2Proof.Machine
end

