-- ==== Sys2Proof/Machine/CanCmd.lean ====
section
/-! DEFINITION. The meanings of the commands of CAN (spec/13): each is its operation, followed by what every command ends with. -/

namespace Sys2Proof.Machine

/-- CAN_CHANNEL_ENABLE (spec rule R392). -/
def execCanChannelEnable (ch : Nat) (s : State) : Host.Outcome State Fault Refusal :=
  .next (settle (awake (canChannelEnableOp ch) s))

/-- CAN_CHANNEL_DISABLE (spec rule R392). -/
def execCanChannelDisable (ch : Nat) (s : State) : Host.Outcome State Fault Refusal :=
  .next (settle (awake (canChannelDisableOp ch) s))

/-- CAN_INTEGRATION_COMPLETE (spec rule R392). -/
def execCanIntegrationComplete (ch : Nat) (s : State) : Host.Outcome State Fault Refusal :=
  .next (settle (awake (canIntegrationCompleteOp ch) s))

/-- CAN_FRAME_RECEIVE (spec rule R396). -/
def execCanFrameReceive (ch : Nat) (f : CanFrame) (s : State) : Host.Outcome State Fault Refusal :=
  .next (settle (awake (canFrameReceiveOp ch f) s))

/-- CAN_FRAME_SENT (spec rule R399). -/
def execCanFrameSent (ch : Nat) (s : State) : Host.Outcome State Fault Refusal :=
  .next (settle (awake (canFrameSentOp ch) s))

/-- CAN_BUS_ERROR (spec rule R401). -/
def execCanBusError (ch : Nat) (code : Nat) (data : Bool) (tx : Bool) (dominantAfterFlag : Bool) (s : State) : Host.Outcome State Fault Refusal :=
  .next (settle (awake (canBusErrorOp ch code data tx dominantAfterFlag) s))

/-- CAN_RECOVERY_START (spec rule R402). -/
def execCanRecoveryStart (ch : Nat) (s : State) : Host.Outcome State Fault Refusal :=
  .next (settle (awake (canRecoveryStartOp ch) s))

/-- CAN_RECOVERY_COMPLETE (spec rule R402). -/
def execCanRecoveryComplete (ch : Nat) (s : State) : Host.Outcome State Fault Refusal :=
  .next (settle (awake (canRecoveryCompleteOp ch) s))

/-- ACK (spec rule R398). -/
def execAck (ch : Nat) (win : Nat) (seq : Nat) (s : State) : Host.Outcome State Fault Refusal :=
  .next (settle (awake (ackOp ch win seq) s))

/-- TX (spec rule R399). -/
def execTx (ch : Nat) (win : Nat) (s : State) : Host.Outcome State Fault Refusal :=
  .next (settle (awake (txOp ch win) s))

/-- ABORT_REQUEST (spec rule R399). -/
def execAbortRequest (ch : Nat) (win : Nat) (s : State) : Host.Outcome State Fault Refusal :=
  .next (settle (awake (abortRequestOp ch win) s))

/-- ABORT_ALL (spec rule R405). -/
def execAbortAll (ch : Nat) (s : State) : Host.Outcome State Fault Refusal :=
  .next (settle (awake (abortAllOp ch) s))

/-- REC_REQ (spec rule R402). -/
def execRecReq (ch : Nat) (s : State) : Host.Outcome State Fault Refusal :=
  .next (settle (awake (recReqOp ch) s))

/-- WIN_SEL_WRITE (spec rule R395). -/
def execWinSelWrite (ch : Nat) (win : Nat) (v : Word) (s : State) : Host.Outcome State Fault Refusal :=
  .next (settle (awake (winSelWriteOp ch win v) s))

/-- CAN_SETTING_WRITE (spec rule R405). -/
def execCanSettingWrite (idx : Nat) (v : Word) (s : State) : Host.Outcome State Fault Refusal :=
  .next (settle (awake (canSettingWriteOp idx v) s))

/-- CAN_PROTOCOL_EXCEPTION (spec rule R387). -/
def execCanProtocolException (ch : Nat) (s : State) : Host.Outcome State Fault Refusal :=
  .next (settle (awake (canProtocolExceptionOp ch) s))

end Sys2Proof.Machine
end

