-- ==== Sys2Proof/Machine/Collect.lean ====
section
/-! DEFINITION. The commands of the fault collector, the recorder, the protection unit and the loop engine that are one operation of their
block (spec/08; spec/15 R432–R435, R440–R442, R450–R456). -/

namespace Sys2Proof.Machine

/-- A write of all bits of a word. -/
def allBits : Word := 0xFFFFFFFF#32

/-- LOOP_EVALUATION (spec/08 R218–R221): the engine starts the evaluation of the oldest request. -/
def loopEvaluationOp (s : State) : State := s.evaluate

/-- LOOP_EVAL_COMPLETE (spec/08 R222–R236). -/
def loopEvalCompleteOp (rep : LoopReport) (s : State) : State := s.evalDone rep

/-- PROTECTION_RULE_WRITE (R433, R435): word `idx` is one of PR_RULE_A and PR_RULE_B of the selected master. -/
def protectionRuleWriteOp (idx : Nat) (v : Word) (s : State) : State :=
  if 0x1F40 ≤ idx && idx < 0x1F80 then s.writeRule idx allBits v else s

/-- PR_MSEL_WRITE (R435). -/
def prMselWriteOp (v : Word) (s : State) : State := s.writeMsel allBits v

/-- FIRST_VIOL_CLEAR (R432): FIRST_VIOL of PR_STAT is written with 1. -/
def firstViolClearOp (s : State) : State := s.writePrStat allBits 0x80000000#32

/-- FC_CFG_WRITE (R440, R441). -/
def fcCfgWriteOp (v : Word) (s : State) : State := s.fcWrite W.FC_CFG allBits v

/-- FC_REACT_WRITE (R439, R442): word `idx`, 0–7. -/
def fcReactWriteOp (idx : Nat) (v : Word) (s : State) : State :=
  if idx < 8 then s.fcWrite (0x2010 + idx) allBits v else s

/-- FC_JIG (R450). -/
def fcJigOp (v : Word) (s : State) : State := s.fcWrite W.FC_JIG allBits v

/-- RECORDER_FLUSH (R452). -/
def recorderFlushOp (s : State) : State := s.flush

/-- RECORDER_FLUSH_TIMER (R452): the second of a flush timer has passed. -/
def recorderFlushTimerOp (s : State) : State := s.flush

/-- One code's surplus reported at the end of a rate interval (R454). -/
def State.rateReport (s : State) (e : Nat × (Nat × Nat × Nat)) : State :=
  if e.2.2.1 = 0 then s
  else (s.incBy F.REC_SUPP e.2.2.1).note 1 e.1 e.2.2.1 (e.2.2.2 % 2 ^ 32) (e.2.2.2 / 2 ^ 32 % 2 ^ 32)

/-- RATE_INTERVAL_END (R454): each code with a surplus is reported, in rising order, and the counts begin afresh. (DEDUCED: log entry 70) -/
def rateIntervalEndOp (s : State) : State :=
  s.recd.rates.foldl State.rateReport { s with recd := { s.recd with rates := [] } }

/-- FREEZE_EXPIRY (R455). -/
def freezeExpiryOp (s : State) : State := s.unfreeze 1

/-- USER_RECORD (R456): a write of REC_UCODE. -/
def userRecordOp (w : Writer) (v : Word) (s : State) : State := s.recWrite w W.REC_UCODE allBits v

end Sys2Proof.Machine
end

