-- ==== Sys2Proof/Machine/CollectorCmd.lean ====
section
/-! DEFINITION. The meanings of the commands of the fault collector (spec/15): each is its operation, followed by what every command ends with. -/

namespace Sys2Proof.Machine

/-- FAULT_FIRE (spec rule R438). -/
def execFaultFire (n : Nat) (agent : Nat) (d1 : Nat) (d2 : Nat) (s : State) : Host.Outcome State Fault Refusal :=
  .next (settle (awake (faultFireOp n agent d1 d2) s))

/-- FAULT_HANDLING_END (spec rule R445). -/
def execFaultHandlingEnd (cls : Nat) (s : State) : Host.Outcome State Fault Refusal :=
  .next (settle (awake (faultHandlingEndOp cls) s))

/-- BLOCK_RESET_COMPLETE (spec rule R442). -/
def execBlockResetComplete (s : State) : Host.Outcome State Fault Refusal :=
  .next (settle (awake blockResetCompleteOp s))

/-- TICK_CONFIRM_LAPSE (spec rule R444). -/
def execTickConfirmLapse (s : State) : Host.Outcome State Fault Refusal :=
  .next (settle (awake tickConfirmLapseOp s))

/-- FC_CFG_WRITE (spec rule R441). -/
def execFcCfgWrite (v : Word) (s : State) : Host.Outcome State Fault Refusal :=
  .next (settle (awake (fcCfgWriteOp v) s))

/-- FC_REACT_WRITE (spec rule R439). -/
def execFcReactWrite (idx : Nat) (v : Word) (s : State) : Host.Outcome State Fault Refusal :=
  .next (settle (awake (fcReactWriteOp idx v) s))

/-- CLR_FIRST (spec rule R460). -/
def execClrFirst (s : State) : Host.Outcome State Fault Refusal :=
  .next (settle (awake clrFirstOp s))

/-- CLR_QOVF (spec rule R460). -/
def execClrQovf (s : State) : Host.Outcome State Fault Refusal :=
  .next (settle (awake clrQovfOp s))

/-- CLR_CNT (spec rule R460). -/
def execClrCnt (s : State) : Host.Outcome State Fault Refusal :=
  .next (settle (awake clrCntOp s))

/-- FC_JIG (spec rule R450). -/
def execFcJig (v : Word) (s : State) : Host.Outcome State Fault Refusal :=
  .next (settle (awake (fcJigOp v) s))

end Sys2Proof.Machine
end

