-- ==== Sys2Proof/Machine/ExecCmd.lean ====
section
/-! DEFINITION. The meanings of the commands of redundant execution (spec/06): each is its operation, followed by what every command ends with. -/

namespace Sys2Proof.Machine

/-- WINDOW_COMPARE (spec rule R180). -/
def execWindowCompare (rep : PassReport) (s : State) : Host.Outcome State Fault Refusal :=
  .next (settle (awake (windowCompareOp rep) s))

/-- LP_CHECKER_ERROR (spec rule R186). -/
def execLpCheckerError (found : CheckerReport) (s : State) : Host.Outcome State Fault Refusal :=
  .next (settle (awake (lpCheckerErrorOp found.ran found.passFlt found.codeErr) s))

/-- XMODE_MODE_WRITE (spec rule R187). -/
def execXmodeModeWrite (task : Nat) (v : Word) (s : State) : Host.Outcome State Fault Refusal :=
  .next (settle (awake (xmodeModeWriteOp task v) s))

/-- MM_CLR (spec rule R187). -/
def execMmClr (task : Nat) (s : State) : Host.Outcome State Fault Refusal :=
  .next (settle (awake (mmClrOp task) s))

/-- CAP_CLR (spec rule R185). -/
def execCapClr (s : State) : Host.Outcome State Fault Refusal :=
  .next (settle (awake capClrOp s))

/-- CLR_PERSIST (spec rule R188). -/
def execClrPersist (s : State) : Host.Outcome State Fault Refusal :=
  .next (settle (awake clrPersistOp s))

end Sys2Proof.Machine
end

