-- ==== Sys2Proof/Machine/FieldIoCmd.lean ====
section
/-! DEFINITION. The meanings of the commands of local field I/O (spec/11): each is its operation, followed by what every command ends with. -/

namespace Sys2Proof.Machine

/-- ISOLATION_FRAME (spec rule R325). -/
def execIsolationFrame (s : State) : Host.Outcome State Fault Refusal :=
  .next (settle (awake isolationFrameOp s))

/-- ISOLATION_FRAME_MISSED (spec rule R347). -/
def execIsolationFrameMissed (s : State) : Host.Outcome State Fault Refusal :=
  .next (settle (awake isolationFrameMissedOp s))

/-- FIELD_HOLD_EXPIRY (spec rule R348). -/
def execFieldHoldExpiry (s : State) : Host.Outcome State Fault Refusal :=
  .next (settle (fieldHoldExpiryOp s))

/-- HOST_HOLD_EXPIRY (spec rule R348). -/
def execHostHoldExpiry (s : State) : Host.Outcome State Fault Refusal :=
  .next (settle (awake hostHoldExpiryOp s))

/-- DI_FILTERED_CHANGE (spec rule R330). -/
def execDiFilteredChange (ch : Nat) (level : Bool) (tNs : Nat) (s : State) : Host.Outcome State Fault Refusal :=
  .next (settle (diFilteredChangeOp ch level tNs s))

/-- DI_DEBOUNCE_COMPLETE (spec rule R329). -/
def execDiDebounceComplete (ch : Nat) (s : State) : Host.Outcome State Fault Refusal :=
  .next (settle (diDebounceCompleteOp ch s))

/-- DI_WIRE_BREAK (spec rule R328). -/
def execDiWireBreak (ch : Nat) (broken : Bool) (s : State) : Host.Outcome State Fault Refusal :=
  .next (settle (diWireBreakOp ch broken s))

/-- DI_STUCK_TIMEOUT (spec rule R331). -/
def execDiStuckTimeout (ch : Nat) (s : State) : Host.Outcome State Fault Refusal :=
  .next (settle (diStuckTimeoutOp ch s))

/-- CNT_CLR (spec rule R334). -/
def execCntClr (ch : Nat) (s : State) : Host.Outcome State Fault Refusal :=
  .next (settle (awake (cntClrOp ch) s))

/-- OVERRUN_CLEAR (spec rule R334). -/
def execOverrunClear (ch : Nat) (s : State) : Host.Outcome State Fault Refusal :=
  .next (settle (awake (overrunClearOp ch) s))

/-- DO_SHORT_OFF (spec rule R336). -/
def execDoShortOff (ch : Nat) (s : State) : Host.Outcome State Fault Refusal :=
  .next (settle (doShortOffOp ch s))

/-- DO_THERMAL_OFF (spec rule R336). -/
def execDoThermalOff (ch : Nat) (s : State) : Host.Outcome State Fault Refusal :=
  .next (settle (doThermalOffOp ch s))

/-- DO_FAULT_CLEAR (spec rule R336). -/
def execDoFaultClear (ch : Nat) (s : State) : Host.Outcome State Fault Refusal :=
  .next (settle (awake (doFaultClearOp ch) s))

/-- DO_OPEN_LOAD (spec rule R337). -/
def execDoOpenLoad (ch : Nat) (holds : Bool) (s : State) : Host.Outcome State Fault Refusal :=
  .next (settle (doOpenLoadOp ch holds s))

/-- DO_READBACK_MISMATCH (spec rule R337). -/
def execDoReadbackMismatch (ch : Nat) (holds : Bool) (s : State) : Host.Outcome State Fault Refusal :=
  .next (settle (doReadbackMismatchOp ch holds s))

/-- FLD_OUT_OF_RANGE (spec rule R350). -/
def execFldOutOfRange (fld : FldReport) (s : State) : Host.Outcome State Fault Refusal :=
  .next (settle (fldOutOfRangeOp fld s))

/-- UC_SETTLE_COMPLETE (spec rule R339). -/
def execUcSettleComplete (ch : Nat) (s : State) : Host.Outcome State Fault Refusal :=
  .next (settle (ucSettleCompleteOp ch s))

/-- UC_CONVERSION (spec rule R340). -/
def execUcConversion (ch : Nat) (val : Int) (reached : Bool) (short : Bool) (s : State) : Host.Outcome State Fault Refusal :=
  .next (settle (ucConversionOp ch val reached short s))

/-- UC_OPEN_SENSOR_TEST (spec rule R341). -/
def execUcOpenSensorTest (ch : Nat) (isOpen : Bool) (s : State) : Host.Outcome State Fault Refusal :=
  .next (settle (ucOpenSensorTestOp ch isOpen s))

/-- COLD_JUNCTION_FAIL (spec rule R341). -/
def execColdJunctionFail (reading : Option Int) (s : State) : Host.Outcome State Fault Refusal :=
  .next (settle (coldJunctionFailOp reading s))

/-- LIO_SETTING_WRITE (spec rule R352). -/
def execLioSettingWrite (idx : Nat) (v : Word) (s : State) : Host.Outcome State Fault Refusal :=
  .next (settle (awake (lioSettingWriteOp idx v) s))

/-- HART_TRANSACTION (spec rule R345). -/
def execHartTransaction (ch : Nat) (s : State) : Host.Outcome State Fault Refusal :=
  .next (settle (awake (hartTransactionOp ch) s))

/-- HART_REPLY (spec rule R345). -/
def execHartReply (ch : Nat) (burst : Bool) (bytes : List Byte) (s : State) : Host.Outcome State Fault Refusal :=
  .next (settle (awake (hartReplyOp ch burst bytes) s))

/-- HART_REPLY_TIMEOUT (spec rule R345). -/
def execHartReplyTimeout (ch : Nat) (s : State) : Host.Outcome State Fault Refusal :=
  .next (settle (awake (hartReplyTimeoutOp ch) s))

/-- HOST_TO_FIELD_FRAME (spec rule R346). -/
def execHostToFieldFrame (valid : Bool) (s : State) : Host.Outcome State Fault Refusal :=
  .next (settle (hostToFieldFrameOp valid s))

end Sys2Proof.Machine
end

