-- ==== Sys2Proof/Machine/InstanceOps.lean ====
section
/-! DEFINITION. The meanings of the Ebgen instructions of timers, counters and edges (spec/04). -/

namespace Sys2Proof.Machine

/-- TON (spec rule R118). -/
def execTon (area : BitVec 4) (opd : BitVec 22) (s : State) : Host.Outcome State Fault Refusal :=
  .next (settle (timerInstr 1 stepTon area opd s))

/-- TOF (spec rule R118). -/
def execTof (area : BitVec 4) (opd : BitVec 22) (s : State) : Host.Outcome State Fault Refusal :=
  .next (settle (timerInstr 2 stepTof area opd s))

/-- TP (spec rule R118). -/
def execTp (area : BitVec 4) (opd : BitVec 22) (s : State) : Host.Outcome State Fault Refusal :=
  .next (settle (timerInstr 3 stepTp area opd s))

/-- TRST (spec rule R119). -/
def execTrst (area : BitVec 4) (opd : BitVec 22) (s : State) : Host.Outcome State Fault Refusal :=
  .next (settle (timerReset area opd s))

/-- CTU (spec rule R123). -/
def execCtu (area : BitVec 4) (opd : BitVec 22) (s : State) : Host.Outcome State Fault Refusal :=
  .next (settle (countUp area opd s))

/-- CTD (spec rule R123). -/
def execCtd (area : BitVec 4) (opd : BitVec 22) (s : State) : Host.Outcome State Fault Refusal :=
  .next (settle (countDown area opd s))

/-- CRS (spec rule R123). -/
def execCrs (area : BitVec 4) (opd : BitVec 22) (s : State) : Host.Outcome State Fault Refusal :=
  .next (settle (countLoad (fun _ => 0) area opd s))

/-- CLD (spec rule R123). -/
def execCld (area : BitVec 4) (opd : BitVec 22) (s : State) : Host.Outcome State Fault Refusal :=
  .next (settle (countLoad (fun r => r.wa.toInt) area opd s))

/-- RE (spec rule R124). -/
def execRe (o : Opnd) (s : State) : Host.Outcome State Fault Refusal :=
  .next (settle (edge (fun a b => a && !b) o s))

/-- FE (spec rule R124). -/
def execFe (o : Opnd) (s : State) : Host.Outcome State Fault Refusal :=
  .next (settle (edge (fun a b => !a && b) o s))

end Sys2Proof.Machine
end

