-- ==== Sys2Proof/Machine/LoopCmd.lean ====
section
/-! DEFINITION. The meanings of the commands of the loop engine (spec/08): each is its operation, followed by what every command ends with. -/

namespace Sys2Proof.Machine

/-- LOOP_EVALUATION (spec rule R228). -/
def execLoopEvaluation (s : State) : Host.Outcome State Fault Refusal :=
  .next (settle (awake loopEvaluationOp s))

/-- LOOP_EVAL_COMPLETE (spec rule R234). -/
def execLoopEvalComplete (rep : LoopReport) (s : State) : Host.Outcome State Fault Refusal :=
  .next (settle (awake (loopEvalCompleteOp rep) s))

/-- CLR_LAST (spec rule R248). -/
def execClrLast (s : State) : Host.Outcome State Fault Refusal :=
  .next (settle (awake clrLastOp s))

/-- CLR_STATS (spec rule R248). -/
def execClrStats (s : State) : Host.Outcome State Fault Refusal :=
  .next (settle (awake clrStatsOp s))

end Sys2Proof.Machine
end

