-- ==== Sys2Proof/Machine/Clock.lean ====
section
/-! DEFINITION. Clocks, power, insertion, the power-fail sequence and start-up as commands (spec/01 R18, R24, R25, R32–R38; spec/02). -/

namespace Sys2Proof.Machine

/-! ## Feeds and the supervisor (spec/01 R31–R38; spec/02 R50, R51) -/

/-- A feed lies within 19.2–30.0 V. -/
def feedOk (mv : Nat) : Bool := decide (19200 ≤ mv) && decide (mv ≤ 30000)

/-- A feed above 30 V is disconnected until it returns below 30 V (spec/01 R34). -/
def cutNext (cut : Bool) (mv : Nat) : Bool := decide (30000 < mv) || (cut && decide (30000 ≤ mv))

/-- At least one feed is at 19.2 V or more and not disconnected (spec/01 R34, R36). (DESIGN CHOICE: log entry 76) -/
def State.fed (s : State) : Bool :=
  (decide (19200 ≤ s.rd F.FEED_A_MV) && !s.pw.cutA) || (decide (19200 ≤ s.rd F.FEED_B_MV) && !s.pw.cutB)

/-- The measured value of a feed, its OK bit (Tables 2-12, 2-18), and its disconnection (spec/01 R34); a feed supplies the Mortise (spec/10 R315). -/
def State.setFeed (s : State) (feedB : Bool) (mv : Nat) : State :=
  let s1 :=
    if feedB then
      ((s.setWord W.FEED_B_MV (BitVec.ofNat 32 mv)).flag F.AON_STAT_FEED_B_OK (feedOk mv)).setPw { s.pw with cutB := cutNext s.pw.cutB mv }
    else ((s.setWord W.FEED_A_MV (BitVec.ofNat 32 mv)).flag F.AON_STAT_FEED_A_OK (feedOk mv)).setPw { s.pw with cutA := cutNext s.pw.cutA mv }
  if s1.fed then s1.mrtSupply else s1

/-- A slot identity is valid (spec/01 R17). -/
def slotValid (id : Nat) : Bool := id % 16 / 2 == 5

/-- The slot identity as read (Table 2-9). -/
def State.setSlot (s : State) (id : Nat) : State := (s.wr F.SLOT_STAT_ID id).flag F.SLOT_STAT_VALID (slotValid id)

/-- MODULE_INSERTION (spec/01 R36, R38): feeds and slot identity appear, the storage charges afresh, the module holds itself in reset. A slot
identity that returns after an extraction notice keeps the reset kind 2 (R59). (DEDUCED: log entry 73) -/
def moduleInsertionOp (slotId feedA feedB : Nat) (s : State) : State :=
  if s.pw.phase != .held && s.pw.phase != .aonOnly then s
  else
    let s1 := ((s.setSlot slotId).setFeed false feedA).setFeed true feedB
    (s1.setPw { s1.pw with phase := .held, kind := if s.pw.phase == .aonOnly && s.pw.kind = 2 then 2 else 1 }).flag F.HOLDUP_CHARGED false

/-- One of the two conditions of FS06 (R50: 106 energy below 1.5 J, 206 not recharged) becomes `b`: FS06 fires as the first of them begins, and
again only after both have ended. -/
def State.holdupCond (s : State) (key d1 d2 : Nat) (b : Bool) : State :=
  let held := s.fc.conds.contains 106 || s.fc.conds.contains 206
  let rest := s.fc.conds.filter (· != key)
  let s1 : State := { s with fc := { s.fc with conds := if b then rest ++ [key] else rest } }
  if b && !held then s1.raise 6 0 d1 d2 else s1

/-- HOLDUP_CHARGED (spec/01 R32). -/
def holdupChargedOp (s : State) : State := (s.flag F.HOLDUP_CHARGED true).holdupCond 206 0 0 false

/-- FEED_OVERVOLTAGE_DISCONNECT (spec/01 R34): a feed above 30 V is disconnected until it returns below 30 V. -/
def feedOvervoltageDisconnectOp (feedB : Bool) (mv : Nat) (s : State) : State := s.setFeed feedB mv

/-- FEED_OUT_OF_RANGE (R50): the value a feed has had for 10 ms. -/
def feedOutOfRangeOp (feedB : Bool) (mv : Nat) (s : State) : State :=
  (s.setFeed feedB mv).raiseEdge (if feedB then 5 else 4) 0 mv 0 (!feedOk mv)

/-- BOARD_LIMIT_EXCEEDED (R50): board temperature [0.1 °C], and whether an internal rail lies outside ±5 %. -/
def boardLimitExceededOp (temp : Int) (railOut : Bool) (s : State) : State :=
  (s.setWord W.BOARD_TEMP (BitVec.ofNat 32 (natOfInt 16 temp))).raiseEdge 7 0 (natOfInt 16 temp) (bitNat railOut) (decide (950 < temp) || railOut)

/-- HOLDUP_ENERGY_TEST (R51): the measurement begins (none), or the one in progress ends with the usable energy [mJ]; none begins in a
power-fail sequence, and one that the sequence has abandoned does not end. (DESIGN CHOICE: log entry 76) -/
def holdupEnergyTestOp (mj : Option Nat) (s : State) : State :=
  match mj with
  | none => if s.pw.phase == .powerFail || s.pw.phase == .aonOnly then s else s.flag F.HOLDUP_TESTING true
  | some e =>
    if !s.on F.HOLDUP_TESTING then s
    else ((s.wr F.HOLDUP_ENERGY_MJ (min 65535 e)).flag F.HOLDUP_TESTING false).holdupCond 106 e 0 (decide (e < 1500))

/-- HOLDUP_RECHARGE_TIMEOUT (R50). -/
def holdupRechargeTimeoutOp (s : State) : State := s.holdupCond 206 0 1 true

/-- AON_CRYSTAL_STOP (R49). No rule names an event that ends RC_MODE: the bit stays set through every reset. (DESIGN CHOICE: log entry 76) -/
def aonCrystalStopOp (s : State) : State :=
  ((s.flag F.AON_STAT_RC_MODE true).flag F.AON_STAT_BACKUP_VALID false).raiseEdge 0 0 0 0 true

/-- TIME_BACKUP_ALIGN (R48): once per second while the time base runs. -/
def timeBackupAlignOp (s : State) : State :=
  if !s.awake || s.dom 7 != .run then s
  else (s.setPw { s.pw with backupTicks := s.aonTicks, backupTime := s.timeBase }).flag F.AON_STAT_BACKUP_VALID true

/-- BACKUP_CAPACITOR_SPENT (R47, R48): the AON count has stopped for want of supply. -/
def backupCapacitorSpentOp (s : State) : State :=
  (s.setPw { s.pw with backupUnbroken := false }).flag F.AON_STAT_BACKUP_VALID false

/-- REF_DEVIATION_CHECK (R50, Table 2-2; spec/12 R377): the deviation of REF from the AON crystal over 1 s [ppm]. -/
def refDeviationCheckOp (ppm : Int) (s : State) : State :=
  if !s.awake then s
  else
    let out := decide (100 < ppm.natAbs)
    let s1 := (s.raiseEdge 3 0 ppm.natAbs 0 out).flag F.TIME_STAT_REF_SUSPECT out
    if out then s1.ptpHoldover else s1

/-! ## Clock domains (R42–R46) -/

/-- Start bounds of a domain, gated and parked [ns] (Table 2-1); none where the table gives none. -/
def domBound (d : Nat) : Option (Nat × Nat) :=
  if d = 2 || d = 5 || d = 6 then some (10, 8000)
  else if d = 3 then some (10, 12000)
  else if d = 4 then some (2000, 15000)
  else if d = 14 then some (1000, 200000)
  else none

/-- A domain that the scheduler starts and stops (Table 2-1). -/
def domSleeps (d : Nat) : Bool := (domBound d).isSome

/-- A domain that REF clocks, by its number. -/
def domRef (d : Nat) : Bool := decide (2 ≤ d) && decide (d ≤ 14) && d != 12

/-- A bit of a domain map is set. -/
def State.markDom (s : State) (i d : Nat) : State := s.setWord i (s.word i ||| BitVec.ofNat 32 (2 ^ (d - 1)))

/-- A domain has failed (R45). -/
def State.domFailed (s : State) (d : Nat) : State := ((s.setDom d .off).markDom W.DOM_FAIL d).raise 2 0 d 0

/-- DOMAIN_START_REQUEST (R43): a failed domain is retried (Table 2-2). The loop engine's is for a slice that the scheduler has planned (R44). -/
def domainStartRequestOp (d : Nat) (s : State) : State :=
  if !s.awake || !domRef d || (d == 11 && !s.on (F.CH_CFG_EN 0) && !s.on (F.CH_CFG_EN 1)) then s
  else if d = 6 then let s1 := s.startDom 6; { s1 with le := { s1.le with access := false } }.endWaiting
  else s.startDom d

/-- A domain runs: an instruction that waits for it has waited `ns` (spec/03 Table 3-14), and the loop engine takes up its work (R46). -/
def State.domRuns (s : State) (d ns : Nat) : State :=
  let s1 := s.setDom d .run
  let s2 : State := if s1.lp.waiting = some d then { s1 with lp := { s1.lp with waiting := none, waitNs := s1.lp.waitNs + ns } } else s1
  if d = 6 then { s2 with le := { s2.le with free := max s2.le.free s2.ns } }.endWaiting else s2

/-- DOMAIN_FIRST_EDGE (R45, R46): `ns` from the start request. -/
def domainFirstEdgeOp (d ns : Nat) (s : State) : State :=
  let go := fun (bound : Nat) =>
    if ns ≤ bound then s.domRuns d ns
    else if ns ≤ 4 * bound then
      ((((s.domRuns d ns).markDom W.DOM_LATE d).wr F.LAST_LATE_DOMAIN d).wr F.LAST_LATE_START_NS (min ns 0xFFFFFF)).raise 1 0 d ns
    else s.domFailed d
  match s.dom d, domBound d with
  | .startingGated, some b => go b.1
  | .startingParked, some b => go b.2
  | .startingGated, none => s.domRuns d ns
  | .startingParked, none => s.domRuns d ns
  | _, _ => s

/-- DOMAIN_START_FAILED (R45). -/
def domainStartFailedOp (d : Nat) (s : State) : State :=
  if s.dom d = .startingGated || s.dom d = .startingParked then s.domFailed d else s

/-- PLL_LOCK_LOSS (R45). -/
def pllLockLossOp (d : Nat) (s : State) : State := if domRef d && s.dom d = .run then s.domFailed d else s

/-- A domain has issued accesses that have not completed, or works (R44). (DEDUCED: log entry 28) -/
def State.domBusy (s : State) (d : Nat) : Bool :=
  if d = 2 then s.sch.running.isSome && !s.lp.halted
  else if d = 5 then s.sch.running.isSome || s.le.cur.isSome
  else if d = 6 then s.le.cur.isSome || s.le.queue != []
  else if d = 14 then s.vn.updating
  else false

/-- DOMAIN_STOP (R43, R44): the gap to the domain's next need decides between parking and gating. (DEDUCED: log entry 28) -/
def domainStopOp (d gapNs : Nat) (s : State) : State :=
  match s.dom d, domBound d with
  | .run, some b =>
    if !s.awake || s.domBusy d then s
    else
      let s1 : State := if d = 6 then { s with le := { s.le with access := false } } else s
      if b.2 + 5000 ≤ gapNs && (s.word W.DOM_PARK).getLsbD (d - 1) then s1.setDom d .parked else s1.setDom d .gated
  | _, _ => s

/-- DOMAIN_ACCESS_START (R44): an access from another block starts every domain but the LP's; the loop engine's is started so only for an LPRD that
waits for it, which may find it failed and stopped again. (DESIGN CHOICE: log entry 27) -/
def domainAccessStartOp (d : Nat) (s : State) : State :=
  if !s.awake || !domSleeps d || d = 2 then s
  else if d = 6 then (if s.lp.waiting = some 6 then s.engineWait else s)
  else s.startDom d

/-! ## The power-fail sequence (R52–R55) -/

/-- The sequence has ended (Table 2-3, last row): the record is complete, every domain but AON stops, the module holds itself in reset. (DEDUCED: log entries 26, 28) -/
def State.pfEnd (s : State) : State :=
  let cause := (s.pfNewest.map (·.cause)).getD 0
  let s1 := (s.pfUpdate true).hold (if cause = 1 then 2 else 1)
  let s2 := s1.setPw { s1.pw with
    phase := .aonOnly, doms := [.run, .off, .off, .off, .off, .off, .off, .off, .off, .off, .off, nth .run s1.pw.doms 11, .off, .off] }
  if cause = 1 then s2 else s2.flag F.HOLDUP_CHARGED false

/-- Begins the first step after `n` that has something to do; with none left the sequence ends. -/
def State.pfBegin (s : State) (n : Nat) : State :=
  let at_ := fun (s : State) (k : Nat) => s.setPw { s.pw with pfStep := k }
  let five := fun (s : State) => at_ (s.emit .display .level [0]) 5
  let four := fun (s : State) =>
    if s.vn.pairOn then at_ s 4
    else five ((s.setPw { s.pw with pfDone := s.pw.pfDone ++ [4] }).pfUpdate false)
  if n = 1 then at_ s.flushNow 2
  else if n = 2 then
    if s.pw.pfEarly then four s
    else at_ (({ s with mram := { s.mram with jsealed := true } }.loopsSave).vnRecord s.vn.updating) 3
  else if n = 3 then four s
  else if n = 4 then five s
  else s.pfEnd

/-- A step has completed: the record is rewritten and the next begins (R53, R54). (DEDUCED: log entry 26) -/
def State.pfDoneStep (s : State) : State :=
  let n := s.pw.pfStep
  ((s.setPw { s.pw with pfDone := s.pw.pfDone ++ [n] }).pfUpdate false).pfBegin n

/-- t0 of the sequence (R52–R55): a switch in progress ends, the record is written, step 1 runs; before t6, step 2 comes first. (DEDUCED: log entry 26) -/
def State.powerFail (s : State) (cause : Nat) : State :=
  if s.pw.phase == .aonOnly || s.pw.phase == .powerFail then s
  else
    let s0 := if s.ocPhase = 5 then s.ocComplete (s.ns - s.oc.t0) else s
    let early := !s0.pw.tasksBegan
    let ovf := s0.sch.tasks.any (fun e => e.2.st == .cycle && e.2.jovf)
    let ver := if s0.on F.OC_STAT_MRAM_SYNC then s0.prog.map Image.version else none
    let s1 : State := { s0 with
      mram := if early then s0.mram else { s0.mram with pfVersion := ver, journalOvf := ovf }
      vn := { s0.vn with stopped := true }
      pw := { s0.pw with phase := .powerFail, pfDone := if early then [1, 3] else [], pfStep := 1, pfEarly := early, backupUnbroken := true } }
    let s2 := (s1.flag F.HOLDUP_TESTING false).pfWrite ⟨0, s1.aonTicks, cause, 0, false, false, 0⟩
    if early then s2.pfBegin 1
    else [3, 4, 5, 14].foldl State.startDom (s2.stepOne cause 2)

/-- POWER_FAIL_DETECT (R52). -/
def powerFailDetectOp (s : State) : State := s.powerFail 0

/-- EXTRACTION_NOTICE (spec/01 R38): a released module reads an invalid slot identity. -/
def extractionNoticeOp (id : Nat) (s : State) : State :=
  if slotValid id || s.pw.phase == .held || s.pw.phase == .aonOnly then s else (s.setSlot id).powerFail 1

/-- PF_STEP_COMPLETE (R53): step 4 ends with its phase pair. -/
def pfStepCompleteOp (s : State) : State :=
  if s.pw.phase != .powerFail || s.pw.pfStep = 0 || (s.pw.pfStep = 4 && s.vn.pairOn) then s else s.pfDoneStep

/-- PF_STEP_TIMEOUT (R53): the step is abandoned. -/
def pfStepTimeoutOp (s : State) : State :=
  if s.pw.phase != .powerFail || s.pw.pfStep = 0 then s
  else (s.setVn { s.vn with pairOn := s.vn.pairOn && s.pw.pfStep != 4 }).pfBegin s.pw.pfStep

/-- PHASE_PAIR_COMPLETE (spec/14 R413, R415, R420, R424), with which step 4 of a power-fail sequence ends. -/
def phasePairCompleteOp (s : State) : State :=
  let s1 := s.vnPair
  if s1.pw.phase == .powerFail && s1.pw.pfStep = 4 && !s1.vn.pairOn then s1.pfDoneStep else s1

/-! ## Reset release and the loader (spec/01 R18, R36; spec/02 R57; spec/17 R478) -/

/-- The domains that the resident loader works with in the LOADER role. -/
def State.loaderRuns (s : State) : State :=
  (s.setPw { s.pw with
    phase := .loader, alvRun := true
    doms := [.run, .off, .run, .run, .run, .off, .run, .run, .run, .run, .off, nth .run s.pw.doms 11, .run, .run] }).showSet

/-- The field side's universal channels take MODE 0 of a host that has been reset. -/
def State.ucOff (s : State) : State := s.setLio { s.lio with uc := List.replicate 8 {} }

/-- An interrupted clone is a failed attempt (spec/17 R484). -/
def State.cloneCut (s : State) : State :=
  if s.pair.cloning then { s with upd := { s.upd with cloneFails := s.upd.cloneFails + 1 } } else s

/-- RESET_RELEASE (spec/01 R36): the resident loader runs. After a loader reset it takes the new set: STATE 1 is written (spec/17 R478). -/
def resetReleaseOp (s : State) : State :=
  if (s.pw.phase != .held && s.pw.phase != .aonOnly) || s.pw.kind = 6 || !s.on F.SLOT_STAT_VALID
      || !s.fed then s
  else
    let t := s.cloneCut.reinit.ucOff
    match s.pw.kind, t.upd.target with
    | 5, some m =>
      { t with upd := t.upd.putGlue { t.upd.glue with state := 1, setSeq := m.setSeq.toNat } }.loaderRuns
    | _, _ => t

/-- SLOT_ID_INVALID_LOADER (spec/01 R18): with a feed within its range. (DESIGN CHOICE: log entry 76) -/
def slotIdInvalidLoaderOp (id : Nat) (s : State) : State :=
  if (s.pw.phase != .held && s.pw.phase != .aonOnly) || slotValid id || id % 16 / 2 == 7 || !s.fed then s
  else
    let s1 := s.setSlot id
    (s1.cloneCut.reinit.ucOff).loaderRuns

/-- COMMAND_RESET (R56, R59): from an ENGINEER session or a debug session. -/
def commandResetOp (bench : Bool) (session : Nat) (s : State) : State :=
  let by_ := if bench then s.on F.BENCH_STAT_SESSION else (tfind s.plant.sessions session).any (fun (x : Session) => x.rights == .engineer)
  if !s.awake || s.pw.phase == .safeHold || s.pw.phase == .powerFail || !by_ then s else s.moduleReset 4

/-! ## The first task (R32, R57 t6, R60–R63; spec/05 R162, R163) -/

/-- What settings written back put in force: universal channels, CAN channels, pair addresses, the PTP clock (R58, R63). (DESIGN CHOICE: log entry 30) -/
def State.settingsAct (s : State) : State :=
  let s1 := (List.range 8).foldl (fun (s : State) n =>
    if s.word (W.UC_CFG n) = 0 then s else s.setUc n { s.ucCh n with settling := true }) s
  let s2 := (List.range 2).foldl (fun (s : State) c => if s.on (F.CH_CFG_EN c) then canChannelEnableOp c s else s) s1
  let up := s2.isActive && s2.on F.PLANT_CFG_PAIR_EN
  let s3 := s2.flag F.PLANT_STAT_PAIR_UP up
  { s3 with plant := { s3.plant with announces := if up then 3 else 0 } }.ptpShow

/-- STARTC is task 96, STARTW 97 (spec/05 Table 5-1). -/
def startTask (mode : Nat) : Nat := if mode = 2 then 97 else 96

/-- A start task begins its one cycle: no input update point (spec/05 R162). (DEDUCED, DESIGN CHOICE: log entries 29, 31) -/
def State.beginStart (s : State) (t : Nat) : State :=
  if s.declared t then ((s.release t 0 false).enterCycle t s.ttNow).wr F.SCH_STAT_STATE 1
  else { s.wr F.SCH_STAT_STATE 2 with sch := { s.sch with first := true } }

/-- START_TASK_BEGIN (R57 t6): the start task of the mode decided, or the HOT start. A standby reaches t6 without a task. The work of the slice
begins when domains 2 and 5 have started (R46). (DESIGN CHOICE: log entries 3, 31) -/
def startTaskBeginOp (s : State) : State :=
  if s.pw.phase != .ready || !s.on F.HOLDUP_CHARGED || (s.isActive && s.prog.isSome && !(s.dom 2 == .run && s.dom 5 == .run)) then s
  else
    let s1 := s.setPw { s.pw with phase := .running, alvArmed := true, tasksBegan := true }
    if !s.isActive then s1
    else
      let mode := s.pair.startMode
      let s2 := s1.wr F.MOD_STAT_RESTART mode
      if s2.prog.isNone then s2
      else
        let s3 := s2
        if mode = 3 then
          let s4 := s3.restoreSettings.loopsHot.mramBegin
          { s4.wr F.SCH_STAT_STATE 2 with sch := { s4.sch with first := false } }.settingsAct
        else (s3.forgetSettings.loopsFresh.mramBegin).beginStart (startTask mode)

/-- START_TASK_TIMEOUT (spec/05 R163): the start task has not ended within 1 s. -/
def startTaskTimeoutOp (s : State) : State :=
  if s.rd F.SCH_STAT_STATE ≠ 1 then s
  else match s.sch.tasks.find? (fun (e : Nat × TaskRt) => isStart e.1 && e.2.st == .cycle) with
    | none => s
    | some e => (s.leaveCycle e.1).startFailed e.1

/-- RESTART_CFG_WRITE (R61, R65). -/
def restartCfgWriteOp (v : Word) (s : State) : State := s.restartWrite 0xFFFFFFFF#32 v

/-- MRAM_COPY_COMPLETE (R61; spec/07 R212; spec/09 R280): the copy of the data areas is in step. -/
def mramCopyCompleteOp (s : State) : State :=
  if s.prog.isNone then s
  else
    let s1 : State := { s with mram := { s.mram with rewriting := false } }
    let s2 := (s1.flag F.OC_STAT_MRAM_SYNC true).mramKeep
    if s2.rd F.RESYNC_STAT_PHASE = 6 then s2.setPair { s2.pair with copyDone := true } else s2

/-- ALV_EXT_TOGGLE (spec/01 R24, R25; spec/15 R444): low while FLD is below 15 V and while the output is in current limit. -/
def alvExtToggleOp (s : State) : State :=
  if !s.pw.alvArmed then s
  else
    let lvl := !s.pw.alvExt && !s.alvHeldLow
    (s.setPw { s.pw with alvExt := lvl }).emit .field .level [1, bitNat lvl]

end Sys2Proof.Machine
end

