-- ==== Sys2Proof/Machine/Sessions.lean ====
section
/-! DEFINITION. Plant sessions and their datagrams (spec/12 R371–R374), the system cores' part of the rings (spec/16 R463–R469), and the
commands of the CRC unit (R471, R472). -/

namespace Sys2Proof.Machine

/-! ## Sessions (R371, R372) -/

def State.setSessions (s : State) (l : Tab Session) : State := { s with plant := { s.plant with sessions := l } }.wr F.PLANT_STAT_SESSIONS l.length

/-- The plant port of a session's answers. -/
def plantLink (port2 : Bool) : Link := if port2 then .plant2 else .plant1

/-- The lowest session number that is free. -/
def freeSession (l : Tab Session) : Nat := ((List.range 64).find? (fun n => (tfind l n).isNone)).getD 0

/-- Rights that need SES_EN (R372). -/
def Rights.needsEnable : Rights → Bool
  | .read | .operate => true
  | .engineer | .metrology => false

/-- SESSION_HANDSHAKE (R371, R372): a 65th is refused with BUSY, an invalid one fails, READ and OPERATE need SES_EN. (DEDUCED: log entry 64) -/
def sessionHandshakeOp (rights : Rights) (valid port2 : Bool) (s : State) : State :=
  if !s.netUp then s
  else if 64 ≤ s.plant.sessions.length then (s.inc F.SES_REFUSED).emit (plantLink port2) .busy []
  else if !valid then (s.inc F.AUTH_FAIL).raise 54 0 (bitNat port2) 0
  else if rights.needsEnable && !s.on F.PLANT_CFG_SES_EN then s.emit (plantLink port2) .refused []
  else
    let n := freeSession s.plant.sessions
    (s.setSessions (tput n ⟨rights, port2, 0, [], s.ns⟩ s.plant.sessions)).emit (plantLink port2) .reply [n]

/-- A session ends. -/
def State.endSession (s : State) (n : Nat) : State :=
  { s.setSessions (tdel n s.plant.sessions) with
    sr := { s.sr with message := s.sr.message.map (fun (m : List Nat × Nat) => (m.1.filter (· != n), m.2)) } }

/-- SESSION_CLOSE (R371). -/
def sessionCloseOp (session : Nat) (s : State) : State := s.endSession session

/-- SESSION_IDLE_TIMEOUT (R371). -/
def sessionIdleTimeoutOp (session : Nat) (s : State) : State := s.endSession session

/-! ## Messages of ring 6 (spec/16 R469) -/

/-- A message ends: OK with the sessions reached, TIMEOUT if none acknowledged. -/
def State.messageEnd (s : State) (reached : Nat) : State :=
  { s with sr := { s.sr with message := none } }.ringEnd 6 (if reached = 0 then 2 else 0) (leBytes 4 reached) []

/-- A session acknowledges the message in progress. -/
def State.messageAck (s : State) (n : Nat) : State :=
  match s.sr.message with
  | none => s
  | some (l, k) =>
    if !l.contains n then s
    else
      let l1 := l.filter (· != n)
      if l1 = [] then s.messageEnd (k + 1) else { s with sr := { s.sr with message := some (l1, k + 1) } }

/-- PLANT_MESSAGE_TIMEOUT (spec/16 R469). -/
def plantMessageTimeoutOp (s : State) : State := match s.sr.message with | none => s | some (_, k) => s.messageEnd k

/-! ## Datagrams (R371–R374) -/

/-- Bytes that a datagram writes to program data. -/
def PlantOp.size : PlantOp → Nat
  | .writeData _ bs => bs.length
  | _ => 0

/-- Whether a session's rights permit an operation (Table 12-7); no session writes I, Q, L, T or C. -/
def PlantOp.permitted (r : Rights) : PlantOp → Bool
  | .writeData l _ => (r == .operate || r == .engineer) && (l.area == 2 || l.area == 3)
  | .writeWord _ _ => r == .engineer
  | .post _ _ => r == .operate || r == .engineer
  | _ => true

/-- Whether an operation names data that exist: a range inside its area or block, a ring of the agents, a descriptor of 32 bytes, a message of
1–1,024 bytes. -/
def State.opFits (s : State) : PlantOp → Bool
  | .readData l n => match s.areaLen l.area l.sel with | some m => decide (l.area ≤ 6) && decide (l.off + n ≤ (if l.area = 5 || l.area = 6 then 262144 else m)) | none => false
  | .readBank l n => decide (l.area ≤ 6) && decide (l.off + n ≤ (if l.area = 5 || l.area = 6 then 262144 else 65536))
  | .writeData l bs => match s.areaLen l.area l.sel with | some m => decide (l.off + bs.length ≤ m) | none => false
  | .message bs => decide (1 ≤ bs.length) && decide (bs.length ≤ 1024)
  | .post ring d => decide (8 ≤ ring) && decide (ring ≤ 11) && d.length == 32
  | _ => true

/-- The accesses of a datagram that are made at once are checked: reads, and writes of system words (R373). -/
def State.opCheck (n : Nat) (a : Bool × State) : PlantOp → Bool × State
  | .readData l len =>
    if len = 0 then a
    else
      let (ok, s1) := a.2.access (memAccess 3 n false l len false)
      (a.1 && ok, s1)
  | .readBank l len =>
    if len = 0 then a
    else
      let (ok, s1) := a.2.access (memAccess 3 n false l len false)
      (a.1 && ok, s1)
  | .readWord i => let (ok, s1) := a.2.access (sysAccess 3 n false i false); (a.1 && ok, s1)
  | .writeWord i _ => let (ok, s1) := a.2.access (sysAccess 3 n true i false); (a.1 && ok, s1)
  | _ => a

/-- The item of a message in ring 18 (spec/16 Table 16-4). -/
def messageItem (n : Nat) (bs : List Byte) : List Byte :=
  [0x82#8, 0#8] ++ List.replicate 6 0#8 ++ leBytes 2 n ++ leBytes 2 bs.length ++ List.replicate 20 0#8 ++ bs
    ++ List.replicate (1024 - bs.length) 0#8

/-- An operation that a datagram performs at once; writes to program data wait for their point. -/
def State.opDo (n q : Nat) (link : Link) (s : State) : PlantOp → State
  | .readData l len => s.emit link .reply (n :: q :: (s.bytes l len).map (·.toNat))
  | .readBank l len => s.emit link .reply (n :: q :: (s.inactiveBytes l len).map (·.toNat))
  | .readWord i =>
    let (v, s1) := s.sysRead i
    s1.emit link .reply [n, q, v.toNat]
  | .writeWord i v => (s.sysWrite (.session n) i 0xFFFFFFFF#32 v).emit link .reply [n, q, 1]
  | .message bs =>
    if !s.isActive then s.emit link .notActive [n, q]
    else
      let (ok, s1) := s.ringDeliver 18 1056 (messageItem n bs)
      s1.emit link (if ok then .reply else .busy) [n, q]
  | .post ring d => if s.ringFull ring then s.emit link .busy [n, q] else (s.ringPost ring d).emit link .reply [n, q]
  | .ackMessage => s.messageAck n
  | .writeData _ _ => s

/-- An accepted datagram is acted on (R372, R373; spec/15 R431). -/
def State.datagram (s : State) (n q : Nat) (port2 : Bool) (x : Session) (ops : List PlantOp) : State :=
  let link := plantLink port2
  let ws := ops.filterMap (fun o => match o with | .writeData l bs => some (l, bs) | _ => none)
  if ops.any (fun o => !o.permitted x.rights) then s.emit link .denied [n, q]
  else if ops.any (fun o => !s.opFits o) || decide (1024 < (ops.map PlantOp.size).foldl (· + ·) 0) then s.emit link .refused [n, q]
  else if ws != [] && !s.isActive then (s.inc F.NOT_ACTIVE_CNT).emit link .notActive [n, q]
  else
    let (ok, s1) := ops.foldl (State.opCheck n) (true, s)
    if !ok then s1.emit link .denied [n, q]
    else
      let s2 := ops.foldl (State.opDo n q link) s1
      if ws = [] then s2 else s2.addJob (.datagram n q port2 ws)

/-- PLANT_DATAGRAM (R371–R374): authenticated and inside the replay window of 64, is answered on the port it
came on; a copy of one already acted on has no effect. (DEDUCED: log entry 64) -/
def plantDatagramOp (session seq : Nat) (port2 authOk : Bool) (ops : List PlantOp) (s : State) : State :=
  if !s.netUp then s
  else match tfind s.plant.sessions session with
    | none => s.emit (plantLink port2) .refused [session, seq, 1]
    | some x =>
      if !authOk || decide (seq + 64 ≤ x.high) then s.inc F.REPLAY_DROP
      else if x.seen.contains seq then s
      else
        let high := max x.high seq
        let seen := (seq :: x.seen).filter (fun k => decide (high < k + 64))
        (s.setSessions (tput session { x with high := high, seen := seen, lastNs := s.ns } s.plant.sessions)).datagram session seq port2 x ops

/-! ## Taking a descriptor (spec/16 R463–R469) -/

/-- The records of the history from a SEQ on: those numbered from it to the newest, the oldest kept first. (DEDUCED: log entry 64) -/
def historyFrom (h : List Rec) (from_ : Nat) : List Rec :=
  match h.getLast? with
  | none => []
  | some last =>
    let ahead := (from_ + 2 ^ 32 - last.seq) % 2 ^ 32
    if ahead ≠ 0 && ahead < 2 ^ 31 then []
    else h.filter (fun r => decide ((last.seq + 2 ^ 32 - r.seq) % 2 ^ 32 ≤ (last.seq + 2 ^ 32 - from_) % 2 ^ 32))

/-- A recorder read (ring 5). -/
def State.recorderRead (s : State) (r : Nat) (d : List Byte) : State :=
  let from_ := dNat d 8 4
  let l := (historyFrom s.mram.history from_).take (dNat d 12 2)
  let next := match l.getLast? with | some x => (x.seq + 1) % 2 ^ 32 | none => from_
  s.ringEnd r 0 (leBytes 4 l.length ++ leBytes 4 next) [(dLoc (dNat d 20 4), l.flatMap Rec.image)]

/-- A plant message (ring 6): to one open session, or to every one. (DEDUCED: log entry 64) -/
def State.messageSend (s : State) (r : Nat) (d : List Byte) : State :=
  let to_ := dNat d 8 2
  let l := if to_ = 0xFFFF then s.plant.sessions.map (·.1) else if (tfind s.plant.sessions to_).isSome then [to_] else []
  if l = [] then s.ringEnd r 3 [] []
  else
    let (data, s1) := s.dmaRead (dNat d 20 4) (dNat d 10 2)
    match data with
    | none => s1.ringEnd r 6 [] []
    | some bs =>
      let s2 := l.foldl (fun (s : State) n =>
        s.emit (plantLink ((tfind s.plant.sessions n).any (·.port2))) .message (n :: bs.map (·.toNat))) s1
      { s2 with sr := { s2.sr with message := some (l, 0) } }

/-- DESCRIPTOR_TAKE (R463, R466, R468): the next descriptor of a posted ring; a bad one ends without action. -/
def descriptorTakeOp (ring : Nat) (s : State) : State :=
  if !s.isActive || !ringPosted ring || s.ringCi ring ≠ s.ringDi ring || s.ringCi ring = s.ringPi ring then s
  else
    let d := tget [] s.sr.slots (65536 * ring + s.ringCi ring)
    let s1 := s.bump (F.RNG_CI ring)
    let wait := { s1 with sr := { s1.sr with ready := s1.sr.ready ++ [ring] } }
    if !s1.dGood ring d then s1.ringEnd ring 7 [] []
    else if ringKind ring = 1 then wait
    else if ringKind ring = 2 then (if s1.on (F.UC_CFG_HART_EN (dNat d 8 1)) then wait else s1.ringEnd ring 3 [] [])
    else if ringKind ring = 3 then s1.recorderRead ring d
    else s1.messageSend ring d

/-- RING_CI_WRITE (R464). -/
def ringCiWriteOp (ring : Nat) (v : Word) (s : State) : State := if 32 ≤ ring then s else s.rngWrite (W.RNG_CI ring) 0xFFFFFFFF#32 v

/-! ## The CRC unit (R471, R472) -/

/-- CRC_IN8, CRC_IN16, CRC_IN32 (R471): the low 1, 2 or 4 bytes of the value are fed. -/
def crcIn (n ctx : Nat) (v : Word) (s : State) : State := if 8 ≤ ctx then s else s.crcPut (.bytes ctx (leBytes n v.toNat))
def crcIn8Op (ctx : Nat) (v : Word) (s : State) : State := crcIn 1 ctx v s
def crcIn16Op (ctx : Nat) (v : Word) (s : State) : State := crcIn 2 ctx v s
def crcIn32Op (ctx : Nat) (v : Word) (s : State) : State := crcIn 4 ctx v s

/-- CRC_FEED_PROCESS (R471). -/
def crcFeedProcessOp (s : State) : State := s.crcNext

/-- CRC_VALUE_READ (R472). -/
def crcValueReadOp (ctx : Nat) (result : Bool) (s : State) : State :=
  if 8 ≤ ctx then s
  else
    let (v, s1) := s.crcRead ctx result
    s1.emit .inner .reply [v.toNat]

end Sys2Proof.Machine
end

