-- ==== Sys2Proof/Machine/Update.lean ====
section
/-! DEFINITION. Firmware update, cloning, loading with a stop (spec/17 R475–R488), and the bench port (R489–R495). -/

namespace Sys2Proof.Machine

def State.setUpd (s : State) (x : Upd) : State := { s with upd := x }

/-! ## The manifest (R476, Table 17-2) -/

/-- Slot size of a part [bytes] (Table 17-1). -/
def slotSize (p : Nat) : Nat :=
  if p = 1 then 67108864 else if p = 2 then 8388608 else if p = 3 then 4194304 else if p = 4 then 4194304
  else if p = 5 then 8388608 else if p = 6 then 16777216 else if p = 7 then 262144 else 0

/-- The byte that stands where Table 17-2 demands 0. -/
def Manifest.pad (m : Manifest) : Byte := if m.zeros then 0 else 1

/-- The 48 bytes of an entry. -/
def ManifestEntry.image (z : Byte) (e : ManifestEntry) : List Byte :=
  [BitVec.ofNat 8 e.part, z, z, z] ++ leBytes 4 e.version.toNat ++ leBytes 4 e.length ++ [z, z, z, z] ++ (leBytes 32 e.digest.toNat).reverse

/-- Bytes 0–383. -/
def Manifest.signed (m : Manifest) : List Byte :=
  leBytes 4 m.magic.toNat ++ leBytes 2 m.format ++ leBytes 2 m.count ++ leBytes 4 m.setSeq.toNat ++ leBytes 2 m.proto ++ leBytes 2 m.protoMin
    ++ leBytes 2 m.dataVer ++ leBytes 2 m.dataMin ++ List.replicate 12 m.pad ++ m.entries.flatMap (ManifestEntry.image m.pad)
    ++ leBytes 4 m.keyId ++ List.replicate 12 m.pad

/-- The 448 bytes of a manifest. -/
def Manifest.image (m : Manifest) : List Byte := m.signed ++ (leBytes 32 m.sigR.toNat).reverse ++ (leBytes 32 m.sigS.toNat).reverse

/-- MANIFEST_CRC (Table 17-3). -/
def Manifest.crc (m : Manifest) : Word := crc32 m.image

/-- Entry `i` of 448 bytes. -/
def entryOf (b : List Byte) (i : Nat) : ManifestEntry :=
  let n := dNat (b.drop (32 + 48 * i))
  ⟨n 0 1, BitVec.ofNat 32 (n 4 4), n 8 4, BitVec.ofNat 256 (leNat ((b.drop (32 + 48 * i + 16)).take 32).reverse)⟩

/-- The manifest that 448 bytes hold. -/
def manifestOf (b : List Byte) : Manifest :=
  let n := dNat b
  let zero := fun (off len : Nat) => ((b.drop off).take len).all (· == 0)
  ⟨BitVec.ofNat 32 (n 0 4), n 4 2, n 6 2, BitVec.ofNat 32 (n 8 4), n 12 2, n 14 2, n 16 2, n 18 2,
    zero 20 12 && zero 372 12 && (List.range 7).all (fun i => zero (33 + 48 * i) 3 && zero (44 + 48 * i) 4),
    (List.range 7).map (entryOf b), n 368 4, BitVec.ofNat 256 (leNat ((b.drop 384).take 32).reverse),
    BitVec.ofNat 256 (leNat ((b.drop 416).take 32).reverse)⟩

/-- MAGIC, FORMAT, COUNT, PART order, LENGTH and reserved bytes (Table 17-4, check 2). -/
def Manifest.formatOk (m : Manifest) : Bool :=
  m.magic == 0x31464D4C#32 && m.format == 1 && m.count == 7 && m.zeros && m.entries.map (·.part) == [1, 2, 3, 4, 5, 6, 7]
    && m.entries.all (fun (e : ManifestEntry) => decide (e.length ≤ slotSize e.part))

/-- The signature (check 3). (DESIGN CHOICE: log entry 17) -/
def Manifest.sigOk (m : Manifest) : Bool := Config.signatureOk m.signed m.keyId m.sigR m.sigS

/-- Entry of a part. -/
def Manifest.entry (m : Manifest) (p : Nat) : Option ManifestEntry := m.entries.find? (fun (e : ManifestEntry) => e.part == p)

/-- The slot of an entry's part holds what the entry names. -/
def State.slotHolds (s : State) (e : ManifestEntry) : Bool := tfind s.upd.slots e.part == some (e.length, e.digest)

/-- Parts of a set whose slots do not hold them. -/
def State.partsLeft (s : State) (m : Manifest) : List Nat := (m.entries.filter (fun e => !s.slotHolds e)).map (·.part)

/-- A set is complete in its slots: the manifest and the Glue-up record with STATE 2 follow, then a reset of kind 4 (R478 steps 4, 5; R483
step 3). -/
def State.glueUp (s : State) (m : Manifest) (origin : Nat) : State :=
  let u := s.upd
  let fio := u.manifest.any (fun (o : Manifest) => (o.entry 4).map (·.version) != (m.entry 4).map (·.version))
  let v := { u with manifest := some m, target := none, left := [], ranSet := false, fioNew := u.fioNew || fio }
  (s.setUpd (v.putGlue ⟨2, origin, m.setSeq.toNat, m.crc⟩)).moduleReset 4

/-! ## UPDATE (R477, R478) -/

/-- A command of the block is refused (R477, R488). -/
def State.updRefuse (s : State) (why : Nat) : State := (s.flag F.UPD_STAT_UPD_REFUSED true).raise 61 0 why 0

/-- The partner is present and in LOADER, resynchronising, or at a protocol level that does not suit (R477, R486). -/
def State.partnerUnfit (s : State) (m : Manifest) : Bool :=
  s.on F.PAIR_STAT_PRESENT && s.pair.partner.any (fun d =>
    d.role == roleLoader || d.phase != 0 || !protoOk m.proto m.protoMin d.proto d.protoMin)

/-- UPDATE (R477, R478), from an ENGINEER session: accepted, a reset of kind 5 leads to the loader. (DEDUCED: log entry 71) -/
def updateOp (m : Manifest) (force : Bool) (s : State) : State :=
  if !s.awake || !s.netUp || !s.engineerOpen then s
  else if !force && (!m.formatOk || !m.sigOk || s.partnerUnfit m) then s.updRefuse 1
  else
    let s1 := s.moduleReset 5
    s1.setUpd { s1.upd with target := some m, left := s1.partsLeft m }

/-- FIRMWARE_PART (R478 steps 3, 4): an ENGINEER session sends a part, which is written over its slot and
hashed; a mismatch is reported. (DESIGN CHOICE, DEDUCED: log entries 17, 71) -/
def firmwarePartOp (part length : Nat) (digest : BitVec 256) (s : State) : State :=
  match s.upd.target with
  | none => s
  | some m =>
    if s.pw.phase != .loader || s.pair.cloning || slotSize part < length || slotSize part = 0 || !s.engineerOpen then s
    else
      let s1 := s.setUpd { s.upd with slots := tput part (length, digest) s.upd.slots }
      let left := s1.partsLeft m
      let s2 := (s1.setUpd { s1.upd with left := left }).emit .plant1 (if left.contains part then .refused else .reply) [part]
      if left = [] then s2.glueUp m 0 else s2

/-! ## The boot check (R480–R482) -/

/-- A check has failed (R482): the module stays in LOADER. (DEDUCED: log entry 71) -/
def State.bootFail (s : State) (reason part : Nat) : State :=
  let cloned := s.upd.glue.state == 2 && s.upd.glue.origin == 1
  let s1 := s.setUpd { s.upd with
    failReason := reason, failPart := part, failNew := true, offered := false, cloneFails := s.upd.cloneFails + bitNat cloned }
  ((s1.setPw { s1.pw with kind := 5 }).wr F.RESET_CAUSE_CAUSE 5).loaderRuns

/-- Every check has passed: STATE 3; a changed field-side part starts afresh (R480). -/
def State.bootPass (s : State) : State :=
  let u := s.upd
  let g := u.glue
  let forget := g.state == 2 && g.origin == 0 && !u.failNew
  let v := { u with
    offered := false, fioNew := false, cloneFails := 0
    failReason := if forget then 0 else u.failReason, failPart := if forget then 0 else u.failPart }
  let s1 := s.setUpd (if g.state = 2 then v.putGlue { g with state := 3 } else v)
  let s2 := if u.fioNew then s1.setLio { s1.lio with
      di := List.replicate 16 {}, uc := List.replicate 8 {}, edges := [], doCmd := 0, ucCmd := List.replicate 8 hiZ, fieldGood := 0
      failApplied := false, everValid := false } else s1
  s2.setPw { s2.pw with phase := .checked }

/-- Checks 1–4 in order: the first FAIL_REASON and FAIL_PART. -/
def State.bootFault (s : State) : Option (Nat × Nat) :=
  let g := s.upd.glue
  if g.state ≠ 2 && g.state ≠ 3 then some (1, 0)
  else match s.upd.manifest with
    | none => some (5, 0)
    | some m =>
      if !m.formatOk || m.crc ≠ g.crc then some (5, 0)
      else if !m.sigOk then some (2, 0)
      else match m.entries.find? (fun e => !s.slotHolds e) with
        | some e => some (3, e.part)
        | none => none

/-- Digest of the MRT part of the set in force. -/
def Upd.mrtDigest (u : Upd) : BitVec 256 := ((u.manifest.bind (fun (m : Manifest) => m.entry 7)).map (·.digest)).getD 0

/-- BOOT_CHECK (R480, R481): after checks 1–4 an MRT part that differs from the Mortise's firmware is offered. (DEDUCED: log entry 71) -/
def bootCheckOp (s : State) : State :=
  if s.pw.phase != .loading || s.upd.offered then s
  else match s.bootFault with
    | some (r, p) => s.bootFail r p
    | none =>
      if s.upd.mrtDigest = s.upd.mrtFw then s.bootPass
      else (s.setUpd { s.upd with offered := true }).emit .sealed .train [7]

/-- The Mortise installs an offered part (spec/10 R318, Table 10-4): it measures, its seal is open, the part passes its signature check, the
audit trail has room, and it does not prove. -/
def Mrt.accepts (m : Mrt) (sigOk : Bool) : Bool := m.works && m.sealOpen && sigOk && decide (m.audit.length < 1024) && !m.prove.busy

/-- MRT_ANSWER (R481; spec/10 R304, R318): accepted, the Mortise installs on its own; `sigOk` whether the part passes its signature check. -/
def mrtAnswerOp (sigOk : Bool) (s : State) : State :=
  if !s.upd.offered || s.pw.phase != .loading then s
  else
    let m := s.mrt
    let s0 := s.tellSlot
    if m.accepts sigOk then (s0.setMrt { s0.mrt with installing := true, part := s.upd.mrtDigest }).bootPass
    else
      let s1 := if m.works && m.sealOpen && sigOk && decide (1024 ≤ m.audit.length) then s0.setMrt { s0.mrt with auditFull := true } else s0
      if s.upd.glue.state = 2 && s.upd.glue.origin = 0 then s1.bootFail 4 0
      else ((s1.flag F.UPD_STAT_MRT_MISMATCH true).raise 62 0 0 0).bootPass

/-! ## Cloning (R483, R484) -/

/-- A partner whose set may be cloned. -/
def State.cloneSource (s : State) : Bool :=
  s.on F.DT_STAT_LINK_UP && s.on F.PAIR_STAT_PRESENT && s.pair.partner.any (fun d => d.role != roleLoader && d.glue == 3)

/-- The partner of a module in LOADER sends its manifest and every slot. -/
def State.cloneSend (s : State) : State :=
  match s.upd.manifest with
  | none => s
  | some m =>
    let s1 := s.dtSend .bulk 448 (4 :: m.image.map (·.toNat))
    let s2 := m.entries.foldl (fun (s : State) e =>
      (List.range ((e.length + 4079) / 4080)).foldl (fun (s : State) i =>
        s.dtSend .bulk (16 + min 4080 (e.length - 4080 * i)) [5, e.part, 4080 * i, e.length, e.digest.toNat]) s) s1
    s2.dtSend .bulk 0 [6]

/-- CLONE_START (R483, R484): in LOADER after a failed check, the clone begins; at its partner, the set is sent. (DEDUCED: log entry 71) -/
def cloneStartOp (s : State) : State :=
  if s.pw.phase == .loader then
    (if !s.on F.SLOT_STAT_VALID || s.upd.failReason = 0 || s.upd.target.isSome || s.pair.cloning || 3 ≤ s.upd.cloneFails || !s.cloneSource then s
     else s.setPair { s.pair with cloning := true, cloneManifest := false, clone := [] })
  else if s.awake && s.on F.DT_STAT_LINK_UP && s.on F.PAIR_STAT_PRESENT && s.partnerRole = roleLoader && s.upd.glue.state = 3 then s.cloneSend
  else s

/-- A cloned manifest arrives: STATE 1 is written (R483 step 2). -/
def State.cloneManifest (s : State) (b : List Byte) : State :=
  if !s.pair.cloning || b.length ≠ 448 then s
  else
    let m := manifestOf b
    (s.setUpd ({ s.upd with target := some m }.putGlue ⟨1, 1, m.setSeq.toNat, m.crc⟩)).setPair { s.pair with cloneManifest := true }

/-- A cloned slot arrives. -/
def State.cloneSlot (s : State) (part length : Nat) (digest : BitVec 256) : State :=
  if !s.pair.cloning || !s.pair.cloneManifest || slotSize part < length then s
  else (s.setUpd { s.upd with slots := tput part (length, digest) s.upd.slots }).setPair { s.pair with clone := s.pair.clone ++ [(part, length, digest)] }

/-- The clone is complete once every slot has come (R483 step 3). -/
def State.cloneEnd (s : State) : State :=
  match s.upd.target with
  | none => s
  | some m =>
    if s.pair.cloning && (List.range 7).all (fun i => s.pair.clone.any (fun x => x.1 == i + 1)) then
      (s.setPair { s.pair with cloning := false }).glueUp m 1
    else s

/-- BULK (spec/09 R264, R280; R483; spec/07 R214). (DESIGN CHOICE, DEDUCED: log entries 3, 48) -/
def bulkOp (h : DtHdr) (d : BulkData) (s : State) : State :=
  s.onFrame h fun s =>
    match d with
    | .cloneManifest b => s.cloneManifest b
    | .cloneSlot p n g => s.cloneSlot p n g
    | .cloneEnd => s.cloneEnd
    | d => s.takeBulk d

/-! ## LOAD_STOP (R488) -/

/-- LOAD_STOP, from an ENGINEER session: accepted in SOLO, and in ACTIVE with the partner detached or absent; no task is released from then on.
(DESIGN CHOICE, DEDUCED: log entries 3, 44, 72) (DESIGN CHOICE, DEDUCED: log entries 3, 44, 72) -/
def loadStopOp (s : State) : State :=
  if s.upd.stopping || !s.engineerOpen then s
  else if s.role = roleSolo || (s.role = roleActive && (s.pair.ptnDetached || !s.on F.PAIR_STAT_PRESENT)) then
    let s1 := if 1 ≤ s.ocPhase && s.ocPhase ≤ 4 then s.ocEnd 2 else s
    s1.setUpd { s1.upd with stopping := true }
  else s.updRefuse 2

/-- LOAD_STOP_TRANSFER_END: the image is checked; on success it is the running version; either way a reset of kind 4 follows. -/
def loadStopTransferEndOp (img : Image) (s : State) : State :=
  if !s.upd.stopping then s
  else
    let s1 : State := { s with mram := { s.mram with areas := setNth (some img) s.mram.areas (1 - s.bank) } }
    let s2 : State := if (s.rejects img true).isNone then
        { s1 with mram := { s1.mram with area := 1 - s1.mram.area, ran := false, copy := [], journal := [], checked := s.prog.isSome } }
      else { s1 with mram := { s1.mram with checked := false } }
    s2.moduleReset 4

/-! ## The bench port (R489–R495) -/

/-- The bench port's answer: value, DENIED. -/
def State.benchAnswer (s : State) (v : Nat) : State := s.emit .bench .reply [v]
def State.benchDenied (s : State) : State := s.emit .bench .denied [0]

/-- A denied access (R492): counted and flagged, 0 on a read. -/
def State.benchDeny (s : State) : State := ((s.flag F.BENCH_STAT_DENIED true).inc F.BENCH_DENY).benchDenied

/-- An access that the lock level denies, or one to loader memory or the image store: captured too (R432, R492). The fields that the spec does not
give it are free. (DESIGN CHOICE: log entry 23) -/
def State.lockDeny (s : State) (write : Bool) : State :=
  let (i, d) := Config.benchCapture s.freeCtr
  let info := (F.PR_CAP_INFO_MASTER.set (F.PR_CAP_INFO_WRITE.set i (bitNat write)) 4)
  (s.drawn.captureDenial 4 0 info d).benchDeny

/-- DEBUG_SESSION_OPEN (R489, R495). -/
def debugSessionOpenOp (s : State) : State :=
  if !s.awake || s.on F.BENCH_STAT_SESSION then s else (s.flag F.BENCH_STAT_SESSION true).raise 63 0 1 0

/-- DEBUG_SESSION_END (R489). (DEDUCED: log entry 38) -/
def debugSessionEndOp (s : State) : State := s.flag F.BENCH_STAT_SESSION false

/-- A physical address of loader memory or the image store (R489). (DESIGN CHOICE: log entry 37) -/
def benchForbidden (a : Nat) : Bool := decide (a < 0x400000) || (decide (0x100000000 ≤ a) && decide (a < 0x180000000))

/-- The identity words and BENCH_STAT, readable at every lock level (Table 17-7). -/
def benchOpenWord (i : Nat) : Bool := decide (i ≤ 9) || i == W.BENCH_STAT

/-- Program data by ADDRESS: area [47:44], selector [43:20], offset [19:0]; areas 8 to 14 are those of the inactive bank (spec/07 R211), which is
read only. (DESIGN CHOICE: log entry 37) -/
def benchLoc (a : Nat) : Loc := ⟨a / 2 ^ 44 % 16, a / 2 ^ 20 % 2 ^ 24, a % 2 ^ 20⟩

/-- Four bytes at a location lie inside its area. -/
def State.benchFits (s : State) (l : Loc) : Bool :=
  if l.area = 5 || l.area = 6 then decide (l.off + 4 ≤ 262144)
  else if 4 < l.area then false
  else match s.areaLen l.area l.sel with | some n => decide (l.off + 4 ≤ n) | none => false

/-- The registers of the task that the LP runs, as pass A holds them (R191): 0, 1 WA; 2, 3 WB; 4 IP; 5 DSEL; 6 FL; 7 BA; 8 nest depth; 9, 10
nest entries, innermost lowest. (DESIGN CHOICE: log entry 37) -/
def Regs.benchRead (r : Regs) (i : Nat) : Nat :=
  let nest := r.ns.foldr (fun (b : BitVec 4) (n : Nat) => 16 * n + b.toNat) 0
  (match i with
   | 0 => r.wa.toNat | 1 => r.wa.toNat / 2 ^ 32 | 2 => r.wb.toNat | 3 => r.wb.toNat / 2 ^ 32 | 4 => r.ip.toNat | 5 => r.dsel.toNat | 6 => r.fl
   | 7 => bitNat r.ba | 8 => r.ns.length | 9 => nest | 10 => nest / 2 ^ 32 | _ => 0) % 2 ^ 32

/-- A register written into every pass (R191). (DESIGN CHOICE: log entry 37) -/
def Regs.benchWrite (r : Regs) (i : Nat) (v : Word) : Regs :=
  let lo := fun (w : Word64) => BitVec.ofNat 64 (w.toNat / 2 ^ 32 * 2 ^ 32 + v.toNat)
  let hi := fun (w : Word64) => BitVec.ofNat 64 (w.toNat % 2 ^ 32 + v.toNat * 2 ^ 32)
  let put := fun (k : Nat) => (List.range r.ns.length).map (fun j =>
    if k ≤ j && j < k + 8 then BitVec.ofNat 4 (v.toNat / 16 ^ (j - k)) else nth 0 r.ns j)
  match i with
  | 0 => { r with wa := lo r.wa }
  | 1 => { r with wa := hi r.wa }
  | 2 => { r with wb := lo r.wb }
  | 3 => { r with wb := hi r.wb }
  | 4 => { r with ip := v.setWidth 22 }
  | 5 => { r with dsel := v.setWidth 16 }
  | 6 => { r with sov := v.getLsbD 3, nf := v.getLsbD 2, zf := v.getLsbD 1, cf := v.getLsbD 0 }
  | 7 => { r with ba := v.getLsbD 0 }
  | 8 => { r with ns := (r.ns ++ List.replicate 16 0#4).take (v.toNat % 17) }
  | 9 => { r with ns := put 0 }
  | 10 => { r with ns := put 8 }
  | _ => r

/-- A read whose value the spec does not give. (DESIGN CHOICE: log entry 23) -/
def State.benchOpen (s : State) (a : Nat) : State := s.drawn.benchAnswer (Config.physical s.freeCtr a).toNat

/-- A read that the lock level permits, spaces 0–3 and DRAM. (DESIGN CHOICE: log entry 37) -/
def State.benchRead (s : State) (space a : Nat) : State :=
  if space = 0 then
    let l0 := benchLoc a
    let l := { l0 with area := l0.area % 8 }
    if !s.benchFits l then s.benchOpen a
    else
      let (ok, s1) := s.access (memAccess 4 0 false l 4 false)
      if ok then s1.benchAnswer (leNat (if l0.area < 8 then s1.bytes l 4 else s1.inactiveBytes l 4)) else s1.benchDeny
  else if space = 1 then
    let (ok, s1) := s.access (sysAccess 4 0 false a false)
    if ok then
      let (v, s2) := s1.sysRead a
      s2.benchAnswer v.toNat
    else s1.benchDeny
  else if space = 2 then s.benchAnswer (match s.sch.running with | some t => (s.rt t).regs.benchRead a | none => 0)
  else if space = 3 then
    match (nth none s.mram.areas (a / 2 ^ 32)).bind (fun (p : Image) => p.code[a % 2 ^ 32]?) with
    | some w => s.benchAnswer w.toNat
    | none => s.benchOpen a
  else s.benchOpen a

/-- DEBUG_READ (R489, R490, R492). No level permits a space that R489 does not name. (DESIGN CHOICE: log entry 37) -/
def debugReadOp (space addr : Nat) (s : State) : State :=
  let lock := s.rd F.BENCH_STAT_LOCK
  if !s.on F.BENCH_STAT_SESSION then s
  else if space = 1 && benchOpenWord addr then s.benchRead 1 addr
  else if 2 ≤ lock || 5 ≤ space || (space = 4 && benchForbidden addr) then s.lockDeny false
  else s.benchRead space addr

/-- A code word is written. -/
def Image.putCode (p : Image) (i : Nat) (v : Word) : Image := { p with code := setNth v p.code i }

/-- A write that the lock level permits. Into program data it is applied at the next point (spec/09 R257), with the LP halted directly
(spec/06 R191). A write to physical DRAM, or beyond an area, has an effect that the spec does not give. -/
def State.benchWrite (s : State) (space a : Nat) (v : Word) : State :=
  let free : State := { s.drawn with openState := Config.physical s.freeCtr a }
  let done := fun (s : State) => s.emit .bench .reply [0]
  if space = 0 then
    let l := benchLoc a
    if !s.benchFits l then done free
    else
      let (ok, s1) := s.access (memAccess 4 0 true l 4 false)
      if !ok then s1.benchDeny
      else if s1.lp.halted then done (s1.extWrite l (leBytes 4 v.toNat) s1.pointNow)
      else done (s1.addJob (.bench l (leBytes 4 v.toNat)))
  else if space = 1 then
    let (ok, s1) := s.access (sysAccess 4 0 true a false)
    if ok then done (s1.sysWrite .bench a 0xFFFFFFFF#32 v) else s1.benchDeny
  else if space = 2 then
    done (match s.sch.running with | some t => s.setRt t { s.rt t with regs := (s.rt t).regs.benchWrite a v } | none => s)
  else if space = 3 then
    let k := a / 2 ^ 32
    match nth none s.mram.areas k with
    | none => done free
    | some p =>
      let q := p.putCode (a % 2 ^ 32) v
      done { s with mram := { s.mram with areas := setNth (some q) s.mram.areas k }, prog := if k = s.bank && s.prog.isSome then some q else s.prog }
  else done free

/-- DEBUG_WRITE (R489, R490, R492). (DESIGN CHOICE: log entry 37) -/
def debugWriteOp (space addr : Nat) (data : Word) (s : State) : State :=
  if !s.on F.BENCH_STAT_SESSION then s
  else if s.rd F.BENCH_STAT_LOCK ≠ 0 || 5 ≤ space || (space = 4 && benchForbidden addr) then s.lockDeny true
  else s.benchWrite space addr data

/-- A function of the OPEN level: breakpoints, halt, step, resume (Table 17-7). -/
def benchFn (f : State → State) (s : State) : State :=
  if !s.on F.BENCH_STAT_SESSION then s else if s.rd F.BENCH_STAT_LOCK ≠ 0 then s.benchDenied else f s

/-- DEBUG_BREAKPOINT (spec/06 R190). -/
def debugBreakpointOp (idx : Nat) (s : State) : State :=
  benchFn (fun s => { s with lp := { s.lp with breakpoints := addNew s.lp.breakpoints [idx] } }) s

/-- DEBUG_HALT (R493): refused by role, or the LP halts once the open window has been committed. (DEDUCED: log entry 38) -/
def debugHaltOp (s : State) : State :=
  benchFn (fun s =>
    match s.haltRefusal with
    | some f => (s.flag f true).emit .bench .refused [f.lo]
    | none =>
      if s.lp.halted then s else if s.lp.win.isSome then { s with lp := { s.lp with stepping := true } } else s.overlapEnd.haltLp) s

/-- DEBUG_STEP (spec/06 R191): the halted LP executes one instruction as a window of its own. -/
def debugStepOp (s : State) : State :=
  benchFn (fun s => if s.lp.halted && s.sch.running.isSome then { s with lp := { s.lp with stepping := true } } else s) s

/-- DEBUG_RESUME (spec/06 R192). -/
def debugResumeOp (s : State) : State := benchFn State.lpResume s

/-- LOCK_LEVEL_CHANGE (R491): the bench port only raises it, an ENGINEER session lowers it too, from SEALED only in LOADER. -/
def lockLevelChangeOp (level : Nat) (fromBench : Bool) (s : State) : State :=
  let old := s.upd.lock
  let by_ := if fromBench then s.on F.BENCH_STAT_SESSION else s.engineerOpen
  if 2 < level || level = old || !s.awake || !by_ then s
  else if level < old && fromBench then s.benchDenied
  else if level < old && old = 2 && s.role ≠ roleLoader then s.emit .plant1 .refused [level]
  else ((s.setUpd { s.upd with lock := level }).wr F.BENCH_STAT_LOCK level).raise 63 0 3 level

/-- A write of system words by a master that the protection unit checks (spec/15 R427–R431). -/
def Writer.master : Writer → Nat × Nat
  | .task n => (0, n)
  | .session n => (3, n)
  | .bench => (4, 0)

/-- REGISTER_WRITE (spec/00 R8): a denied write is dropped; the bench port's is counted too. (DEDUCED: log entry 68) -/
def registerWriteOp (w : Writer) (idx : Nat) (mask v : Word) (s : State) : State :=
  let (ok, s1) := s.access (sysAccess w.master.1 w.master.2 true idx false)
  if ok then s1.sysWrite w idx mask v else if w = .bench then s1.benchDeny else s1

end Sys2Proof.Machine
end

