-- ==== Sys2Proof/Machine/MortiseCmd.lean ====
section
/-! DEFINITION. The meanings of the commands of the Mortise (spec/10): each is its operation, followed by what every command ends with. -/

namespace Sys2Proof.Machine

/-- A frame of the sealed path: from a plant session with METROLOGY rights, through the system cores, over the request link (R294, R306). -/
def sealedPath (f : State → State) (s : State) : State :=
  if s.awake && s.plant.sessions.any (fun (e : Nat × Session) => e.2.rights == .metrology) then f s.tellSlot else s

/-- MP_PULSE_EDGE (spec rule R290). -/
def execMpPulseEdge (input : Nat) (tNs : Nat) (highNs : Nat) (lowNs : Nat) (s : State) : Host.Outcome State Fault Refusal :=
  .next (settle (mpPulseEdgeOp input tNs highNs lowNs s))

/-- MORTISE_CYCLE_END (spec rule R296). -/
def execMortiseCycleEnd (m : CycleMeas) (s : State) : Host.Outcome State Fault Refusal :=
  .next (settle (mortiseCycleEndOp m s))

/-- MAILBOX_FRAME (spec rule R307). -/
def execMailboxFrame (crcOk : Bool) (s : State) : Host.Outcome State Fault Refusal :=
  .next (settle (awake (mailboxFrameOp crcOk) s))

/-- MAILBOX_LINK_TIMEOUT (spec rule R307). -/
def execMailboxLinkTimeout (s : State) : Host.Outcome State Fault Refusal :=
  .next (settle (awake mailboxLinkTimeoutOp s))

/-- MORTISE_RECORD (spec rule R310). -/
def execMortiseRecord (s : State) : Host.Outcome State Fault Refusal :=
  .next (settle (awake mortiseRecordOp s))

/-- MORTISE_HART_POLL (spec rule R294). -/
def execMortiseHartPoll (replies : List (Option (Word × Nat))) (s : State) : Host.Outcome State Fault Refusal :=
  .next (settle (mortiseHartPollOp replies s))

/-- PROVER_DETECTOR_EDGE (spec rule R299). -/
def execProverDetectorEdge (det : Nat) (tNs : Nat) (s : State) : Host.Outcome State Fault Refusal :=
  .next (settle (proverDetectorEdgeOp det tNs s))

/-- DET_TIMEOUT (spec rule R301). -/
def execDetTimeout (s : State) : Host.Outcome State Fault Refusal :=
  .next (settle (detTimeoutOp s))

/-- SEAL_OPEN (spec rule R302). -/
def execSealOpen (s : State) : Host.Outcome State Fault Refusal :=
  .next (settle (sealOpenOp s))

/-- SEAL_CLOSE (spec rule R305). -/
def execSealClose (s : State) : Host.Outcome State Fault Refusal :=
  .next (settle (sealCloseOp s))

/-- STAGE_PARAMETERS (spec rule R305). -/
def execStageParameters (p : MrtParams) (s : State) : Host.Outcome State Fault Refusal :=
  .next (settle (sealedPath (stageParametersOp p) s))

/-- ACTIVATE_PARAMETERS (spec rule R305). -/
def execActivateParameters (s : State) : Host.Outcome State Fault Refusal :=
  .next (settle (sealedPath activateParametersOp s))

/-- SEALED_READ (spec rule R305). -/
def execSealedRead (what : Nat) (first : Nat) (s : State) : Host.Outcome State Fault Refusal :=
  .next (settle (sealedPath (sealedReadOp what first) s))

/-- AUDIT_ARCHIVE (spec rule R304). -/
def execAuditArchive (upTo : Nat) (s : State) : Host.Outcome State Fault Refusal :=
  .next (settle (sealedPath (auditArchiveOp upTo) s))

/-- START_PROVE (spec rule R300). -/
def execStartProve (s : State) : Host.Outcome State Fault Refusal :=
  .next (settle (startProveOp s))

/-- ABORT_PROVE (spec rule R301). -/
def execAbortProve (s : State) : Host.Outcome State Fault Refusal :=
  .next (settle (abortProveOp s))

/-- ACCEPT_MF (spec rule R311). -/
def execAcceptMf (s : State) : Host.Outcome State Fault Refusal :=
  .next (settle (acceptMfOp s))

/-- ISSUE_TICKET (spec rule R311). -/
def execIssueTicket (s : State) : Host.Outcome State Fault Refusal :=
  .next (settle (issueTicketOp s))

/-- REQUEST_TIMEOUT (spec rule R311). -/
def execRequestTimeout (s : State) : Host.Outcome State Fault Refusal :=
  .next (settle (requestTimeoutOp s))

/-- TIME_OFFER (spec rule R313). -/
def execTimeOffer (s : State) : Host.Outcome State Fault Refusal :=
  .next (settle (awake timeOfferOp s))

/-- LEGAL_DISPLAY_OFFER (spec rule R314). -/
def execLegalDisplayOffer (s : State) : Host.Outcome State Fault Refusal :=
  .next (settle (awake legalDisplayOfferOp s))

/-- MORTISE_SUPPLY_WARNING (spec rule R316). -/
def execMortiseSupplyWarning (s : State) : Host.Outcome State Fault Refusal :=
  .next (settle (mortiseSupplyWarningOp s))

/-- MORTISE_START (spec rule R317). -/
def execMortiseStart (found : MrtFound) (s : State) : Host.Outcome State Fault Refusal :=
  .next (settle (mortiseStartShown (awake legalDisplayOfferOp) found.fwOk found.damage s))

/-- MRT_ANSWER (spec rule R481). -/
def execMrtAnswer (accept : Bool) (s : State) : Host.Outcome State Fault Refusal :=
  .next (settle (mrtAnswerOp accept s))

/-- MRT_INSTALL_COMPLETE (spec rule R318). -/
def execMrtInstallComplete (s : State) : Host.Outcome State Fault Refusal :=
  .next (settle (mrtInstallCompleteOp s))

/-- PARTNER_MREC_TIMEOUT (spec rule R319). -/
def execPartnerMrecTimeout (s : State) : Host.Outcome State Fault Refusal :=
  .next (settle (awake partnerMrecTimeoutOp s))

end Sys2Proof.Machine
end

