-- ==== Sys2Proof/Machine/OnlineCmd.lean ====
section
/-! DEFINITION. The meanings of the commands of online change (spec/07): each is its operation, followed by what every command ends with. -/

namespace Sys2Proof.Machine

/-- LOAD (spec rule R197). -/
def execLoad (img : Image) (s : State) : Host.Outcome State Fault Refusal :=
  .next (settle (awake (loadOp img) s))

/-- OC_TRANSFER_END (spec rule R213). -/
def execOcTransferEnd (s : State) : Host.Outcome State Fault Refusal :=
  .next (settle (awake ocTransferEndOp s))

/-- OC_CHECKS_COMPLETE (spec rule R198). -/
def execOcChecksComplete (s : State) : Host.Outcome State Fault Refusal :=
  .next (settle (awake ocChecksCompleteOp s))

/-- ARM (spec rule R200). -/
def execArm (s : State) : Host.Outcome State Fault Refusal :=
  .next (settle (awake armOp s))

/-- ABORT (spec rule R197). -/
def execAbort (s : State) : Host.Outcome State Fault Refusal :=
  .next (settle (awake abortOp s))

/-- REVERT (spec rule R197). -/
def execRevert (s : State) : Host.Outcome State Fault Refusal :=
  .next (settle (awake revertOp s))

/-- RESUME (spec rule R197). -/
def execResume (s : State) : Host.Outcome State Fault Refusal :=
  .next (settle (awake resumeOp s))

/-- OC_SWITCH_POINT (spec rule R200). -/
def execOcSwitchPoint (s : State) : Host.Outcome State Fault Refusal :=
  .next (settle (awake ocSwitchPointOp s))

/-- OC_SWITCH_COMPLETE (spec rule R201). -/
def execOcSwitchComplete (ns : Nat) (s : State) : Host.Outcome State Fault Refusal :=
  .next (settle (awake (ocSwitchCompleteOp ns) s))

/-- OC_WAIT_TIMEOUT (spec rule R200). -/
def execOcWaitTimeout (s : State) : Host.Outcome State Fault Refusal :=
  .next (settle (awake ocWaitTimeoutOp s))

/-- OC_TRIAL_END (spec rule R214). -/
def execOcTrialEnd (s : State) : Host.Outcome State Fault Refusal :=
  .next (settle (awake ocTrialEndOp s))

end Sys2Proof.Machine
end

