-- ==== Sys2Proof/Machine/PairCmd.lean ====
section
/-! DEFINITION. The meanings of the commands of the redundant pair (spec/09): each is its operation, followed by what every command ends with. -/

namespace Sys2Proof.Machine

/-- ALV_OUT_TOGGLE (spec rule R250). -/
def execAlvOutToggle (s : State) : Host.Outcome State Fault Refusal :=
  .next (settle (alvOutToggleOp s))

/-- LIVENESS_LAPSE (spec rule R250). -/
def execLivenessLapse (s : State) : Host.Outcome State Fault Refusal :=
  .next (settle (livenessLapseOp s))

/-- ALV_EDGE (spec rule R251). -/
def execAlvEdge (s : State) : Host.Outcome State Fault Refusal :=
  .next (settle (alvEdgeOp s))

/-- ALV_DEAD (spec rule R251). -/
def execAlvDead (s : State) : Host.Outcome State Fault Refusal :=
  .next (settle (alvDeadOp s))

/-- SEATED_CHANGE (spec rule R251). -/
def execSeatedChange (seated : Bool) (s : State) : Host.Outcome State Fault Refusal :=
  .next (settle (seatedChangeOp seated s))

/-- CLAIM_CHANGE (spec rule R251). -/
def execClaimChange (claim : Bool) (s : State) : Host.Outcome State Fault Refusal :=
  .next (settle (claimChangeOp claim s))

/-- HB_SEND (spec rule R255). -/
def execHbSend (s : State) : Host.Outcome State Fault Refusal :=
  .next (settle (awake hbSendOp s))

/-- HB (spec rule R251). -/
def execHb (d : HbData) (s : State) : Host.Outcome State Fault Refusal :=
  .next (settle (awake (hbOp d) s))

/-- HB_LOST (spec rule R251). -/
def execHbLost (s : State) : Host.Outcome State Fault Refusal :=
  .next (settle (awake hbLostOp s))

/-- DOVETAIL_LINK_UP (spec rule R253). -/
def execDovetailLinkUp (s : State) : Host.Outcome State Fault Refusal :=
  .next (settle (awake dovetailLinkUpOp s))

/-- DOVETAIL_LINK_DOWN (spec rule R253). -/
def execDovetailLinkDown (s : State) : Host.Outcome State Fault Refusal :=
  .next (settle (awake dovetailLinkDownOp s))

/-- DOVETAIL_FRAME_DROP (spec rule R254). -/
def execDovetailFrameDrop (seq : Nat) (s : State) : Host.Outcome State Fault Refusal :=
  .next (settle (awake (dovetailFrameDropOp seq) s))

/-- NAK (spec rule R256). -/
def execNak (f : NakFrame) (s : State) : Host.Outcome State Fault Refusal :=
  .next (settle (awake (nakOp f.h f.seq) s))

/-- TICK_RECORD (spec rule R259). -/
def execTickRecord (h : DtHdr) (k : Nat) (tt : Nat) (s : State) : Host.Outcome State Fault Refusal :=
  .next (settle (awake (tickRecordOp h k tt) s))

/-- RELEASE_RECORD (spec rule R258). -/
def execReleaseRecord (h : DtHdr) (task : Nat) (cycle : Nat) (cause : Nat) (s : State) : Host.Outcome State Fault Refusal :=
  .next (settle (awake (releaseRecordOp h task cycle cause) s))

/-- INPUT_RECORD (spec rule R258). -/
def execInputRecord (h : DtHdr) (task : Nat) (cycle : Nat) (tt : Nat) (cells : List (Nat × Byte)) (s : State) : Host.Outcome State Fault Refusal :=
  .next (settle (awake (inputRecordOp h task cycle tt cells) s))

/-- SERVICE_RECORD (spec rule R258). -/
def execServiceRecord (h : DtHdr) (task : Nat) (window : Nat) (vals : List Nat) (s : State) : Host.Outcome State Fault Refusal :=
  .next (settle (awake (serviceRecordOp h task window vals) s))

/-- PREEMPT_RECORD (spec rule R258). -/
def execPreemptRecord (h : DtHdr) (task : Nat) (count : Nat) (byTask : Nat) (s : State) : Host.Outcome State Fault Refusal :=
  .next (settle (awake (preemptRecordOp h task count byTask) s))

/-- HASH_RECORD (spec rule R260). -/
def execHashRecord (h : DtHdr) (task : Nat) (cycle : Nat) (endIdx : Nat) (hash : BitVec 64) (s : State) : Host.Outcome State Fault Refusal :=
  .next (settle (awake (hashRecordOp h task cycle endIdx hash) s))

/-- EXTWRITE_RECORD (spec rule R258). -/
def execExtwriteRecord (h : DtHdr) (cells : List (Loc × Byte)) (point : ExtPoint) (s : State) : Host.Outcome State Fault Refusal :=
  .next (settle (awake (extwriteRecordOp h cells point) s))

/-- MREC (spec rule R319). -/
def execMrec (h : DtHdr) (frame : List Word) (s : State) : Host.Outcome State Fault Refusal :=
  .next (settle (awake (mrecOp h frame) s))

/-- CTRL_HANDOVER (spec rule R274). -/
def execCtrlHandover (h : DtHdr) (tick : Nat) (s : State) : Host.Outcome State Fault Refusal :=
  .next (settle (awake (ctrlHandoverOp h tick) s))

/-- CTRL_SYNC_DROPPED (spec rule R262). -/
def execCtrlSyncDropped (h : DtHdr) (cause : Nat) (s : State) : Host.Outcome State Fault Refusal :=
  .next (settle (awake (ctrlSyncDroppedOp h cause) s))

/-- CTRL_DETACH (spec rule R282). -/
def execCtrlDetach (h : DtHdr) (s : State) : Host.Outcome State Fault Refusal :=
  .next (settle (awake (ctrlDetachOp h) s))

/-- CTRL_RESYNC (spec rule R282). -/
def execCtrlResync (h : DtHdr) (s : State) : Host.Outcome State Fault Refusal :=
  .next (settle (awake (ctrlResyncOp h) s))

/-- CTRL_TRIAL_RESULT (spec rule R214). -/
def execCtrlTrialResult (h : DtHdr) (result : TrialReport) (s : State) : Host.Outcome State Fault Refusal :=
  .next (settle (awake (ctrlTrialResultOp h result.result result.same result.diff) s))

/-- DEPART (spec rule R274). -/
def execDepart (h : DtHdr) (cause : Nat) (s : State) : Host.Outcome State Fault Refusal :=
  .next (settle (awake (departOp h cause) s))

/-- BULK (spec rule R264). -/
def execBulk (h : DtHdr) (d : BulkData) (s : State) : Host.Outcome State Fault Refusal :=
  .next (settle (awake (bulkOp h d) s))

/-- MARK (spec rule R280). -/
def execMark (h : DtHdr) (d : MarkData) (s : State) : Host.Outcome State Fault Refusal :=
  .next (settle (awake (markOp h d) s))

/-- LAG_TIMEOUT (spec rule R261). -/
def execLagTimeout (task : Nat) (cycle : Nat) (s : State) : Host.Outcome State Fault Refusal :=
  .next (settle (awake (lagTimeoutOp task cycle) s))

/-- ROLE_DECISION_START (spec rule R265). -/
def execRoleDecisionStart (s : State) : Host.Outcome State Fault Refusal :=
  .next (settle (awake roleDecisionStartOp s))

/-- START_RECORD_EXCHANGE (spec rule R265). -/
def execStartRecordExchange (mode : Nat) (epoch : Nat) (s : State) : Host.Outcome State Fault Refusal :=
  .next (settle (awake (startRecordExchangeOp mode epoch) s))

/-- ROLE_CLAIM_INSTANT (spec rule R265). -/
def execRoleClaimInstant (roleInLow : Bool) (witness : Bool) (s : State) : Host.Outcome State Fault Refusal :=
  .next (settle (awake (roleClaimInstantOp roleInLow witness) s))

/-- ROLE_CLAIM_CHECK (spec rule R265). -/
def execRoleClaimCheck (roleInLow : Bool) (witness : Bool) (s : State) : Host.Outcome State Fault Refusal :=
  .next (settle (awake (roleClaimCheckOp roleInLow witness) s))

/-- WITNESS_WINDOW_CLOSE (spec rule R269). -/
def execWitnessWindowClose (s : State) : Host.Outcome State Fault Refusal :=
  .next (settle (awake witnessWindowCloseOp s))

/-- TAKEOVER_VERDICT (spec rule R273). -/
def execTakeoverVerdict (alvDead : Bool) (s : State) : Host.Outcome State Fault Refusal :=
  .next (settle (awake (takeoverVerdictOp alvDead) s))

/-- HANDOVER (spec rule R274). -/
def execHandover (s : State) : Host.Outcome State Fault Refusal :=
  .next (settle (awake handoverOp s))

/-- DETACH (spec rule R282). -/
def execDetach (s : State) : Host.Outcome State Fault Refusal :=
  .next (settle (awake detachOp s))

/-- RESYNC (spec rule R282). -/
def execResync (s : State) : Host.Outcome State Fault Refusal :=
  .next (settle (awake resyncOp s))

/-- PAIR_CLR_STATS (spec rule R287). -/
def execPairClrStats (s : State) : Host.Outcome State Fault Refusal :=
  .next (settle (awake pairClrStatsOp s))

/-- RINGDOWN_TIMEOUT (spec rule R274). -/
def execRingdownTimeout (s : State) : Host.Outcome State Fault Refusal :=
  .next (settle (awake ringdownTimeoutOp s))

/-- FENCE (spec rule R276). -/
def execFence (epoch : Nat) (s : State) : Host.Outcome State Fault Refusal :=
  .next (settle (awake (fenceOp epoch) s))

/-- FENCE_TIMEOUT (spec rule R276). -/
def execFenceTimeout (s : State) : Host.Outcome State Fault Refusal :=
  .next (settle (awake fenceTimeoutOp s))

/-- EPOCH_RESET (spec rule R278). -/
def execEpochReset (s : State) : Host.Outcome State Fault Refusal :=
  .next (settle (awake epochResetOp s))

/-- ORPHAN_TIMEOUT (spec rule R281). -/
def execOrphanTimeout (s : State) : Host.Outcome State Fault Refusal :=
  .next (settle (awake orphanTimeoutOp s))

/-- RESYNC_PHASE_COMPLETE (spec rule R280). -/
def execResyncPhaseComplete (s : State) : Host.Outcome State Fault Refusal :=
  .next (settle (awake resyncPhaseCompleteOp s))

/-- RESYNC_PHASE_FAIL (spec rule R280). -/
def execResyncPhaseFail (s : State) : Host.Outcome State Fault Refusal :=
  .next (settle (awake resyncPhaseFailOp s))

/-- RESYNC_RETRY (spec rule R280). -/
def execResyncRetry (s : State) : Host.Outcome State Fault Refusal :=
  .next (settle (awake resyncRetryOp s))

/-- RESYNC_CUTOVER_POINT (spec rule R280). -/
def execResyncCutoverPoint (s : State) : Host.Outcome State Fault Refusal :=
  .next (settle (awake resyncCutoverPointOp s))

end Sys2Proof.Machine
end

