-- ==== Sys2Proof/Machine/PlantCmd.lean ====
section
/-! DEFINITION. The meanings of the commands of the plant ports (spec/12): each is its operation, followed by what every command ends with. -/

namespace Sys2Proof.Machine

/-- SESSION_HANDSHAKE (spec rule R371). -/
def execSessionHandshake (rights : Rights) (valid : Bool) (port2 : Bool) (s : State) : Host.Outcome State Fault Refusal :=
  .next (settle (awake (sessionHandshakeOp rights valid port2) s))

/-- PLANT_DATAGRAM (spec rule R373). -/
def execPlantDatagram (session : Nat) (seq : DatagramSeq) (authOk : Bool) (ops : List PlantOp) (s : State) : Host.Outcome State Fault Refusal :=
  .next (settle (awake (plantDatagramOp session seq.seq seq.port2 authOk ops) s))

/-- SESSION_CLOSE (spec rule R371). -/
def execSessionClose (session : Nat) (s : State) : Host.Outcome State Fault Refusal :=
  .next (settle (awake (sessionCloseOp session) s))

/-- SESSION_IDLE_TIMEOUT (spec rule R371). -/
def execSessionIdleTimeout (session : Nat) (s : State) : Host.Outcome State Fault Refusal :=
  .next (settle (awake (sessionIdleTimeoutOp session) s))

/-- PAIR_ADDRESS_ANNOUNCE (spec rule R370). -/
def execPairAddressAnnounce (s : State) : Host.Outcome State Fault Refusal :=
  .next (settle (awake pairAddressAnnounceOp s))

end Sys2Proof.Machine
end

