-- ==== Sys2Proof/Machine/PowerCmd.lean ====
section
/-! DEFINITION. The meanings of the commands of clocks, power and start (spec/02): each is its operation, followed by what every command ends with. -/

namespace Sys2Proof.Machine

/-- MODULE_INSERTION (spec rule R36). -/
def execModuleInsertion (slotId : Nat) (feedA : Nat) (feedB : Nat) (s : State) : Host.Outcome State Fault Refusal :=
  .next (settle (moduleInsertionOp slotId feedA feedB s))

/-- RESET_RELEASE (spec rule R36). -/
def execResetRelease (s : State) : Host.Outcome State Fault Refusal :=
  .next (settle (resetReleaseOp s))

/-- SLOT_ID_INVALID_LOADER (spec rule R18). -/
def execSlotIdInvalidLoader (id : Nat) (s : State) : Host.Outcome State Fault Refusal :=
  .next (settle (slotIdInvalidLoaderOp id s))

/-- EXTRACTION_NOTICE (spec rule R38). -/
def execExtractionNotice (id : Nat) (s : State) : Host.Outcome State Fault Refusal :=
  .next (settle (extractionNoticeOp id s))

/-- HOLDUP_CHARGED (spec rule R32). -/
def execHoldupCharged (s : State) : Host.Outcome State Fault Refusal :=
  .next (settle (holdupChargedOp s))

/-- FEED_OVERVOLTAGE_DISCONNECT (spec rule R34). -/
def execFeedOvervoltageDisconnect (feedB : Bool) (mv : Nat) (s : State) : Host.Outcome State Fault Refusal :=
  .next (settle (feedOvervoltageDisconnectOp feedB mv s))

/-- DOMAIN_START_REQUEST (spec rule R43). -/
def execDomainStartRequest (d : Nat) (s : State) : Host.Outcome State Fault Refusal :=
  .next (settle (domainStartRequestOp d s))

/-- DOMAIN_FIRST_EDGE (spec rule R46). -/
def execDomainFirstEdge (d : Nat) (ns : Nat) (s : State) : Host.Outcome State Fault Refusal :=
  .next (settle (domainFirstEdgeOp d ns s))

/-- DOMAIN_START_FAILED (spec rule R45). -/
def execDomainStartFailed (d : Nat) (s : State) : Host.Outcome State Fault Refusal :=
  .next (settle (domainStartFailedOp d s))

/-- PLL_LOCK_LOSS (spec rule R45). -/
def execPllLockLoss (d : Nat) (s : State) : Host.Outcome State Fault Refusal :=
  .next (settle (pllLockLossOp d s))

/-- DOMAIN_STOP (spec rule R44). -/
def execDomainStop (d : Nat) (gapNs : Nat) (s : State) : Host.Outcome State Fault Refusal :=
  .next (settle (domainStopOp d gapNs s))

/-- DOMAIN_ACCESS_START (spec rule R44). -/
def execDomainAccessStart (d : Nat) (s : State) : Host.Outcome State Fault Refusal :=
  .next (settle (domainAccessStartOp d s))

/-- AON_CRYSTAL_STOP (spec rule R49). -/
def execAonCrystalStop (s : State) : Host.Outcome State Fault Refusal :=
  .next (settle (aonCrystalStopOp s))

/-- TIME_BACKUP_ALIGN (spec rule R48). -/
def execTimeBackupAlign (s : State) : Host.Outcome State Fault Refusal :=
  .next (settle (timeBackupAlignOp s))

/-- REF_DEVIATION_CHECK (spec rule R50). -/
def execRefDeviationCheck (ppm : Int) (s : State) : Host.Outcome State Fault Refusal :=
  .next (settle (refDeviationCheckOp ppm s))

/-- FEED_OUT_OF_RANGE (spec rule R50). -/
def execFeedOutOfRange (feedB : Bool) (mv : Nat) (s : State) : Host.Outcome State Fault Refusal :=
  .next (settle (feedOutOfRangeOp feedB mv s))

/-- BOARD_LIMIT_EXCEEDED (spec rule R50). -/
def execBoardLimitExceeded (temp : Int) (railOut : Bool) (s : State) : Host.Outcome State Fault Refusal :=
  .next (settle (boardLimitExceededOp temp railOut s))

/-- HOLDUP_ENERGY_TEST (spec rule R51). -/
def execHoldupEnergyTest (mj : Option Nat) (s : State) : Host.Outcome State Fault Refusal :=
  .next (settle (holdupEnergyTestOp mj s))

/-- HOLDUP_RECHARGE_TIMEOUT (spec rule R50). -/
def execHoldupRechargeTimeout (s : State) : Host.Outcome State Fault Refusal :=
  .next (settle (holdupRechargeTimeoutOp s))

/-- POWER_FAIL_DETECT (spec rule R52). -/
def execPowerFailDetect (s : State) : Host.Outcome State Fault Refusal :=
  .next (settle (powerFailDetectOp s))

/-- PF_STEP_COMPLETE (spec rule R53). -/
def execPfStepComplete (s : State) : Host.Outcome State Fault Refusal :=
  .next (settle (pfStepCompleteOp s))

/-- PF_STEP_TIMEOUT (spec rule R53). -/
def execPfStepTimeout (s : State) : Host.Outcome State Fault Refusal :=
  .next (settle (pfStepTimeoutOp s))

/-- COMMAND_RESET (spec rule R59). -/
def execCommandReset (bench : Bool) (session : Nat) (s : State) : Host.Outcome State Fault Refusal :=
  .next (settle (commandResetOp bench session s))

/-- BOOT_CHECK (spec rule R480). -/
def execBootCheck (s : State) : Host.Outcome State Fault Refusal :=
  .next (settle (bootCheckOp s))

/-- FIRMWARE_START (spec rule R57). -/
def execFirmwareStart (s : State) : Host.Outcome State Fault Refusal :=
  .next (settle (firmwareStartOp s))

/-- START_TASK_BEGIN (spec rule R162). -/
def execStartTaskBegin (s : State) : Host.Outcome State Fault Refusal :=
  .next (settle (startTaskBeginOp s))

/-- START_TASK_TIMEOUT (spec rule R163). -/
def execStartTaskTimeout (s : State) : Host.Outcome State Fault Refusal :=
  .next (settle (startTaskTimeoutOp s))

/-- RESTART_CFG_WRITE (spec rule R61). -/
def execRestartCfgWrite (v : Word) (s : State) : Host.Outcome State Fault Refusal :=
  .next (settle (awake (restartCfgWriteOp v) s))

/-- MRAM_COPY_COMPLETE (spec rule R212). -/
def execMramCopyComplete (s : State) : Host.Outcome State Fault Refusal :=
  .next (settle (mramCopyCompleteOp s))

/-- ALV_EXT_TOGGLE (spec rule R24). -/
def execAlvExtToggle (s : State) : Host.Outcome State Fault Refusal :=
  .next (settle (alvExtToggleOp s))

/-- BACKUP_CAPACITOR_SPENT (spec rule R47). -/
def execBackupCapacitorSpent (s : State) : Host.Outcome State Fault Refusal :=
  .next (settle (backupCapacitorSpentOp s))

end Sys2Proof.Machine
end

