-- ==== Sys2Proof/Machine/ProtectionCmd.lean ====
section
/-! DEFINITION. The meanings of the commands of the protection unit (spec/15): each is its operation, followed by what every command ends with. -/

namespace Sys2Proof.Machine

/-- PROTECTION_RULE_WRITE (spec rule R437). -/
def execProtectionRuleWrite (idx : Nat) (v : Word) (s : State) : Host.Outcome State Fault Refusal :=
  .next (settle (awake (protectionRuleWriteOp idx v) s))

/-- PR_MSEL_WRITE (spec rule R435). -/
def execPrMselWrite (v : Word) (s : State) : Host.Outcome State Fault Refusal :=
  .next (settle (awake (prMselWriteOp v) s))

/-- FIRST_VIOL_CLEAR (spec rule R432). -/
def execFirstViolClear (s : State) : Host.Outcome State Fault Refusal :=
  .next (settle (awake firstViolClearOp s))

/-- PSYNC_DRAIN_COMPLETE (spec rule R433). -/
def execPsyncDrainComplete (task : Nat) (s : State) : Host.Outcome State Fault Refusal :=
  .next (settle (awake (psyncDrainCompleteOp task) s))

end Sys2Proof.Machine
end

