-- ==== Sys2Proof/Machine/PtpCmd.lean ====
section
/-! DEFINITION. The meanings of the commands of network time (spec/12): each is its operation, followed by what every command ends with. -/

namespace Sys2Proof.Machine

/-- PTP_SYNC (spec rule R376). -/
def execPtpSync (offset : Int) (delay : Int) (port2 : Bool) (s : State) : Host.Outcome State Fault Refusal :=
  .next (settle (awake (ptpSyncOp offset delay port2) s))

/-- PTP_ANNOUNCE (spec rule R378). -/
def execPtpAnnounce (port2 : Bool) (g : GmData) (s : State) : Host.Outcome State Fault Refusal :=
  .next (settle (awake (ptpAnnounceOp port2 g) s))

/-- ANNOUNCE_TIMEOUT (spec rule R377). -/
def execAnnounceTimeout (port2 : Bool) (s : State) : Host.Outcome State Fault Refusal :=
  .next (settle (awake (announceTimeoutOp port2) s))

/-- PTP_TRANSIT (spec rule R379). -/
def execPtpTransit (toB : Bool) (residNs : Nat) (s : State) : Host.Outcome State Fault Refusal :=
  .next (settle (awake (ptpTransitOp toB residNs) s))

end Sys2Proof.Machine
end

