-- ==== Sys2Proof/Machine/RecorderCmd.lean ====
section
/-! DEFINITION. The meanings of the commands of the event recorder (spec/15): each is its operation, followed by what every command ends with. -/

namespace Sys2Proof.Machine

/-- RECORDER_FLUSH (spec rule R452). -/
def execRecorderFlush (s : State) : Host.Outcome State Fault Refusal :=
  .next (settle (awake recorderFlushOp s))

/-- RECORDER_FLUSH_TIMER (spec rule R452). -/
def execRecorderFlushTimer (s : State) : Host.Outcome State Fault Refusal :=
  .next (settle (awake recorderFlushTimerOp s))

/-- RATE_INTERVAL_END (spec rule R454). -/
def execRateIntervalEnd (s : State) : Host.Outcome State Fault Refusal :=
  .next (settle (awake rateIntervalEndOp s))

/-- FREEZE (spec rule R455). -/
def execFreeze (s : State) : Host.Outcome State Fault Refusal :=
  .next (settle (awake freezeOp s))

/-- UNFREEZE (spec rule R455). -/
def execUnfreeze (s : State) : Host.Outcome State Fault Refusal :=
  .next (settle (awake unfreezeOp s))

/-- FLUSH (spec rule R455). -/
def execFlush (s : State) : Host.Outcome State Fault Refusal :=
  .next (settle (awake flushOp s))

/-- FREEZE_EXPIRY (spec rule R455). -/
def execFreezeExpiry (s : State) : Host.Outcome State Fault Refusal :=
  .next (settle (awake freezeExpiryOp s))

/-- USER_RECORD (spec rule R456). -/
def execUserRecord (writer : Writer) (v : Word) (s : State) : Host.Outcome State Fault Refusal :=
  .next (settle (awake (userRecordOp writer v) s))

end Sys2Proof.Machine
end

