-- ==== Sys2Proof/Machine/RingCmd.lean ====
section
/-! DEFINITION. The meanings of the commands of the I/O ring (spec/12): each is its operation, followed by what every command ends with. -/

namespace Sys2Proof.Machine

/-- RING_FRAME_FORWARD (spec rule R354). -/
def execRingFrameForward (portB : Bool) (h : RingHdr) (s : State) : Host.Outcome State Fault Refusal :=
  .next (settle (awake (ringFrameForwardOp portB h) s))

/-- WITNESS (spec rule R267). -/
def execWitness (portB : Bool) (h : RingHdr) (b : WitnessBody) (s : State) : Host.Outcome State Fault Refusal :=
  .next (settle (awake (witnessOp portB h b) s))

/-- INPUT (spec rule R363). -/
def execInput (portB : Bool) (h : RingHdr) (b : InputBody) (s : State) : Host.Outcome State Fault Refusal :=
  .next (settle (awake (inputOp portB h b) s))

/-- EVENT (spec rule R366). -/
def execEvent (portB : Bool) (h : RingHdr) (code : Nat) (s : State) : Host.Outcome State Fault Refusal :=
  .next (settle (awake (eventOp portB h code) s))

/-- HELLO (spec rule R356). -/
def execHello (portB : Bool) (h : RingHdr) (b : HelloBody) (s : State) : Host.Outcome State Fault Refusal :=
  .next (settle (awake (helloOp portB h b) s))

/-- ACYC_RSP (spec rule R367). -/
def execAcycRsp (portB : Bool) (h : RingHdr) (tx : Nat) (result : Nat) (bytes : List Byte) (s : State) : Host.Outcome State Fault Refusal :=
  .next (settle (awake (acycRspOp portB h tx result bytes) s))

/-- DISCOVER_SEND (spec rule R356). -/
def execDiscoverSend (s : State) : Host.Outcome State Fault Refusal :=
  .next (settle (awake discoverSendOp s))

/-- RING_PORT_LINK_CHANGE (spec rule R365). -/
def execRingPortLinkChange (portB : Bool) (rate : Nat) (s : State) : Host.Outcome State Fault Refusal :=
  .next (settle (awake (ringPortLinkChangeOp portB rate) s))

/-- ACYC_TRANSACTION_START (spec rule R367). -/
def execAcycTransactionStart (ring : Nat) (s : State) : Host.Outcome State Fault Refusal :=
  .next (settle (awake (acycTransactionStartOp ring) s))

/-- ACYC_TIMEOUT (spec rule R367). -/
def execAcycTimeout (tx : Nat) (s : State) : Host.Outcome State Fault Refusal :=
  .next (settle (awake (acycTimeoutOp tx) s))

/-- RING_SETTING_WRITE (spec rule R384). -/
def execRingSettingWrite (idx : Nat) (v : Word) (s : State) : Host.Outcome State Fault Refusal :=
  .next (settle (awake (ringSettingWriteOp idx v) s))

end Sys2Proof.Machine
end

