-- ==== Sys2Proof/Machine/RingsCmd.lean ====
section
/-! DEFINITION. The meanings of the commands of the system rings and the CRC unit (spec/16): each is its operation, followed by what every command ends with. -/

namespace Sys2Proof.Machine

/-- DESCRIPTOR_TAKE (spec rule R463). -/
def execDescriptorTake (ring : Nat) (s : State) : Host.Outcome State Fault Refusal :=
  .next (settle (awake (descriptorTakeOp ring) s))

/-- RING_CI_WRITE (spec rule R464). -/
def execRingCiWrite (ring : Nat) (v : Word) (s : State) : Host.Outcome State Fault Refusal :=
  .next (settle (awake (ringCiWriteOp ring v) s))

/-- CRC_IN8 (spec rule R471). -/
def execCrcIn8 (ctx : Nat) (v : Word) (s : State) : Host.Outcome State Fault Refusal :=
  .next (settle (awake (crcIn8Op ctx v) s))

/-- CRC_IN16 (spec rule R471). -/
def execCrcIn16 (ctx : Nat) (v : Word) (s : State) : Host.Outcome State Fault Refusal :=
  .next (settle (awake (crcIn16Op ctx v) s))

/-- CRC_IN32 (spec rule R471). -/
def execCrcIn32 (ctx : Nat) (v : Word) (s : State) : Host.Outcome State Fault Refusal :=
  .next (settle (awake (crcIn32Op ctx v) s))

/-- CRC_FEED_PROCESS (spec rule R471). -/
def execCrcFeedProcess (s : State) : Host.Outcome State Fault Refusal :=
  .next (settle (awake crcFeedProcessOp s))

/-- CRC_VALUE_READ (spec rule R472). -/
def execCrcValueRead (ctx : Nat) (result : Bool) (s : State) : Host.Outcome State Fault Refusal :=
  .next (settle (awake (crcValueReadOp ctx result) s))

/-- PLANT_MESSAGE_TIMEOUT (spec rule R469). -/
def execPlantMessageTimeout (s : State) : Host.Outcome State Fault Refusal :=
  .next (settle (awake plantMessageTimeoutOp s))

end Sys2Proof.Machine
end

