-- ==== Sys2Proof/Machine/SchedCmd.lean ====
section
/-! DEFINITION. The meanings of the commands of the scheduler (spec/05): each is its operation, followed by what every command ends with. -/

namespace Sys2Proof.Machine

/-- TICK (spec rule R141). -/
def execTick (s : State) : Host.Outcome State Fault Refusal :=
  .next (settle (awake tickOp s))

/-- TASK_START (spec rule R142). -/
def execTaskStart (s : State) : Host.Outcome State Fault Refusal :=
  .next (settle (awake taskStartOp s))

/-- TASK_PREEMPT (spec rule R144). -/
def execTaskPreempt (s : State) : Host.Outcome State Fault Refusal :=
  .next (settle (awake taskPreemptOp s))

/-- WATCHDOG_EXPIRY (spec rule R147). -/
def execWatchdogExpiry (task : Nat) (s : State) : Host.Outcome State Fault Refusal :=
  .next (settle (awake (watchdogExpiryOp task) s))

/-- EVENT_TRIGGER (spec rule R152). -/
def execEventTrigger (src : Nat) (a : Nat) (s : State) : Host.Outcome State Fault Refusal :=
  .next (settle (awake (eventTriggerOp src a) s))

/-- EVENT_TIMER_EXPIRY (spec rule R154). -/
def execEventTimerExpiry (task : Nat) (s : State) : Host.Outcome State Fault Refusal :=
  .next (settle (awake (eventTimerExpiryOp task) s))

/-- TIMER_ARM (spec rule R154). -/
def execTimerArm (task : Nat) (s : State) : Host.Outcome State Fault Refusal :=
  .next (settle (awake (timerArmOp task) s))

/-- TASK_SETTING_WRITE (spec rule R167). -/
def execTaskSettingWrite (idx : Nat) (v : Word) (s : State) : Host.Outcome State Fault Refusal :=
  .next (settle (awake (taskSettingWriteOp idx v) s))

/-- STAT_SEL_WRITE (spec rule R169). -/
def execStatSelWrite (v : Word) (s : State) : Host.Outcome State Fault Refusal :=
  .next (settle (awake (statSelWriteOp v) s))

/-- CLR_MAX (spec rule R150). -/
def execClrMax (s : State) : Host.Outcome State Fault Refusal :=
  .next (settle (awake clrMaxOp s))

/-- OVR_CLEAR (spec rule R169). -/
def execOvrClear (task : Nat) (s : State) : Host.Outcome State Fault Refusal :=
  .next (settle (awake (ovrClearOp task) s))

end Sys2Proof.Machine
end

