-- ==== Sys2Proof/Machine/ServiceOps.lean ====
section
/-! DEFINITION. The meanings of the Ebgen instructions of calls, services and task control (spec/04). -/

namespace Sys2Proof.Machine

/-- CALL (spec rule R127). -/
def execCall (area : BitVec 4) (t : BitVec 22) (s : State) : Host.Outcome State Fault Refusal :=
  .next (settle (call area t s))

/-- CALLD (spec rule R127). -/
def execCalld (area : BitVec 4) (t : BitVec 22) (w2 : Word) (s : State) : Host.Outcome State Fault Refusal :=
  .next (settle (calld area t w2 s))

/-- RET (spec rule R127). -/
def execRet (o : ArgOpnd) (s : State) : Host.Outcome State Fault Refusal :=
  .next (settle (retInstr (fun _ => true) o s))

/-- RETC (spec rule R127). -/
def execRetc (o : ArgOpnd) (s : State) : Host.Outcome State Fault Refusal :=
  .next (settle (retInstr (fun a => a) o s))

/-- END (spec rule R130). -/
def execEndCycle (o : ArgOpnd) (rep : PassReport) (s : State) : Host.Outcome State Fault Refusal :=
  .next (settle (State.compareAtEnd s (endInstr (fun _ => true) o s) rep))

/-- ENDC (spec rule R130). -/
def execEndc (o : ArgOpnd) (rep : PassReport) (s : State) : Host.Outcome State Fault Refusal :=
  .next (settle (State.compareAtEnd s (endInstr (fun a => a) o s) rep))

/-- ENDCN (spec rule R130). -/
def execEndcn (o : ArgOpnd) (rep : PassReport) (s : State) : Host.Outcome State Fault Refusal :=
  .next (settle (State.compareAtEnd s (endInstr (fun a => !a) o s) rep))

/-- PSYNC (spec rule R132). -/
def execPsync (o : ArgOpnd) (rep : PassReport) (s : State) : Host.Outcome State Fault Refusal :=
  .next (settle (State.compareAtEnd s (psyncInstr o s) rep))

/-- TRIG (spec rule R131). -/
def execTrig (o : ArgOpnd) (s : State) : Host.Outcome State Fault Refusal :=
  .next (settle (fnArg 1 1 0xFFFF (trigOf true) o s))

/-- TRIGC (spec rule R131). -/
def execTrigc (o : ArgOpnd) (s : State) : Host.Outcome State Fault Refusal :=
  .next (settle (fnArg 1 1 0xFFFF (fun c n e => trigOf c.r.ba c n e) o s))

/-- OPN (spec rule R128). -/
def execOpn (o : ArgOpnd) (s : State) : Host.Outcome State Fault Refusal :=
  .next (settle (fnArg 1 0 0xFFFF (fun _ n e => .ok (e.setDsel (BitVec.ofNat 16 n))) o s))

/-- OPNW (spec rule R128). -/
def execOpnw (o : ArgOpnd) (s : State) : Host.Outcome State Fault Refusal :=
  .next (settle (fnArg 1 0 0 (fun c _ e => opnw c e) o s))

/-- NOP (spec rule R129). -/
def execNop (o : ArgOpnd) (s : State) : Host.Outcome State Fault Refusal :=
  .next (settle (regFn (fun _ e => e) o s))

/-- LPRD (spec rule R134). -/
def execLprd (area : BitVec 4) (opd : BitVec 22) (s : State) : Host.Outcome State Fault Refusal :=
  .next (settle (lprd area opd s))

/-- LPWR (spec rule R134). -/
def execLpwr (area : BitVec 4) (opd : BitVec 22) (s : State) : Host.Outcome State Fault Refusal :=
  .next (settle (lpwr area opd s))

/-- RPOST (spec rule R136). -/
def execRpost (o : Opnd) (s : State) : Host.Outcome State Fault Refusal :=
  .next (settle (rpost o s))

end Sys2Proof.Machine
end

