-- ==== Sys2Proof/Machine/UpdateCmd.lean ====
section
/-! DEFINITION. The meanings of the commands of update and bench port (spec/17): each is its operation, followed by what every command ends with. -/

namespace Sys2Proof.Machine

/-- UPDATE (spec rule R478). -/
def execUpdate (m : Manifest) (force : Bool) (s : State) : Host.Outcome State Fault Refusal :=
  .next (settle (updateOp m force s))

/-- FIRMWARE_PART (spec rule R478). -/
def execFirmwarePart (part : Nat) (length : Nat) (digest : BitVec 256) (s : State) : Host.Outcome State Fault Refusal :=
  .next (settle (firmwarePartOp part length digest s))

/-- CLONE_START (spec rule R483). -/
def execCloneStart (s : State) : Host.Outcome State Fault Refusal :=
  .next (settle (cloneStartOp s))

/-- LOAD_STOP (spec rule R488). -/
def execLoadStop (s : State) : Host.Outcome State Fault Refusal :=
  .next (settle (loadStopOp s))

/-- LOAD_STOP_TRANSFER_END (spec rule R488). -/
def execLoadStopTransferEnd (img : Image) (s : State) : Host.Outcome State Fault Refusal :=
  .next (settle (loadStopTransferEndOp img s))

/-- DEBUG_SESSION_OPEN (spec rule R489). -/
def execDebugSessionOpen (s : State) : Host.Outcome State Fault Refusal :=
  .next (settle (debugSessionOpenOp s))

/-- DEBUG_SESSION_END (spec rule R489). -/
def execDebugSessionEnd (s : State) : Host.Outcome State Fault Refusal :=
  .next (settle (debugSessionEndOp s))

/-- DEBUG_READ (spec rule R490). -/
def execDebugRead (space : Nat) (addr : Nat) (s : State) : Host.Outcome State Fault Refusal :=
  .next (settle (debugReadOp space addr s))

/-- DEBUG_WRITE (spec rule R490). -/
def execDebugWrite (space : Nat) (addr : Nat) (data : Word) (s : State) : Host.Outcome State Fault Refusal :=
  .next (settle (debugWriteOp space addr data s))

/-- DEBUG_BREAKPOINT (spec rule R490). -/
def execDebugBreakpoint (idx : Nat) (s : State) : Host.Outcome State Fault Refusal :=
  .next (settle (debugBreakpointOp idx s))

/-- DEBUG_HALT (spec rule R493). -/
def execDebugHalt (s : State) : Host.Outcome State Fault Refusal :=
  .next (settle (debugHaltOp s))

/-- DEBUG_STEP (spec rule R191). -/
def execDebugStep (s : State) : Host.Outcome State Fault Refusal :=
  .next (settle (debugStepOp s))

/-- DEBUG_RESUME (spec rule R192). -/
def execDebugResume (s : State) : Host.Outcome State Fault Refusal :=
  .next (settle (debugResumeOp s))

/-- LOCK_LEVEL_CHANGE (spec rule R491). -/
def execLockLevelChange (level : Nat) (fromBench : Bool) (s : State) : Host.Outcome State Fault Refusal :=
  .next (settle (lockLevelChangeOp level fromBench s))

/-- REGISTER_WRITE (spec rule R8). -/
def execRegisterWrite (writer : Writer) (idx : Nat) (mask : Word) (v : Word) (s : State) : Host.Outcome State Fault Refusal :=
  .next (settle (awake (registerWriteOp writer idx mask v) s))

end Sys2Proof.Machine
end

