-- ==== Sys2Proof/Machine/VeneerCmd.lean ====
section
/-! DEFINITION. The meanings of the commands of the display (spec/14): each is its operation, followed by what every command ends with. -/

namespace Sys2Proof.Machine

/-- REGION_RENDER (spec rule R408). -/
def execRegionRender (region : Nat) (s : State) : Host.Outcome State Fault Refusal :=
  .next (settle (awake (regionRenderOp region) s))

/-- VENEER_UPDATE_START (spec rule R411). -/
def execVeneerUpdateStart (s : State) : Host.Outcome State Fault Refusal :=
  .next (settle (awake veneerUpdateStartOp s))

/-- PHASE_PAIR_COMPLETE (spec rule R413). -/
def execPhasePairComplete (s : State) : Host.Outcome State Fault Refusal :=
  .next (settle (awake phasePairCompleteOp s))

/-- PANEL_TEMP_SAMPLE (spec rule R416). -/
def execPanelTempSample (t : Option Int) (s : State) : Host.Outcome State Fault Refusal :=
  .next (settle (awake (panelTempSampleOp t) s))

/-- FRAMEBUFFER_CHECK (spec rule R417). -/
def execFramebufferCheck (crcCur : Word) (crcTgt : Word) (s : State) : Host.Outcome State Fault Refusal :=
  .next (settle (awake (framebufferCheckOp crcCur crcTgt) s))

/-- FULL_REFRESH_TIMER (spec rule R418). -/
def execFullRefreshTimer (s : State) : Host.Outcome State Fault Refusal :=
  .next (settle (awake fullRefreshTimerOp s))

/-- REFRESH (spec rule R425). -/
def execRefresh (s : State) : Host.Outcome State Fault Refusal :=
  .next (settle (awake refreshOp s))

/-- VENEER_START (spec rule R422). -/
def execVeneerStart (s : State) : Host.Outcome State Fault Refusal :=
  .next (settle (awake veneerStartOp s))

/-- LEGAL_OFFER_TIMEOUT (spec rule R422). -/
def execLegalOfferTimeout (s : State) : Host.Outcome State Fault Refusal :=
  .next (settle (awake legalOfferTimeoutOp s))

/-- VENEER_UPDATE_OVERTIME (spec rule R424). -/
def execVeneerUpdateOvertime (s : State) : Host.Outcome State Fault Refusal :=
  .next (settle (awake veneerUpdateOvertimeOp s))

/-- VENEER_DRIVE_FAULT (spec rule R424). -/
def execVeneerDriveFault (s : State) : Host.Outcome State Fault Refusal :=
  .next (settle (awake veneerDriveFaultOp s))

end Sys2Proof.Machine
end

