-- ==== Sys2Proof/Machine/WordOps.lean ====
section
/-! DEFINITION. The meanings of the Ebgen instructions of word operations (spec/04). -/

namespace Sys2Proof.Machine

/-- LDA (spec rule R110). -/
def execLda (o : Opnd) (s : State) : Host.Outcome State Fault Refusal :=
  .next (settle (withWord 1 o (fun _ m e => .ok (e.setWA m)) s))

/-- LDB (spec rule R110). -/
def execLdb (o : Opnd) (s : State) : Host.Outcome State Fault Refusal :=
  .next (settle (withWord 1 o (fun _ m e => .ok (e.setWB m)) s))

/-- STA (spec rule R110). -/
def execSta (o : Opnd) (s : State) : Host.Outcome State Fault Refusal :=
  .next (settle (storeWord true (fun r _ _ => (r.wa, false)) o s))

/-- STAS (spec rule R112). -/
def execStas (o : Opnd) (s : State) : Host.Outcome State Fault Refusal :=
  .next (settle (storeWord false clampWidth o s))

/-- STB (spec rule R110). -/
def execStb (o : Opnd) (s : State) : Host.Outcome State Fault Refusal :=
  .next (settle (storeWord true (fun r _ _ => (r.wb, false)) o s))

/-- ADD (spec rule R111). -/
def execAdd (o : Opnd) (s : State) : Host.Outcome State Fault Refusal :=
  .next (settle (alu 1 aluAdd o s))

/-- ADDS (spec rule R111). -/
def execAdds (o : Opnd) (s : State) : Host.Outcome State Fault Refusal :=
  .next (settle (alu 1 aluAdds o s))

/-- SUB (spec rule R111). -/
def execSub (o : Opnd) (s : State) : Host.Outcome State Fault Refusal :=
  .next (settle (alu 1 aluSub o s))

/-- SUBS (spec rule R111). -/
def execSubs (o : Opnd) (s : State) : Host.Outcome State Fault Refusal :=
  .next (settle (alu 1 aluSubs o s))

/-- MUL (spec rule R111). -/
def execMul (o : Opnd) (s : State) : Host.Outcome State Fault Refusal :=
  .next (settle (alu 3 aluMul o s))

/-- MULS (spec rule R111). -/
def execMuls (o : Opnd) (s : State) : Host.Outcome State Fault Refusal :=
  .next (settle (alu 3 aluMuls o s))

/-- DIV (spec rule R113). -/
def execDiv (o : Opnd) (s : State) : Host.Outcome State Fault Refusal :=
  .next (settle (withWord 24 o (fun c m e => .ok (e.setDiv (divide false c.r.wa m))) s))

/-- DIVS (spec rule R113). -/
def execDivs (o : Opnd) (s : State) : Host.Outcome State Fault Refusal :=
  .next (settle (withWord 24 o (fun c m e => .ok (e.setDiv (divide true c.r.wa m))) s))

/-- CMP (spec rule R111). -/
def execCmp (o : Opnd) (s : State) : Host.Outcome State Fault Refusal :=
  .next (settle (withWord 1 o (fun _ m e => .ok (e.setCmp m)) s))

/-- WAND (spec rule R110). -/
def execWand (o : Opnd) (s : State) : Host.Outcome State Fault Refusal :=
  .next (settle (alu 1 (fun a m => aluBits (a &&& m)) o s))

/-- WOR (spec rule R110). -/
def execWor (o : Opnd) (s : State) : Host.Outcome State Fault Refusal :=
  .next (settle (alu 1 (fun a m => aluBits (a ||| m)) o s))

/-- WXOR (spec rule R110). -/
def execWxor (o : Opnd) (s : State) : Host.Outcome State Fault Refusal :=
  .next (settle (alu 1 (fun a m => aluBits (a ^^^ m)) o s))

/-- SWAP (spec rule R114). -/
def execSwap (o : ArgOpnd) (s : State) : Host.Outcome State Fault Refusal :=
  .next (settle (regFn (fun c e => (e.setWA c.r.wb).setWB c.r.wa) o s))

/-- MAB (spec rule R114). -/
def execMab (o : ArgOpnd) (s : State) : Host.Outcome State Fault Refusal :=
  .next (settle (regFn (fun c e => e.setWB c.r.wa) o s))

/-- MBA (spec rule R114). -/
def execMba (o : ArgOpnd) (s : State) : Host.Outcome State Fault Refusal :=
  .next (settle (regFn (fun c e => e.setWA c.r.wb) o s))

/-- ADDB (spec rule R114). -/
def execAddb (o : ArgOpnd) (s : State) : Host.Outcome State Fault Refusal :=
  .next (settle (regAlu 1 0 (fun r _ => aluAdd r.wa r.wb) o s))

/-- ADDBS (spec rule R114). -/
def execAddbs (o : ArgOpnd) (s : State) : Host.Outcome State Fault Refusal :=
  .next (settle (regAlu 1 0 (fun r _ => aluAdds r.wa r.wb) o s))

/-- SUBB (spec rule R114). -/
def execSubb (o : ArgOpnd) (s : State) : Host.Outcome State Fault Refusal :=
  .next (settle (regAlu 1 0 (fun r _ => aluSub r.wa r.wb) o s))

/-- SUBBS (spec rule R114). -/
def execSubbs (o : ArgOpnd) (s : State) : Host.Outcome State Fault Refusal :=
  .next (settle (regAlu 1 0 (fun r _ => aluSubs r.wa r.wb) o s))

/-- MULB (spec rule R114). -/
def execMulb (o : ArgOpnd) (s : State) : Host.Outcome State Fault Refusal :=
  .next (settle (regAlu 3 0 (fun r _ => aluMul r.wa r.wb) o s))

/-- MULBS (spec rule R114). -/
def execMulbs (o : ArgOpnd) (s : State) : Host.Outcome State Fault Refusal :=
  .next (settle (regAlu 3 0 (fun r _ => aluMuls r.wa r.wb) o s))

/-- DIVB (spec rule R114). -/
def execDivb (o : ArgOpnd) (s : State) : Host.Outcome State Fault Refusal :=
  .next (settle (regDiv false o s))

/-- DIVBS (spec rule R114). -/
def execDivbs (o : ArgOpnd) (s : State) : Host.Outcome State Fault Refusal :=
  .next (settle (regDiv true o s))

/-- CMPB (spec rule R114). -/
def execCmpb (o : ArgOpnd) (s : State) : Host.Outcome State Fault Refusal :=
  .next (settle (regFn (fun c e => e.setCmp c.r.wb) o s))

/-- NEG (spec rule R114). -/
def execNeg (o : ArgOpnd) (s : State) : Host.Outcome State Fault Refusal :=
  .next (settle (regAlu 1 0 (fun r _ => aluNeg r.wa) o s))

/-- NEGS (spec rule R114). -/
def execNegs (o : ArgOpnd) (s : State) : Host.Outcome State Fault Refusal :=
  .next (settle (regAlu 1 0 (fun r _ => aluNegs r.wa) o s))

/-- ABS (spec rule R114). -/
def execAbs (o : ArgOpnd) (s : State) : Host.Outcome State Fault Refusal :=
  .next (settle (regAlu 1 0 (fun r _ => aluAbs r.wa) o s))

/-- ABSS (spec rule R114). -/
def execAbss (o : ArgOpnd) (s : State) : Host.Outcome State Fault Refusal :=
  .next (settle (regAlu 1 0 (fun r _ => aluAbss r.wa) o s))

/-- NOTW (spec rule R114). -/
def execNotw (o : ArgOpnd) (s : State) : Host.Outcome State Fault Refusal :=
  .next (settle (regAlu 1 0 (fun r _ => aluBits (~~~r.wa)) o s))

/-- SHL (spec rule R114). -/
def execShl (o : ArgOpnd) (s : State) : Host.Outcome State Fault Refusal :=
  .next (settle (regAlu 1 63 (fun r n => aluShl r.wa n) o s))

/-- SHR (spec rule R114). -/
def execShr (o : ArgOpnd) (s : State) : Host.Outcome State Fault Refusal :=
  .next (settle (regAlu 1 63 (fun r n => aluShr r.wa n) o s))

/-- SAR (spec rule R114). -/
def execSar (o : ArgOpnd) (s : State) : Host.Outcome State Fault Refusal :=
  .next (settle (regAlu 1 63 (fun r n => aluSar r.wa n) o s))

/-- SEXT (spec rule R114). -/
def execSext (o : ArgOpnd) (s : State) : Host.Outcome State Fault Refusal :=
  .next (settle (regAlu 1 2 (fun r n => aluSext r.wa n) o s))

/-- ZEXT (spec rule R114). -/
def execZext (o : ArgOpnd) (s : State) : Host.Outcome State Fault Refusal :=
  .next (settle (regAlu 1 2 (fun r n => aluZext r.wa n) o s))

/-- SAT (spec rule R114). -/
def execSat (o : ArgOpnd) (s : State) : Host.Outcome State Fault Refusal :=
  .next (settle (regAlu 1 2 (fun r n => aluSat r.wa n) o s))

/-- USAT (spec rule R114). -/
def execUsat (o : ArgOpnd) (s : State) : Host.Outcome State Fault Refusal :=
  .next (settle (regAlu 1 2 (fun r n => aluUsat r.wa n) o s))

/-- I2Q (spec rule R115). -/
def execI2q (o : ArgOpnd) (s : State) : Host.Outcome State Fault Refusal :=
  .next (settle (regAlu 1 0 (fun r _ => aluI2q r.wa) o s))

/-- Q2I (spec rule R115). -/
def execQ2i (o : ArgOpnd) (s : State) : Host.Outcome State Fault Refusal :=
  .next (settle (regAlu 1 0 (fun r _ => aluQ2i r.wa) o s))

/-- MULQ (spec rule R115). -/
def execMulq (o : ArgOpnd) (s : State) : Host.Outcome State Fault Refusal :=
  .next (settle (regAlu 4 0 (fun r _ => aluMulq r.wa r.wb) o s))

/-- BTW (spec rule R114). -/
def execBtw (o : ArgOpnd) (s : State) : Host.Outcome State Fault Refusal :=
  .next (settle (regFn (fun c e => e.setWA (if c.r.ba then 1 else 0)) o s))

/-- WTB (spec rule R114). -/
def execWtb (o : ArgOpnd) (s : State) : Host.Outcome State Fault Refusal :=
  .next (settle (regFn (fun c e => e.setBA (c.r.wa != 0)) o s))

/-- CLRS (spec rule R114). -/
def execClrs (o : ArgOpnd) (s : State) : Host.Outcome State Fault Refusal :=
  .next (settle (regFn (fun c e => e.setFl { c.r with sov := false }) o s))

/-- CLRF (spec rule R114). -/
def execClrf (o : ArgOpnd) (s : State) : Host.Outcome State Fault Refusal :=
  .next (settle (regFn (fun c e => e.setFl { c.r with sov := false, nf := false, zf := false, cf := false }) o s))

/-- MAX (spec rule R114). -/
def execMax (o : ArgOpnd) (s : State) : Host.Outcome State Fault Refusal :=
  .next (settle (regAlu 1 0 (fun r _ => aluMax r.wa r.wb) o s))

/-- MIN (spec rule R114). -/
def execMin (o : ArgOpnd) (s : State) : Host.Outcome State Fault Refusal :=
  .next (settle (regAlu 1 0 (fun r _ => aluMin r.wa r.wb) o s))

end Sys2Proof.Machine
end

