-- ==== Sys2Proof/Machine/Dispatch.lean ====
section
/-! DEFINITION. One arm per command: a direct call of its meaning. -/

namespace Sys2Proof.Machine

/-- The effect of a command on everything but the queue. -/
def exec (i : Instr) (s : State) : Host.Outcome State Fault Refusal :=
  match i with
  | .moduleInsertion slotId feedA feedB => Sys2Proof.Machine.execModuleInsertion slotId feedA feedB s
  | .resetRelease => Sys2Proof.Machine.execResetRelease s
  | .slotIdInvalidLoader id => Sys2Proof.Machine.execSlotIdInvalidLoader id s
  | .extractionNotice id => Sys2Proof.Machine.execExtractionNotice id s
  | .holdupCharged => Sys2Proof.Machine.execHoldupCharged s
  | .feedOvervoltageDisconnect feedB mv => Sys2Proof.Machine.execFeedOvervoltageDisconnect feedB mv s
  | .domainStartRequest d => Sys2Proof.Machine.execDomainStartRequest d s
  | .domainFirstEdge d ns => Sys2Proof.Machine.execDomainFirstEdge d ns s
  | .domainStartFailed d => Sys2Proof.Machine.execDomainStartFailed d s
  | .pllLockLoss d => Sys2Proof.Machine.execPllLockLoss d s
  | .domainStop d gapNs => Sys2Proof.Machine.execDomainStop d gapNs s
  | .domainAccessStart d => Sys2Proof.Machine.execDomainAccessStart d s
  | .aonCrystalStop => Sys2Proof.Machine.execAonCrystalStop s
  | .timeBackupAlign => Sys2Proof.Machine.execTimeBackupAlign s
  | .refDeviationCheck ppm => Sys2Proof.Machine.execRefDeviationCheck ppm s
  | .feedOutOfRange feedB mv => Sys2Proof.Machine.execFeedOutOfRange feedB mv s
  | .boardLimitExceeded temp railOut => Sys2Proof.Machine.execBoardLimitExceeded temp railOut s
  | .holdupEnergyTest mj => Sys2Proof.Machine.execHoldupEnergyTest mj s
  | .holdupRechargeTimeout => Sys2Proof.Machine.execHoldupRechargeTimeout s
  | .powerFailDetect => Sys2Proof.Machine.execPowerFailDetect s
  | .pfStepComplete => Sys2Proof.Machine.execPfStepComplete s
  | .pfStepTimeout => Sys2Proof.Machine.execPfStepTimeout s
  | .commandReset bench session => Sys2Proof.Machine.execCommandReset bench session s
  | .bootCheck => Sys2Proof.Machine.execBootCheck s
  | .firmwareStart => Sys2Proof.Machine.execFirmwareStart s
  | .startTaskBegin => Sys2Proof.Machine.execStartTaskBegin s
  | .startTaskTimeout => Sys2Proof.Machine.execStartTaskTimeout s
  | .restartCfgWrite v => Sys2Proof.Machine.execRestartCfgWrite v s
  | .mramCopyComplete => Sys2Proof.Machine.execMramCopyComplete s
  | .ld o => Sys2Proof.Machine.execLd o s
  | .ldn o => Sys2Proof.Machine.execLdn o s
  | .and o => Sys2Proof.Machine.execAnd o s
  | .andn o => Sys2Proof.Machine.execAndn o s
  | .or o => Sys2Proof.Machine.execOr o s
  | .orn o => Sys2Proof.Machine.execOrn o s
  | .xor o => Sys2Proof.Machine.execXor o s
  | .xorn o => Sys2Proof.Machine.execXorn o s
  | .andNest o => Sys2Proof.Machine.execAndNest o s
  | .andnNest o => Sys2Proof.Machine.execAndnNest o s
  | .orNest o => Sys2Proof.Machine.execOrNest o s
  | .ornNest o => Sys2Proof.Machine.execOrnNest o s
  | .xorNest o => Sys2Proof.Machine.execXorNest o s
  | .xornNest o => Sys2Proof.Machine.execXornNest o s
  | .closeBracket o => Sys2Proof.Machine.execCloseBracket o s
  | .not o => Sys2Proof.Machine.execNot o s
  | .one o => Sys2Proof.Machine.execOne o s
  | .zero o => Sys2Proof.Machine.execZero o s
  | .ldc o => Sys2Proof.Machine.execLdc o s
  | .andc o => Sys2Proof.Machine.execAndc o s
  | .orc o => Sys2Proof.Machine.execOrc o s
  | .st o => Sys2Proof.Machine.execSt o s
  | .stn o => Sys2Proof.Machine.execStn o s
  | .set o => Sys2Proof.Machine.execSet o s
  | .rst o => Sys2Proof.Machine.execRst o s
  | .jmp area t => Sys2Proof.Machine.execJmp area t s
  | .jc area t => Sys2Proof.Machine.execJc area t s
  | .jcn area t => Sys2Proof.Machine.execJcn area t s
  | .lda o => Sys2Proof.Machine.execLda o s
  | .ldb o => Sys2Proof.Machine.execLdb o s
  | .sta o => Sys2Proof.Machine.execSta o s
  | .stas o => Sys2Proof.Machine.execStas o s
  | .stb o => Sys2Proof.Machine.execStb o s
  | .add o => Sys2Proof.Machine.execAdd o s
  | .adds o => Sys2Proof.Machine.execAdds o s
  | .sub o => Sys2Proof.Machine.execSub o s
  | .subs o => Sys2Proof.Machine.execSubs o s
  | .mul o => Sys2Proof.Machine.execMul o s
  | .muls o => Sys2Proof.Machine.execMuls o s
  | .div o => Sys2Proof.Machine.execDiv o s
  | .divs o => Sys2Proof.Machine.execDivs o s
  | .cmp o => Sys2Proof.Machine.execCmp o s
  | .wand o => Sys2Proof.Machine.execWand o s
  | .wor o => Sys2Proof.Machine.execWor o s
  | .wxor o => Sys2Proof.Machine.execWxor o s
  | .swap o => Sys2Proof.Machine.execSwap o s
  | .mab o => Sys2Proof.Machine.execMab o s
  | .mba o => Sys2Proof.Machine.execMba o s
  | .addb o => Sys2Proof.Machine.execAddb o s
  | .addbs o => Sys2Proof.Machine.execAddbs o s
  | .subb o => Sys2Proof.Machine.execSubb o s
  | .subbs o => Sys2Proof.Machine.execSubbs o s
  | .mulb o => Sys2Proof.Machine.execMulb o s
  | .mulbs o => Sys2Proof.Machine.execMulbs o s
  | .divb o => Sys2Proof.Machine.execDivb o s
  | .divbs o => Sys2Proof.Machine.execDivbs o s
  | .cmpb o => Sys2Proof.Machine.execCmpb o s
  | .neg o => Sys2Proof.Machine.execNeg o s
  | .negs o => Sys2Proof.Machine.execNegs o s
  | .abs o => Sys2Proof.Machine.execAbs o s
  | .abss o => Sys2Proof.Machine.execAbss o s
  | .notw o => Sys2Proof.Machine.execNotw o s
  | .shl o => Sys2Proof.Machine.execShl o s
  | .shr o => Sys2Proof.Machine.execShr o s
  | .sar o => Sys2Proof.Machine.execSar o s
  | .sext o => Sys2Proof.Machine.execSext o s
  | .zext o => Sys2Proof.Machine.execZext o s
  | .sat o => Sys2Proof.Machine.execSat o s
  | .usat o => Sys2Proof.Machine.execUsat o s
  | .i2q o => Sys2Proof.Machine.execI2q o s
  | .q2i o => Sys2Proof.Machine.execQ2i o s
  | .mulq o => Sys2Proof.Machine.execMulq o s
  | .btw o => Sys2Proof.Machine.execBtw o s
  | .wtb o => Sys2Proof.Machine.execWtb o s
  | .clrs o => Sys2Proof.Machine.execClrs o s
  | .clrf o => Sys2Proof.Machine.execClrf o s
  | .max o => Sys2Proof.Machine.execMax o s
  | .min o => Sys2Proof.Machine.execMin o s
  | .ton area opd => Sys2Proof.Machine.execTon area opd s
  | .tof area opd => Sys2Proof.Machine.execTof area opd s
  | .tp area opd => Sys2Proof.Machine.execTp area opd s
  | .trst area opd => Sys2Proof.Machine.execTrst area opd s
  | .ctu area opd => Sys2Proof.Machine.execCtu area opd s
  | .ctd area opd => Sys2Proof.Machine.execCtd area opd s
  | .crs area opd => Sys2Proof.Machine.execCrs area opd s
  | .cld area opd => Sys2Proof.Machine.execCld area opd s
  | .re o => Sys2Proof.Machine.execRe o s
  | .fe o => Sys2Proof.Machine.execFe o s
  | .call area t => Sys2Proof.Machine.execCall area t s
  | .calld area t w2 => Sys2Proof.Machine.execCalld area t w2 s
  | .ret o => Sys2Proof.Machine.execRet o s
  | .retc o => Sys2Proof.Machine.execRetc o s
  | .endCycle o rep => Sys2Proof.Machine.execEndCycle o rep s
  | .endc o rep => Sys2Proof.Machine.execEndc o rep s
  | .endcn o rep => Sys2Proof.Machine.execEndcn o rep s
  | .psync o rep => Sys2Proof.Machine.execPsync o rep s
  | .trig o => Sys2Proof.Machine.execTrig o s
  | .trigc o => Sys2Proof.Machine.execTrigc o s
  | .opn o => Sys2Proof.Machine.execOpn o s
  | .opnw o => Sys2Proof.Machine.execOpnw o s
  | .nop o => Sys2Proof.Machine.execNop o s
  | .lprd area opd => Sys2Proof.Machine.execLprd area opd s
  | .lpwr area opd => Sys2Proof.Machine.execLpwr area opd s
  | .rpost o => Sys2Proof.Machine.execRpost o s
  | .windowCompare rep => Sys2Proof.Machine.execWindowCompare rep s
  | .lpCheckerError found => Sys2Proof.Machine.execLpCheckerError found s
  | .xmodeModeWrite task v => Sys2Proof.Machine.execXmodeModeWrite task v s
  | .mmClr task => Sys2Proof.Machine.execMmClr task s
  | .capClr => Sys2Proof.Machine.execCapClr s
  | .clrPersist => Sys2Proof.Machine.execClrPersist s
  | .tick => Sys2Proof.Machine.execTick s
  | .taskStart => Sys2Proof.Machine.execTaskStart s
  | .taskPreempt => Sys2Proof.Machine.execTaskPreempt s
  | .watchdogExpiry task => Sys2Proof.Machine.execWatchdogExpiry task s
  | .eventTrigger src a => Sys2Proof.Machine.execEventTrigger src a s
  | .eventTimerExpiry task => Sys2Proof.Machine.execEventTimerExpiry task s
  | .timerArm task => Sys2Proof.Machine.execTimerArm task s
  | .taskSettingWrite idx v => Sys2Proof.Machine.execTaskSettingWrite idx v s
  | .statSelWrite v => Sys2Proof.Machine.execStatSelWrite v s
  | .clrMax => Sys2Proof.Machine.execClrMax s
  | .ovrClear task => Sys2Proof.Machine.execOvrClear task s
  | .load img => Sys2Proof.Machine.execLoad img s
  | .ocTransferEnd => Sys2Proof.Machine.execOcTransferEnd s
  | .ocChecksComplete => Sys2Proof.Machine.execOcChecksComplete s
  | .arm => Sys2Proof.Machine.execArm s
  | .abort => Sys2Proof.Machine.execAbort s
  | .revert => Sys2Proof.Machine.execRevert s
  | .resume => Sys2Proof.Machine.execResume s
  | .ocSwitchPoint => Sys2Proof.Machine.execOcSwitchPoint s
  | .ocSwitchComplete ns => Sys2Proof.Machine.execOcSwitchComplete ns s
  | .ocWaitTimeout => Sys2Proof.Machine.execOcWaitTimeout s
  | .ocTrialEnd => Sys2Proof.Machine.execOcTrialEnd s
  | .loopEvaluation => Sys2Proof.Machine.execLoopEvaluation s
  | .loopEvalComplete rep => Sys2Proof.Machine.execLoopEvalComplete rep s
  | .clrLast => Sys2Proof.Machine.execClrLast s
  | .clrStats => Sys2Proof.Machine.execClrStats s
  | .alvOutToggle => Sys2Proof.Machine.execAlvOutToggle s
  | .livenessLapse => Sys2Proof.Machine.execLivenessLapse s
  | .alvEdge => Sys2Proof.Machine.execAlvEdge s
  | .alvDead => Sys2Proof.Machine.execAlvDead s
  | .seatedChange seated => Sys2Proof.Machine.execSeatedChange seated s
  | .claimChange claim => Sys2Proof.Machine.execClaimChange claim s
  | .hbSend => Sys2Proof.Machine.execHbSend s
  | .hb d => Sys2Proof.Machine.execHb d s
  | .hbLost => Sys2Proof.Machine.execHbLost s
  | .dovetailLinkUp => Sys2Proof.Machine.execDovetailLinkUp s
  | .dovetailLinkDown => Sys2Proof.Machine.execDovetailLinkDown s
  | .dovetailFrameDrop seq => Sys2Proof.Machine.execDovetailFrameDrop seq s
  | .nak f => Sys2Proof.Machine.execNak f s
  | .tickRecord h k tt => Sys2Proof.Machine.execTickRecord h k tt s
  | .releaseRecord h task cycle cause => Sys2Proof.Machine.execReleaseRecord h task cycle cause s
  | .inputRecord h task cycle tt cells => Sys2Proof.Machine.execInputRecord h task cycle tt cells s
  | .serviceRecord h task window vals => Sys2Proof.Machine.execServiceRecord h task window vals s
  | .preemptRecord h task count byTask => Sys2Proof.Machine.execPreemptRecord h task count byTask s
  | .hashRecord h task cycle endIdx hash => Sys2Proof.Machine.execHashRecord h task cycle endIdx hash s
  | .extwriteRecord h cells point => Sys2Proof.Machine.execExtwriteRecord h cells point s
  | .mrec h frame => Sys2Proof.Machine.execMrec h frame s
  | .ctrlHandover h tick => Sys2Proof.Machine.execCtrlHandover h tick s
  | .ctrlSyncDropped h cause => Sys2Proof.Machine.execCtrlSyncDropped h cause s
  | .ctrlDetach h => Sys2Proof.Machine.execCtrlDetach h s
  | .ctrlResync h => Sys2Proof.Machine.execCtrlResync h s
  | .ctrlTrialResult h result => Sys2Proof.Machine.execCtrlTrialResult h result s
  | .depart h cause => Sys2Proof.Machine.execDepart h cause s
  | .bulk h d => Sys2Proof.Machine.execBulk h d s
  | .mark h d => Sys2Proof.Machine.execMark h d s
  | .lagTimeout task cycle => Sys2Proof.Machine.execLagTimeout task cycle s
  | .roleDecisionStart => Sys2Proof.Machine.execRoleDecisionStart s
  | .startRecordExchange mode epoch => Sys2Proof.Machine.execStartRecordExchange mode epoch s
  | .roleClaimInstant roleInLow witness => Sys2Proof.Machine.execRoleClaimInstant roleInLow witness s
  | .roleClaimCheck roleInLow witness => Sys2Proof.Machine.execRoleClaimCheck roleInLow witness s
  | .witnessWindowClose => Sys2Proof.Machine.execWitnessWindowClose s
  | .takeoverVerdict alvDead => Sys2Proof.Machine.execTakeoverVerdict alvDead s
  | .handover => Sys2Proof.Machine.execHandover s
  | .detach => Sys2Proof.Machine.execDetach s
  | .resync => Sys2Proof.Machine.execResync s
  | .pairClrStats => Sys2Proof.Machine.execPairClrStats s
  | .ringdownTimeout => Sys2Proof.Machine.execRingdownTimeout s
  | .fence epoch => Sys2Proof.Machine.execFence epoch s
  | .fenceTimeout => Sys2Proof.Machine.execFenceTimeout s
  | .epochReset => Sys2Proof.Machine.execEpochReset s
  | .orphanTimeout => Sys2Proof.Machine.execOrphanTimeout s
  | .resyncPhaseComplete => Sys2Proof.Machine.execResyncPhaseComplete s
  | .resyncPhaseFail => Sys2Proof.Machine.execResyncPhaseFail s
  | .resyncRetry => Sys2Proof.Machine.execResyncRetry s
  | .resyncCutoverPoint => Sys2Proof.Machine.execResyncCutoverPoint s
  | .mpPulseEdge input tNs highNs lowNs => Sys2Proof.Machine.execMpPulseEdge input tNs highNs lowNs s
  | .mortiseCycleEnd m => Sys2Proof.Machine.execMortiseCycleEnd m s
  | .mailboxFrame crcOk => Sys2Proof.Machine.execMailboxFrame crcOk s
  | .mailboxLinkTimeout => Sys2Proof.Machine.execMailboxLinkTimeout s
  | .mortiseRecord => Sys2Proof.Machine.execMortiseRecord s
  | .mortiseHartPoll replies => Sys2Proof.Machine.execMortiseHartPoll replies s
  | .proverDetectorEdge det tNs => Sys2Proof.Machine.execProverDetectorEdge det tNs s
  | .detTimeout => Sys2Proof.Machine.execDetTimeout s
  | .sealOpen => Sys2Proof.Machine.execSealOpen s
  | .sealClose => Sys2Proof.Machine.execSealClose s
  | .stageParameters p => Sys2Proof.Machine.execStageParameters p s
  | .activateParameters => Sys2Proof.Machine.execActivateParameters s
  | .sealedRead what first => Sys2Proof.Machine.execSealedRead what first s
  | .auditArchive upTo => Sys2Proof.Machine.execAuditArchive upTo s
  | .startProve => Sys2Proof.Machine.execStartProve s
  | .abortProve => Sys2Proof.Machine.execAbortProve s
  | .acceptMf => Sys2Proof.Machine.execAcceptMf s
  | .issueTicket => Sys2Proof.Machine.execIssueTicket s
  | .requestTimeout => Sys2Proof.Machine.execRequestTimeout s
  | .timeOffer => Sys2Proof.Machine.execTimeOffer s
  | .legalDisplayOffer => Sys2Proof.Machine.execLegalDisplayOffer s
  | .mortiseSupplyWarning => Sys2Proof.Machine.execMortiseSupplyWarning s
  | .mortiseStart found => Sys2Proof.Machine.execMortiseStart found s
  | .mrtAnswer accept => Sys2Proof.Machine.execMrtAnswer accept s
  | .mrtInstallComplete => Sys2Proof.Machine.execMrtInstallComplete s
  | .partnerMrecTimeout => Sys2Proof.Machine.execPartnerMrecTimeout s
  | .isolationFrame => Sys2Proof.Machine.execIsolationFrame s
  | .isolationFrameMissed => Sys2Proof.Machine.execIsolationFrameMissed s
  | .fieldHoldExpiry => Sys2Proof.Machine.execFieldHoldExpiry s
  | .hostHoldExpiry => Sys2Proof.Machine.execHostHoldExpiry s
  | .diFilteredChange ch level tNs => Sys2Proof.Machine.execDiFilteredChange ch level tNs s
  | .diDebounceComplete ch => Sys2Proof.Machine.execDiDebounceComplete ch s
  | .diWireBreak ch broken => Sys2Proof.Machine.execDiWireBreak ch broken s
  | .diStuckTimeout ch => Sys2Proof.Machine.execDiStuckTimeout ch s
  | .cntClr ch => Sys2Proof.Machine.execCntClr ch s
  | .overrunClear ch => Sys2Proof.Machine.execOverrunClear ch s
  | .doShortOff ch => Sys2Proof.Machine.execDoShortOff ch s
  | .doThermalOff ch => Sys2Proof.Machine.execDoThermalOff ch s
  | .doFaultClear ch => Sys2Proof.Machine.execDoFaultClear ch s
  | .doOpenLoad ch holds => Sys2Proof.Machine.execDoOpenLoad ch holds s
  | .doReadbackMismatch ch holds => Sys2Proof.Machine.execDoReadbackMismatch ch holds s
  | .fldOutOfRange fld => Sys2Proof.Machine.execFldOutOfRange fld s
  | .ucSettleComplete ch => Sys2Proof.Machine.execUcSettleComplete ch s
  | .ucConversion ch val reached short => Sys2Proof.Machine.execUcConversion ch val reached short s
  | .ucOpenSensorTest ch isOpen => Sys2Proof.Machine.execUcOpenSensorTest ch isOpen s
  | .coldJunctionFail reading => Sys2Proof.Machine.execColdJunctionFail reading s
  | .lioSettingWrite idx v => Sys2Proof.Machine.execLioSettingWrite idx v s
  | .hartTransaction ch => Sys2Proof.Machine.execHartTransaction ch s
  | .hartReply ch burst bytes => Sys2Proof.Machine.execHartReply ch burst bytes s
  | .hartReplyTimeout ch => Sys2Proof.Machine.execHartReplyTimeout ch s
  | .ringFrameForward portB h => Sys2Proof.Machine.execRingFrameForward portB h s
  | .witness portB h b => Sys2Proof.Machine.execWitness portB h b s
  | .input portB h b => Sys2Proof.Machine.execInput portB h b s
  | .event portB h code => Sys2Proof.Machine.execEvent portB h code s
  | .hello portB h b => Sys2Proof.Machine.execHello portB h b s
  | .acycRsp portB h tx result bytes => Sys2Proof.Machine.execAcycRsp portB h tx result bytes s
  | .discoverSend => Sys2Proof.Machine.execDiscoverSend s
  | .ringPortLinkChange portB rate => Sys2Proof.Machine.execRingPortLinkChange portB rate s
  | .acycTransactionStart ring => Sys2Proof.Machine.execAcycTransactionStart ring s
  | .acycTimeout tx => Sys2Proof.Machine.execAcycTimeout tx s
  | .ringSettingWrite idx v => Sys2Proof.Machine.execRingSettingWrite idx v s
  | .sessionHandshake rights valid port2 => Sys2Proof.Machine.execSessionHandshake rights valid port2 s
  | .plantDatagram session seq authOk ops => Sys2Proof.Machine.execPlantDatagram session seq authOk ops s
  | .sessionClose session => Sys2Proof.Machine.execSessionClose session s
  | .sessionIdleTimeout session => Sys2Proof.Machine.execSessionIdleTimeout session s
  | .pairAddressAnnounce => Sys2Proof.Machine.execPairAddressAnnounce s
  | .ptpSync offset delay port2 => Sys2Proof.Machine.execPtpSync offset delay port2 s
  | .ptpAnnounce port2 g => Sys2Proof.Machine.execPtpAnnounce port2 g s
  | .announceTimeout port2 => Sys2Proof.Machine.execAnnounceTimeout port2 s
  | .ptpTransit toB residNs => Sys2Proof.Machine.execPtpTransit toB residNs s
  | .canChannelEnable ch => Sys2Proof.Machine.execCanChannelEnable ch s
  | .canChannelDisable ch => Sys2Proof.Machine.execCanChannelDisable ch s
  | .canIntegrationComplete ch => Sys2Proof.Machine.execCanIntegrationComplete ch s
  | .canFrameReceive ch f => Sys2Proof.Machine.execCanFrameReceive ch f s
  | .canFrameSent ch => Sys2Proof.Machine.execCanFrameSent ch s
  | .canBusError ch code data tx dominantAfterFlag => Sys2Proof.Machine.execCanBusError ch code data tx dominantAfterFlag s
  | .canRecoveryStart ch => Sys2Proof.Machine.execCanRecoveryStart ch s
  | .canRecoveryComplete ch => Sys2Proof.Machine.execCanRecoveryComplete ch s
  | .ack ch win seq => Sys2Proof.Machine.execAck ch win seq s
  | .tx ch win => Sys2Proof.Machine.execTx ch win s
  | .abortRequest ch win => Sys2Proof.Machine.execAbortRequest ch win s
  | .abortAll ch => Sys2Proof.Machine.execAbortAll ch s
  | .recReq ch => Sys2Proof.Machine.execRecReq ch s
  | .winSelWrite ch win v => Sys2Proof.Machine.execWinSelWrite ch win v s
  | .canSettingWrite idx v => Sys2Proof.Machine.execCanSettingWrite idx v s
  | .regionRender region => Sys2Proof.Machine.execRegionRender region s
  | .veneerUpdateStart => Sys2Proof.Machine.execVeneerUpdateStart s
  | .phasePairComplete => Sys2Proof.Machine.execPhasePairComplete s
  | .panelTempSample t => Sys2Proof.Machine.execPanelTempSample t s
  | .framebufferCheck crcCur crcTgt => Sys2Proof.Machine.execFramebufferCheck crcCur crcTgt s
  | .fullRefreshTimer => Sys2Proof.Machine.execFullRefreshTimer s
  | .refresh => Sys2Proof.Machine.execRefresh s
  | .veneerStart => Sys2Proof.Machine.execVeneerStart s
  | .legalOfferTimeout => Sys2Proof.Machine.execLegalOfferTimeout s
  | .veneerUpdateOvertime => Sys2Proof.Machine.execVeneerUpdateOvertime s
  | .veneerDriveFault => Sys2Proof.Machine.execVeneerDriveFault s
  | .protectionRuleWrite idx v => Sys2Proof.Machine.execProtectionRuleWrite idx v s
  | .prMselWrite v => Sys2Proof.Machine.execPrMselWrite v s
  | .firstViolClear => Sys2Proof.Machine.execFirstViolClear s
  | .psyncDrainComplete task => Sys2Proof.Machine.execPsyncDrainComplete task s
  | .faultFire n agent d1 d2 => Sys2Proof.Machine.execFaultFire n agent d1 d2 s
  | .faultHandlingEnd cls => Sys2Proof.Machine.execFaultHandlingEnd cls s
  | .blockResetComplete => Sys2Proof.Machine.execBlockResetComplete s
  | .tickConfirmLapse => Sys2Proof.Machine.execTickConfirmLapse s
  | .fcCfgWrite v => Sys2Proof.Machine.execFcCfgWrite v s
  | .fcReactWrite idx v => Sys2Proof.Machine.execFcReactWrite idx v s
  | .clrFirst => Sys2Proof.Machine.execClrFirst s
  | .clrQovf => Sys2Proof.Machine.execClrQovf s
  | .clrCnt => Sys2Proof.Machine.execClrCnt s
  | .fcJig v => Sys2Proof.Machine.execFcJig v s
  | .recorderFlush => Sys2Proof.Machine.execRecorderFlush s
  | .recorderFlushTimer => Sys2Proof.Machine.execRecorderFlushTimer s
  | .rateIntervalEnd => Sys2Proof.Machine.execRateIntervalEnd s
  | .freeze => Sys2Proof.Machine.execFreeze s
  | .unfreeze => Sys2Proof.Machine.execUnfreeze s
  | .flush => Sys2Proof.Machine.execFlush s
  | .freezeExpiry => Sys2Proof.Machine.execFreezeExpiry s
  | .userRecord writer v => Sys2Proof.Machine.execUserRecord writer v s
  | .descriptorTake ring => Sys2Proof.Machine.execDescriptorTake ring s
  | .ringCiWrite ring v => Sys2Proof.Machine.execRingCiWrite ring v s
  | .crcIn8 ctx v => Sys2Proof.Machine.execCrcIn8 ctx v s
  | .crcIn16 ctx v => Sys2Proof.Machine.execCrcIn16 ctx v s
  | .crcIn32 ctx v => Sys2Proof.Machine.execCrcIn32 ctx v s
  | .crcFeedProcess => Sys2Proof.Machine.execCrcFeedProcess s
  | .crcValueRead ctx result => Sys2Proof.Machine.execCrcValueRead ctx result s
  | .update m force => Sys2Proof.Machine.execUpdate m force s
  | .firmwarePart part length digest => Sys2Proof.Machine.execFirmwarePart part length digest s
  | .cloneStart => Sys2Proof.Machine.execCloneStart s
  | .loadStop => Sys2Proof.Machine.execLoadStop s
  | .loadStopTransferEnd img => Sys2Proof.Machine.execLoadStopTransferEnd img s
  | .debugSessionOpen => Sys2Proof.Machine.execDebugSessionOpen s
  | .debugSessionEnd => Sys2Proof.Machine.execDebugSessionEnd s
  | .debugRead space addr => Sys2Proof.Machine.execDebugRead space addr s
  | .debugWrite space addr data => Sys2Proof.Machine.execDebugWrite space addr data s
  | .debugBreakpoint idx => Sys2Proof.Machine.execDebugBreakpoint idx s
  | .debugHalt => Sys2Proof.Machine.execDebugHalt s
  | .debugStep => Sys2Proof.Machine.execDebugStep s
  | .debugResume => Sys2Proof.Machine.execDebugResume s
  | .lockLevelChange level fromBench => Sys2Proof.Machine.execLockLevelChange level fromBench s
  | .registerWrite writer idx mask v => Sys2Proof.Machine.execRegisterWrite writer idx mask v s
  | .hostToFieldFrame valid => Sys2Proof.Machine.execHostToFieldFrame valid s
  | .alvExtToggle => Sys2Proof.Machine.execAlvExtToggle s
  | .plantMessageTimeout => Sys2Proof.Machine.execPlantMessageTimeout s
  | .backupCapacitorSpent => Sys2Proof.Machine.execBackupCapacitorSpent s
  | .canProtocolException ch => Sys2Proof.Machine.execCanProtocolException ch s

end Sys2Proof.Machine
end

