-- ==== Sys2Proof/Machine/Step.lean ====
section
/-! DEFINITION. One step: the command at the front of the queue, or, while none waits, a microsecond of REF. -/

namespace Sys2Proof.Machine

/-- The block with nothing to do: 1 µs passes, and nothing else changes. (DESIGN CHOICE: log entry 2) -/
def State.idle (s : State) : State := { s with ns := s.ns + 1000 }

/-- One step: the command at the front acts on the block with the queue's rest. (DESIGN CHOICE: log entries 2, 75) -/
def step (s : State) : Host.Outcome State Fault Refusal :=
  match s.pending with
  | [] => .next s.idle
  | c :: rest => exec c { s with pending := rest }

/-- The machine with the command that a word spells at the front of its queue; no word spells one. (DESIGN CHOICE: log entry 3) -/
def State.withFetchWord (s : State) (nbits w : Nat) : State :=
  match decodeTableWord nbits w with
  | some c => { s with pending := c :: s.pending }
  | none => s

end Sys2Proof.Machine
end

