-- ==== Sys2Proof/WellFormed.lean ====
section
/-! DEFINITION. Well-formed commands: an operand that names a unit names one that the module has. A command that is not well-formed
stands for no event; its meaning turns it away or takes it as the spec says of the unit. -/

namespace Sys2Proof

namespace WellFormed

/-- SLOT_ID as the four straps give it (spec/01 R17). -/
def isStrap (n : Nat) : Bool := n < 16

/-- A clock domain that the module starts and stops (spec/02 R42). -/
def isDomain (n : Nat) : Bool := 1 ≤ n && n ≤ 14

/-- A task identifier (spec/05 R140). -/
def isTask (n : Nat) : Bool := n < 98

/-- A DI channel (spec/11). -/
def isDi (n : Nat) : Bool := n < 16

/-- A counter of DI0–DI3 (spec/11 R331). -/
def isCounter (n : Nat) : Bool := n < 4

/-- A DO channel (spec/11). -/
def isDo (n : Nat) : Bool := n < 8

/-- A universal channel (spec/11). -/
def isUc (n : Nat) : Bool := n < 8

/-- A CAN channel (spec/13). -/
def isCan (n : Nat) : Bool := n < 2

/-- A buffer window of a CAN channel (spec/13). -/
def isWindow (n : Nat) : Bool := n < 4

/-- A region of the panel (spec/14). -/
def isRegion (n : Nat) : Bool := n < 4

/-- A descriptor ring (spec/16). -/
def isRing (n : Nat) : Bool := n < 32

/-- A context of the CRC unit (spec/16). -/
def isContext (n : Nat) : Bool := n < 8

/-- A fault source (spec/15 R438). -/
def isSource (n : Nat) : Bool := n < 64

/-- A pulse input of the Mortise (spec/10). -/
def isPulseInput (n : Nat) : Bool := n < 4

/-- A prover detector (spec/10 R299). -/
def isDetector (n : Nat) : Bool := n < 2

/-- A firmware part (spec/17). -/
def isPart (n : Nat) : Bool := 1 ≤ n && n ≤ 7

/-- A SPACE of the debug protocol (spec/17 R489). -/
def isSpace (n : Nat) : Bool := n < 16

/-- An ADDRESS of the debug protocol (spec/17 R489). -/
def isAddress (n : Nat) : Bool := n < 2 ^ 48

/-- A lock level (spec/17 R491). -/
def isLevel (n : Nat) : Bool := n < 3

/-- A word of FC_REACT (spec/15 R439). -/
def isReactWord (n : Nat) : Bool := n < 8

end WellFormed

open WellFormed in
/-- Every operand that names a unit names one that the module has. (DESIGN CHOICE: log entry 74) -/
def Instr.wf : Instr → Bool
  | .moduleInsertion slotId0 _ _ => isStrap slotId0
  | .slotIdInvalidLoader id0 => isStrap id0
  | .extractionNotice id0 => isStrap id0
  | .domainStartRequest d0 => isDomain d0
  | .domainFirstEdge d0 _ => isDomain d0
  | .domainStartFailed d0 => isDomain d0
  | .pllLockLoss d0 => isDomain d0
  | .domainStop d0 _ => isDomain d0
  | .domainAccessStart d0 => isDomain d0
  | .xmodeModeWrite task0 _ => isTask task0
  | .mmClr task0 => isTask task0
  | .watchdogExpiry task0 => isTask task0
  | .eventTimerExpiry task0 => isTask task0
  | .timerArm task0 => isTask task0
  | .ovrClear task0 => isTask task0
  | .releaseRecord _ task0 _ _ => isTask task0
  | .inputRecord _ task0 _ _ _ => isTask task0
  | .serviceRecord _ task0 _ _ => isTask task0
  | .preemptRecord _ task0 _ byTask0 => isTask task0 && isTask byTask0
  | .hashRecord _ task0 _ _ _ => isTask task0
  | .lagTimeout task0 _ => isTask task0
  | .mpPulseEdge input0 _ _ _ => isPulseInput input0
  | .proverDetectorEdge det0 _ => isDetector det0
  | .diFilteredChange ch0 _ _ => isDi ch0
  | .diDebounceComplete ch0 => isDi ch0
  | .diWireBreak ch0 _ => isDi ch0
  | .diStuckTimeout ch0 => isDi ch0
  | .cntClr ch0 => isCounter ch0
  | .overrunClear ch0 => isCounter ch0
  | .doShortOff ch0 => isDo ch0
  | .doThermalOff ch0 => isDo ch0
  | .doFaultClear ch0 => isDo ch0
  | .doOpenLoad ch0 _ => isDo ch0
  | .doReadbackMismatch ch0 _ => isDo ch0
  | .ucSettleComplete ch0 => isUc ch0
  | .ucConversion ch0 _ _ _ => isUc ch0
  | .ucOpenSensorTest ch0 _ => isUc ch0
  | .hartTransaction ch0 => isUc ch0
  | .hartReply ch0 _ _ => isUc ch0
  | .hartReplyTimeout ch0 => isUc ch0
  | .acycTransactionStart ring0 => isRing ring0
  | .canChannelEnable ch0 => isCan ch0
  | .canChannelDisable ch0 => isCan ch0
  | .canIntegrationComplete ch0 => isCan ch0
  | .canFrameReceive ch0 _ => isCan ch0
  | .canFrameSent ch0 => isCan ch0
  | .canBusError ch0 _ _ _ _ => isCan ch0
  | .canRecoveryStart ch0 => isCan ch0
  | .canRecoveryComplete ch0 => isCan ch0
  | .ack ch0 win0 _ => isCan ch0 && isWindow win0
  | .tx ch0 win0 => isCan ch0 && isWindow win0
  | .abortRequest ch0 win0 => isCan ch0 && isWindow win0
  | .abortAll ch0 => isCan ch0
  | .recReq ch0 => isCan ch0
  | .winSelWrite ch0 win0 _ => isCan ch0 && isWindow win0
  | .regionRender region0 => isRegion region0
  | .psyncDrainComplete task0 => isTask task0
  | .faultFire n0 _ _ _ => isSource n0
  | .fcReactWrite idx0 _ => isReactWord idx0
  | .descriptorTake ring0 => isRing ring0
  | .ringCiWrite ring0 _ => isRing ring0
  | .crcIn8 ctx0 _ => isContext ctx0
  | .crcIn16 ctx0 _ => isContext ctx0
  | .crcIn32 ctx0 _ => isContext ctx0
  | .crcValueRead ctx0 _ => isContext ctx0
  | .firmwarePart part0 _ _ => isPart part0
  | .debugRead space0 addr0 => isSpace space0 && isAddress addr0
  | .debugWrite space0 addr0 _ => isSpace space0 && isAddress addr0
  | .lockLevelChange level0 _ => isLevel level0
  | .canProtocolException ch0 => isCan ch0
  | .resetRelease | .holdupCharged | .feedOvervoltageDisconnect _ _ | .aonCrystalStop
  | .timeBackupAlign | .refDeviationCheck _ | .feedOutOfRange _ _ | .boardLimitExceeded _ _
  | .holdupEnergyTest _ | .holdupRechargeTimeout | .powerFailDetect | .pfStepComplete
  | .pfStepTimeout | .commandReset _ _ | .bootCheck | .firmwareStart
  | .startTaskBegin | .startTaskTimeout | .restartCfgWrite _ | .mramCopyComplete
  | .ld _ | .ldn _ | .and _ | .andn _
  | .or _ | .orn _ | .xor _ | .xorn _
  | .andNest _ | .andnNest _ | .orNest _ | .ornNest _
  | .xorNest _ | .xornNest _ | .closeBracket _ | .not _
  | .one _ | .zero _ | .ldc _ | .andc _
  | .orc _ | .st _ | .stn _ | .set _
  | .rst _ | .jmp _ _ | .jc _ _ | .jcn _ _
  | .lda _ | .ldb _ | .sta _ | .stas _
  | .stb _ | .add _ | .adds _ | .sub _
  | .subs _ | .mul _ | .muls _ | .div _
  | .divs _ | .cmp _ | .wand _ | .wor _
  | .wxor _ | .swap _ | .mab _ | .mba _
  | .addb _ | .addbs _ | .subb _ | .subbs _
  | .mulb _ | .mulbs _ | .divb _ | .divbs _
  | .cmpb _ | .neg _ | .negs _ | .abs _
  | .abss _ | .notw _ | .shl _ | .shr _
  | .sar _ | .sext _ | .zext _ | .sat _
  | .usat _ | .i2q _ | .q2i _ | .mulq _
  | .btw _ | .wtb _ | .clrs _ | .clrf _
  | .max _ | .min _ | .ton _ _ | .tof _ _
  | .tp _ _ | .trst _ _ | .ctu _ _ | .ctd _ _
  | .crs _ _ | .cld _ _ | .re _ | .fe _
  | .call _ _ | .calld _ _ _ | .ret _ | .retc _
  | .endCycle _ _ | .endc _ _ | .endcn _ _ | .psync _ _
  | .trig _ | .trigc _ | .opn _ | .opnw _
  | .nop _ | .lprd _ _ | .lpwr _ _ | .rpost _
  | .windowCompare _ | .lpCheckerError _ | .capClr | .clrPersist
  | .tick | .taskStart | .taskPreempt | .eventTrigger _ _
  | .taskSettingWrite _ _ | .statSelWrite _ | .clrMax | .load _
  | .ocTransferEnd | .ocChecksComplete | .arm | .abort
  | .revert | .resume | .ocSwitchPoint | .ocSwitchComplete _
  | .ocWaitTimeout | .ocTrialEnd | .loopEvaluation | .loopEvalComplete _
  | .clrLast | .clrStats | .alvOutToggle | .livenessLapse
  | .alvEdge | .alvDead | .seatedChange _ | .claimChange _
  | .hbSend | .hb _ | .hbLost | .dovetailLinkUp
  | .dovetailLinkDown | .dovetailFrameDrop _ | .nak _ | .tickRecord _ _ _
  | .extwriteRecord _ _ _ | .mrec _ _ | .ctrlHandover _ _ | .ctrlSyncDropped _ _
  | .ctrlDetach _ | .ctrlResync _ | .ctrlTrialResult _ _ | .depart _ _
  | .bulk _ _ | .mark _ _ | .roleDecisionStart | .startRecordExchange _ _
  | .roleClaimInstant _ _ | .roleClaimCheck _ _ | .witnessWindowClose | .takeoverVerdict _
  | .handover | .detach | .resync | .pairClrStats
  | .ringdownTimeout | .fence _ | .fenceTimeout | .epochReset
  | .orphanTimeout | .resyncPhaseComplete | .resyncPhaseFail | .resyncRetry
  | .resyncCutoverPoint | .mortiseCycleEnd _ | .mailboxFrame _ | .mailboxLinkTimeout
  | .mortiseRecord | .mortiseHartPoll _ | .detTimeout | .sealOpen
  | .sealClose | .stageParameters _ | .activateParameters | .sealedRead _ _
  | .auditArchive _ | .startProve | .abortProve | .acceptMf
  | .issueTicket | .requestTimeout | .timeOffer | .legalDisplayOffer
  | .mortiseSupplyWarning | .mortiseStart _ | .mrtAnswer _ | .mrtInstallComplete
  | .partnerMrecTimeout | .isolationFrame | .isolationFrameMissed | .fieldHoldExpiry
  | .hostHoldExpiry | .fldOutOfRange _ | .coldJunctionFail _ | .lioSettingWrite _ _
  | .ringFrameForward _ _ | .witness _ _ _ | .input _ _ _ | .event _ _ _
  | .hello _ _ _ | .acycRsp _ _ _ _ _ | .discoverSend | .ringPortLinkChange _ _
  | .acycTimeout _ | .ringSettingWrite _ _ | .sessionHandshake _ _ _ | .plantDatagram _ _ _ _
  | .sessionClose _ | .sessionIdleTimeout _ | .pairAddressAnnounce | .ptpSync _ _ _
  | .ptpAnnounce _ _ | .announceTimeout _ | .ptpTransit _ _ | .canSettingWrite _ _
  | .veneerUpdateStart | .phasePairComplete | .panelTempSample _ | .framebufferCheck _ _
  | .fullRefreshTimer | .refresh | .veneerStart | .legalOfferTimeout
  | .veneerUpdateOvertime | .veneerDriveFault | .protectionRuleWrite _ _ | .prMselWrite _
  | .firstViolClear | .faultHandlingEnd _ | .blockResetComplete | .tickConfirmLapse
  | .fcCfgWrite _ | .clrFirst | .clrQovf | .clrCnt
  | .fcJig _ | .recorderFlush | .recorderFlushTimer | .rateIntervalEnd
  | .freeze | .unfreeze | .flush | .freezeExpiry
  | .userRecord _ _ | .crcFeedProcess | .update _ _ | .cloneStart
  | .loadStop | .loadStopTransferEnd _ | .debugSessionOpen | .debugSessionEnd
  | .debugBreakpoint _ | .debugHalt | .debugStep | .debugResume
  | .registerWrite _ _ _ _ | .hostToFieldFrame _ | .alvExtToggle | .plantMessageTimeout
  | .backupCapacitorSpent => true

end Sys2Proof
end

