-- ==== Sys2Proof/Safety.lean ====
section
/-! DEFINITION. What statements say of a state: its canonical forms, what holds between commands, and when nothing follows a command by
itself. -/

namespace Sys2Proof.Machine

/-- The canonical form of the system words: indices strictly rising from `lo` on, no entry equal to its reset value. -/
def Words.wfFrom : Nat → Words → Bool
  | _, [] => true
  | lo, (i, v) :: t => lo ≤ i && v != resetOf i && Words.wfFrom (i + 1) t

/-- The canonical form of the system words. -/
def Words.wf (l : Words) : Bool := Words.wfFrom 0 l

/-- Program data and system words have their canonical form, so that equal contents are equal data. -/
def State.canonical (s : State) : Bool := Memory.wf s.mem && Words.wf s.words

/-- What holds between commands: no fault source waits for the collector, and no check of the Jig is in progress (spec/15 R438, R450). -/
def State.Settled (s : State) : Prop := s.raised = [] ∧ s.fc.jigNow = false

/-- Nothing follows a command by itself: no source is raised, no trial has failed, the module is no standby that shadows and has no rest of a
standby's stream, its CAN channels have
the mode that its role gives them, no interrupted clone and no stop of ALV_EXT is due. -/
def State.Calm (s : State) : Prop :=
  s.Settled ∧ s.oc.failed = false ∧ s.shadowing = false ∧
    (∀ c < 2, (s.pw.phase = .loader → s.canMode c = 0) ∧ (s.canMode c = 2 → s.isActive = true) ∧ (s.canMode c = 3 → s.isActive = false)) ∧
    (s.pw.phase = .loader → s.pair.cloning = false ∧ s.upd.cloneFails < 3) ∧ (s.pw.alvArmed = true → s.rd F.SCH_STAT_STATE ≠ 3) ∧
    (s.isActive = true → s.pair.releases = [] ∧ s.pair.extwrites = [])

/-- A field of a 32-bit word. -/
def Fld.ok (f : Fld) : Bool := f.lo ≤ f.hi && f.hi < 32

/-- Two fields share no bit. -/
def Fld.Apart (f g : Fld) : Prop := f.idx ≠ g.idx ∨ f.hi < g.lo ∨ g.hi < f.lo

/-- In `t` the fields of `l` hold the values named, and every other field of the system words holds what it held in `s`. -/
def State.Fields (t s : State) (l : List (Fld × Nat)) : Prop :=
  (∀ p ∈ l, t.rd p.1 = p.2) ∧ ∀ f : Fld, f.ok = true → (∀ p ∈ l, f.Apart p.1) → t.rd f = s.rd f

/-- Every system word but those of `l` holds what it held in `s`. -/
def State.OtherWords (t s : State) (l : List Nat) : Prop := ∀ i, i ∉ l → t.word i = s.word i

/-- What `t` has raised beyond `s`, in order: source, agent, D1 and D2. -/
def State.Raised (t s : State) (l : List (Nat × Nat × Nat × Nat)) : Prop :=
  t.raised.map (fun (r : Raise) => (r.src, r.agent, r.d1, r.d2)) = s.raised.map (fun (r : Raise) => (r.src, r.agent, r.d1, r.d2)) ++ l

/-- The Ebgen instructions that do not end their window by themselves: all but END, ENDC, ENDCN and PSYNC (spec/06 R174). -/
def inWindow : Instr → Bool
  | .ld .. | .ldn .. | .and .. | .andn .. | .or .. | .orn .. | .xor .. | .xorn .. | .andNest .. | .andnNest .. | .orNest .. | .ornNest ..
  | .xorNest .. | .xornNest .. | .closeBracket .. | .not .. | .one .. | .zero .. | .ldc .. | .andc .. | .orc .. | .st .. | .stn ..
  | .set .. | .rst .. | .jmp .. | .jc .. | .jcn .. | .lda .. | .ldb .. | .sta .. | .stas .. | .stb .. | .add .. | .adds .. | .sub ..
  | .subs .. | .mul .. | .muls .. | .div .. | .divs .. | .cmp .. | .wand .. | .wor .. | .wxor .. | .swap .. | .mab .. | .mba .. | .addb ..
  | .addbs .. | .subb .. | .subbs .. | .mulb .. | .mulbs .. | .divb .. | .divbs .. | .cmpb .. | .neg .. | .negs .. | .abs .. | .abss ..
  | .notw .. | .shl .. | .shr .. | .sar .. | .sext .. | .zext .. | .sat .. | .usat .. | .i2q .. | .q2i .. | .mulq .. | .btw .. | .wtb ..
  | .clrs .. | .clrf .. | .max .. | .min .. | .ton .. | .tof .. | .tp .. | .trst .. | .ctu .. | .ctd .. | .crs .. | .cld .. | .re ..
  | .fe .. | .call .. | .calld .. | .ret .. | .retc .. | .trig .. | .trigc .. | .opn .. | .opnw .. | .nop .. | .lprd .. | .lpwr ..
  | .rpost .. => true
  | _ => false

/-- The task whose window takes the next instruction, in an open window with room for `need` entries, at an index inside the code
(spec/03 R95; spec/06 R174, R179). -/
def State.LpReady (s : State) (t need : Nat) : Prop :=
  s.lpTask = some t ∧ (s.curWin t).entries + need ≤ 256 ∧ (s.rt t).regs.ip.toNat < s.codeLen

/-- What an instruction of task `t` sees. -/
def State.lpCtx (s : State) (t : Nat) : LpCtx := ⟨s, t, (s.rt t).regs, (s.rt t).calls⟩

/-- The command runs, and what it leaves before the fault collector has its turn (`settle`) holds `P`. -/
def State.Does (s : State) (c : Instr) (P : State → Prop) : Prop := ∃ t, exec c s = .next (settle t) ∧ P t

/-- The instruction runs with an effect on task `t` that holds `P`. -/
def State.LpDoes (s : State) (t : Nat) (i : Instr) (P : Eff → Prop) : Prop :=
  ∃ e, exec i s = .next (settle (s.applyEff t (s.curWin t) e)) ∧ P e

/-- The instruction meets a program fault of a cause and takes `base` cycles (spec/03 R96, R97): the window closes with it. -/
def State.LpFaults (s : State) (t : Nat) (i : Instr) (cause base : Nat) : Prop :=
  exec i s = .next (settle (s.applyFault t (s.curWin t) cause base))

/-- The registers of a task, and the same with IP past `n` words. -/
def State.regs (s : State) (t : Nat) : Regs := (s.rt t).regs
def Regs.past (r : Regs) (n : Nat) : Regs := { r with ip := r.ip + BitVec.ofNat 22 n }

/-- The effect is on registers alone: they become `r`, the call stack stays, nothing is logged, the window stays open. -/
def Eff.only (e : Eff) (s : State) (t : Nat) (s1 : State) (r : Regs) : Prop :=
  e.s = s1 ∧ e.r = r ∧ e.calls = (s.rt t).calls ∧ e.log = [] ∧ e.path = [] ∧ e.close = none

/-- The effect is on registers and the log: the entries `l` are logged, the call stack stays, the window stays open. -/
def Eff.logs (e : Eff) (s : State) (t : Nat) (s1 : State) (r : Regs) (l : List LogEntry) : Prop :=
  e.s = s1 ∧ e.r = r ∧ e.calls = (s.rt t).calls ∧ e.log = l ∧ e.path = [] ∧ e.close = none

/-- The window of running task `t` is closed as it fills, without a fault, and nothing but its resolution is due. -/
def State.WindowDue (s : State) (t : Nat) (w : Win) : Prop :=
  s.awake = true ∧ s.sch.running = some t ∧ s.lp.win = some w ∧ w.task = t ∧ t < 98 ∧ (w.closed = some .full ∨ w.closed = some .buffer) ∧
    w.fault = none ∧ s.lp.stopped = false ∧ s.lp.stepping = false ∧ s.on F.FC_JIG_STAT_ARMED = false

/-- A numbered Dovetail frame arrives in order, and its epoch and ACK are known already (spec/09 R254, R256, R275). -/
def State.Accepts (s : State) (h : DtHdr) : Prop :=
  s.awake = true ∧ s.on F.DT_STAT_LINK_UP = true ∧ s.pairUp = true ∧ s.dtMute = false ∧ s.on F.FC_JIG_STAT_ARMED = false ∧
    h.seq = s.pair.rxSeq + 1 ∧ h.ack ≤ s.pair.acked ∧ h.epoch ≤ s.epoch ∧ h.epoch ≤ s.rd F.EPOCH_SEEN

/-- The state after the frame itself has been taken. -/
def State.took (s : State) (h : DtHdr) : State := { s with pair := { s.pair with rxSeq := h.seq, naks := 0, inOpen := none } }

/-- A standby that is synchronised and has no trial and no resynchronisation under way. -/
def State.InSync (s : State) : Prop := s.role = roleSync ∧ s.on F.OC_STAT_TRIAL = false ∧ s.oc.toTrial = false ∧ s.rd F.RESYNC_STAT_PHASE = 0

/-- Synchronisation is dropped with a cause of Table 9-5 (spec/09 R262). -/
def State.Dropped (u s : State) (cause : Nat) : Prop :=
  u.role = roleUnsync ∧ u.rd F.SYNC_INFO_CAUSE = cause ∧ u.rd F.SYNC_INFO_LOSSES = min F.SYNC_INFO_LOSSES.max (s.rd F.SYNC_INFO_LOSSES + 1) ∧
    ∃ x ∈ u.raised, x.src = 26 ∧ x.d1 = cause

/-- The module has taken over: it acts on the plant with the next epoch, and FS24 is raised (spec/09 R270). -/
def State.TookOver (u s : State) (kind : Nat) : Prop :=
  u.isActive = true ∧ u.epoch = s.rd F.EPOCH_SEEN + 1 ∧ u.rd F.LAST_TAKEOVER_KIND = kind ∧
    u.rd F.TAKEOVER_CNT = min F.TAKEOVER_CNT.max (s.rd F.TAKEOVER_CNT + 1) ∧ u.pw.roleOut = true ∧ ∃ x ∈ u.raised, x.src = 24 ∧ x.d1 = kind

/-- The first valid copy of a ring frame of a kind arrives from another sender, with an epoch that is known already (spec/12 R354, R355). -/
def State.RingFirst (s : State) (h : RingHdr) (kind : Nat) : Prop :=
  s.awake = true ∧ s.netUp = true ∧ h.valid = true ∧ h.kind = kind ∧ s.ownFrame h = false ∧ h.epoch ≤ s.epoch ∧ h.epoch ≤ s.rd F.EPOCH_SEEN ∧
    (h.src, h.epoch, h.cycle, h.seq) ∉ s.ring.seen

end Sys2Proof.Machine
end

