-- ==== Sys2Proof/Certificates/Slice0/Obligations.lean ====
section
/-! DEFINITION. The statements about the model. -/

open Sys2Proof Sys2Proof.Machine

/-- A step takes the command at the front of the queue and runs it on the block with the queue's rest. -/
def Obligations.StepTakesFront : Prop :=
  ∀ (c : Instr) (rest : List Instr) (s : State), s.pending = c :: rest → step s = exec c { s with pending := rest }

/-- With no command waiting a step lets 1 µs of REF pass and changes nothing else (the model's choice, log entry 2); no word spells a command, and
placing one changes nothing: the opcode table gives no row bits. -/
def Obligations.IdleAndWords : Prop :=
  (∀ s : State, s.pending = [] → step s = .next { s with ns := s.ns + 1000 }) ∧
  (∀ (s : State) (nbits w : Nat), decodeTableWord nbits w = none ∧ s.withFetchWord nbits w = s)

/-- Every command of the table completes in every state, and then no raised fault source waits for the collector and no check of the Jig is in progress
(R438, R450); every step keeps that. -/
def Obligations.SettledKept : Prop :=
  (∀ (c : Instr) (s : State), ∃ t, exec c s = .next t ∧ t.Settled) ∧ ∀ s t : State, s.Settled → step s = .next t → t.Settled

/-- Every step keeps the canonical forms of program data and system words: equal contents are equal data. -/
def Obligations.CanonicalKept : Prop := ∀ s t : State, s.canonical = true → step s = .next t → t.canonical = true

/-- Both hold after reset. -/
def Obligations.InvariantsAtReset : Prop := State.reset.Settled ∧ State.reset.canonical = true

/-- Where nothing follows a command by itself, the end of the command changes nothing: its own effect is the next state. -/
def Obligations.CalmStays : Prop := ∀ s : State, s.Calm → settle s = s

/-! ## Ebgen: bit logic (spec/03) -/

/-- Load and combine (R84, Table 3-8): BA becomes what the table gives for BA and the operand's bit; no other register changes but IP, nothing
is logged; one cycle a word. -/
def Obligations.LoadAndCombine : Prop :=
  ∀ p ∈ ([(.ld, fun _ b => b), (.ldn, fun _ b => !b), (.and, fun a b => a && b), (.andn, fun a b => a && !b), (.or, fun a b => a || b),
      (.orn, fun a b => a || !b), (.xor, fun a b => a != b), (.xorn, fun a b => a == b)] : List ((Opnd → Instr) × (Bool → Bool → Bool))),
    ∀ (s : State) (t : Nat) (o : Opnd) (b : BitTgt) (v : Bool) (s1 : State) (x : Nat) (sv : List Nat),
      s.LpReady t 0 → bitOperand (s.lpCtx t) o bitReadAreas = .ok b → readBit (s.lpCtx t) b = .got v s1 x sv →
      s.LpDoes t (p.1 o) fun e =>
        e.only s t s1 { (s.regs t).past (o.words false) with ba := p.2 (s.regs t).ba v } ∧ e.cyc = o.words false ∧ e.extra = x

/-- Nest open (R85, R86, Table 3-10): (BA, NEG, OP) is pushed and BA takes the operand's bit; at depth 16 the instruction is the fault
NEST_OVERFLOW.
")" (R85, R86): the innermost entry leaves the nest stack and BA is what its operation gives; at depth 0 the fault NEST_UNDERFLOW. -/
def Obligations.Nesting : Prop :=
  (∀ p ∈ ([(.andNest, false, 1), (.andnNest, true, 1), (.orNest, false, 2), (.ornNest, true, 2), (.xorNest, false, 3),
      (.xornNest, true, 3)] : List ((Opnd → Instr) × Bool × Nat)),
    ∀ (s : State) (t : Nat) (o : Opnd) (b : BitTgt) (v : Bool) (s1 : State) (x : Nat) (sv : List Nat),
      s.LpReady t 0 → bitOperand (s.lpCtx t) o bitReadAreas = .ok b → readBit (s.lpCtx t) b = .got v s1 x sv →
      ((s.regs t).ns.length < 16 → s.LpDoes t (p.1 o) fun e =>
        e.only s t s1 { (s.regs t).past (o.words false) with
          ba := v, ns := BitVec.ofNat 4 (8 * bitNat (s.regs t).ba + 4 * bitNat p.2.1 + p.2.2) :: (s.regs t).ns } ∧
        e.cyc = o.words false ∧ e.extra = x) ∧
      (16 ≤ (s.regs t).ns.length → s.LpFaults t (p.1 o) 7 (o.words false))) ∧
  (∀ (s : State) (t : Nat), s.LpReady t 0 →
    ((s.regs t).ns = [] → s.LpFaults t (.closeBracket ⟨0, 0, 0⟩) 8 1) ∧
    (∀ (saved neg : Bool) (op : Nat) (rest : List (BitVec 4)), 1 ≤ op → op ≤ 3 →
      (s.regs t).ns = BitVec.ofNat 4 (8 * bitNat saved + 4 * bitNat neg + op) :: rest →
      s.LpDoes t (.closeBracket ⟨0, 0, 0⟩) fun e =>
        let r := (s.regs t).ba != neg
        e.only s t s { (s.regs t).past 1 with
          ns := rest, ba := if op = 1 then saved && r else if op = 2 then saved || r else saved != r } ∧ e.cyc = 1))

/-- The accumulator functions (R89, R90, Tables 3-9 and 3-11): BA from BA and the condition; the flags stay; the ten conditions.
OP 0x13 with AREA not 0 is ILLEGAL_AREA; with a reserved condition code, or a condition where none is taken, ILLEGAL_FIELD (R89, R90). -/
def Obligations.Accumulator : Prop :=
  (∀ p ∈ ([(.not, fun a _ => !a), (.one, fun _ _ => true), (.zero, fun _ _ => false)] : List ((FnOpnd → Instr) × (Bool → Bool → Bool))),
  ∀ q ∈ ([(.ldc, fun _ k => k), (.andc, fun a k => a && k), (.orc, fun a k => a || k)] : List ((FnOpnd → Instr) × (Bool → Bool → Bool))),
  ∀ (s : State) (t : Nat) (k : BitVec 4), s.LpReady t 0 → k.toNat < 10 →
    (s.LpDoes t (p.1 ⟨0, 0, 0⟩) fun e => e.only s t s { (s.regs t).past 1 with ba := p.2 (s.regs t).ba false } ∧ e.cyc = 1) ∧
    (s.LpDoes t (q.1 ⟨0, 0, k⟩) fun e =>
      e.only s t s { (s.regs t).past 1 with ba := q.2 (s.regs t).ba ((s.regs t).cond k.toNat) } ∧ e.cyc = 1)) ∧
  ((∀ r : Regs, (List.range 10).map r.cond =
    [r.zf, !r.zf, r.nf, !r.nf, !r.nf && !r.zf, r.nf || r.zf, r.cf, !r.cf, r.sov, !r.sov]) ∧
  ∀ p ∈ ([.closeBracket, .not, .one, .zero] : List (FnOpnd → Instr)), ∀ q ∈ ([.ldc, .andc, .orc] : List (FnOpnd → Instr)),
  ∀ (s : State) (t : Nat) (o : FnOpnd), s.LpReady t 0 →
    (o.area ≠ 0 → s.LpFaults t (p o) 2 1 ∧ s.LpFaults t (q o) 2 1) ∧
    (o.area = 0 → o.rest ≠ 0 ∨ o.cond ≠ 0 → s.LpFaults t (p o) 3 1) ∧
    (o.area = 0 → o.rest ≠ 0 ∨ 10 ≤ o.cond.toNat → s.LpFaults t (q o) 3 1))

/-- The bit stores (R91, R92, Table 3-12): ST and STN log a write of BA or its complement; SET and RST log a write only with BA = 1; no register
changes but IP. -/
def Obligations.BitStores : Prop :=
  ∀ p ∈ ([(.st, fun a => some a), (.stn, fun a => some !a), (.set, fun a => if a then some true else none),
      (.rst, fun a => if a then some false else none)] : List ((Opnd → Instr) × (Bool → Option Bool))),
    ∀ (s : State) (t : Nat) (o : Opnd) (l : Loc) (n i : Nat), s.LpReady t 1 →
      (bitOperand (s.lpCtx t) o storeAreas = .ok (.mem l i) → s.LpDoes t (p.1 o) fun e =>
        e.logs s t s ((s.regs t).past (o.words false)) (((p.2 (s.regs t).ba).map fun v => LogEntry.memBit l i v).toList)) ∧
      (bitOperand (s.lpCtx t) o storeAreas = .ok (.sys n i) → s.LpDoes t (p.1 o) fun e =>
        e.logs s t s ((s.regs t).past (o.words false)) (((p.2 (s.regs t).ba).map fun v => LogEntry.sysBit n i v).toList))

/-- An operand that a rule refuses is the program fault it names, whatever BA holds (R72, R73, R81, R82, R97): the bit instructions.
A word operand that a rule refuses is the program fault it names (R100–R104, R107): the loads and the arithmetic.
The word stores with an operand that a rule refuses (R105, R107), and the functions of OP 0x2B and OP 0x19: an AREA other than 0 is ILLEGAL_AREA, an
argument out of range, or one where none is taken, ILLEGAL_FIELD (R114, R129).
A timer or counter operand that a rule refuses is the fault it names, ILLEGAL_AREA for another area (R118, R119, R123). -/
def Obligations.OperandFaults : Prop :=
  (∀ p ∈ ([(.ld, 0, bitReadAreas), (.ldn, 0, bitReadAreas), (.and, 0, bitReadAreas), (.andn, 0, bitReadAreas), (.or, 0, bitReadAreas),
      (.orn, 0, bitReadAreas), (.xor, 0, bitReadAreas), (.xorn, 0, bitReadAreas), (.andNest, 0, bitReadAreas), (.andnNest, 0, bitReadAreas),
      (.orNest, 0, bitReadAreas), (.ornNest, 0, bitReadAreas), (.xorNest, 0, bitReadAreas), (.xornNest, 0, bitReadAreas), (.st, 1, storeAreas),
      (.stn, 1, storeAreas), (.set, 1, storeAreas), (.rst, 1, storeAreas), (.re, 1, edgeAreas), (.fe, 1, edgeAreas)] :
      List ((Opnd → Instr) × Nat × List Nat)),
    ∀ (s : State) (t : Nat) (o : Opnd) (cause : Nat), s.LpReady t p.2.1 → bitOperand (s.lpCtx t) o p.2.2 = .error cause →
      s.LpFaults t (p.1 o) cause (o.words false)) ∧
  (∀ p ∈ ([(.lda, 1), (.ldb, 1), (.add, 1), (.adds, 1), (.sub, 1), (.subs, 1), (.mul, 3), (.muls, 3), (.div, 24), (.divs, 24), (.cmp, 1),
      (.wand, 1), (.wor, 1), (.wxor, 1)] : List ((Opnd → Instr) × Nat)),
    ∀ (s : State) (t : Nat) (o : Opnd) (cause : Nat), s.LpReady t 0 → wordOperand (s.lpCtx t) o bitReadAreas false = .error cause →
      s.LpFaults t (p.1 o) cause (p.2 + (o.words true - 1))) ∧
  ((∀ p ∈ ([(.sta, true), (.stas, false), (.stb, true)] : List ((Opnd → Instr) × Bool)),
    ∀ (s : State) (t : Nat) (o : Opnd) (cause : Nat), s.LpReady t 1 → wordOperand (s.lpCtx t) o storeAreas p.2 = .error cause →
      s.LpFaults t (p.1 o) cause (o.words true)) ∧
  ∀ (s : State) (t : Nat) (o : ArgOpnd) (rep : PassReport), s.LpReady t 1 →
    let b := (s.regs t).ba
    let bad := fun (i : Instr) (lim base : Nat) =>
      (o.area ≠ 0 → s.LpFaults t i 2 base) ∧ (o.area = 0 → lim < o.arg.toNat → s.LpFaults t i 3 base)
    (∀ i ∈ [Instr.swap o, .mab o, .mba o, .addb o, .addbs o, .subb o, .subbs o, .cmpb o, .neg o, .negs o, .abs o, .abss o, .notw o, .i2q o, .q2i o,
      .btw o, .wtb o, .clrs o, .clrf o, .max o, .min o, .psync o rep, .opnw o, .nop o], bad i 0 1) ∧
    (∀ p ∈ [(Instr.mulb o, 3), (.mulbs o, 3), (.divb o, 24), (.divbs o, 24), (.mulq o, 4), (.ret o, 3), (.retc o, if b then 3 else 1),
      (.endCycle o rep, 2), (.endc o rep, if b then 2 else 1), (.endcn o rep, if b then 1 else 2)], bad p.1 0 p.2) ∧
    (∀ i ∈ [Instr.shl o, .shr o, .sar o], bad i 63 1) ∧ (∀ i ∈ [Instr.sext o, .zext o, .sat o, .usat o], bad i 2 1) ∧
    (∀ i ∈ [Instr.trig o, .trigc o, .opn o], o.area ≠ 0 → s.LpFaults t i 2 1)) ∧
  (∀ p ∈ ([(.ton, 5, 4, 4), (.tof, 5, 4, 4), (.tp, 5, 4, 4), (.trst, 5, 3, 2), (.ctu, 6, 3, 3), (.ctd, 6, 2, 3), (.crs, 6, 2, 2),
      (.cld, 6, 2, 2)] : List ((BitVec 4 → BitVec 22 → Instr) × Nat × Nat × Nat)),
    ∀ (s : State) (t : Nat) (a : BitVec 4) (k : BitVec 22), s.LpReady t p.2.2.1 →
      (a.toNat ≠ p.2.1 → s.LpFaults t (p.1 a k) 2 p.2.2.2) ∧
      (a.toNat = p.2.1 → 8192 ≤ k.toNat → s.LpFaults t (p.1 a k) 3 p.2.2.2))

/-- The jumps (R93, R94, Table 3-13): taken, IP becomes the target in three cycles, or JUMP_RANGE beyond the code; not taken, IP goes on in one; an AREA other
than 0 is ILLEGAL_AREA. -/
def Obligations.Jumps : Prop :=
  ∀ p ∈ ([(.jmp, fun _ => true), (.jc, fun a => a), (.jcn, fun a => !a)] : List ((BitVec 4 → BitVec 22 → Instr) × (Bool → Bool))),
    ∀ (s : State) (t : Nat) (k : BitVec 22), s.LpReady t 0 →
      (p.2 (s.regs t).ba = true → k.toNat < s.codeLen → s.LpDoes t (p.1 0 k) fun e =>
        e.s = s ∧ e.r = { s.regs t with ip := k } ∧ e.calls = (s.rt t).calls ∧ e.log = [] ∧ e.cyc = 3) ∧
      (p.2 (s.regs t).ba = true → s.codeLen ≤ k.toNat → s.LpFaults t (p.1 0 k) 6 3) ∧
      (p.2 (s.regs t).ba = false → s.LpDoes t (p.1 0 k) fun e => e.only s t s ((s.regs t).past 1) ∧ e.cyc = 1) ∧
      ∀ a, a ≠ 0 → s.LpFaults t (p.1 a k) 2 (if p.2 (s.regs t).ba then 3 else 1)

/-! ## Ebgen: words (spec/04) -/

/-- Wrapping arithmetic (R111): the result is the sum, difference or product modulo 2^64; SOV is set exactly on signed overflow; CF is the
unsigned carry or borrow, and a product leaves it. -/
def Obligations.WrapArithmetic : Prop :=
  ∀ a b : Word64,
    ((aluAdd a b).res = a + b ∧ (aluAdd a b).sov = BitVec.saddOverflow a b ∧ (aluAdd a b).cf = some (BitVec.uaddOverflow a b)) ∧
    ((aluSub a b).res = a - b ∧ (aluSub a b).sov = BitVec.ssubOverflow a b ∧ (aluSub a b).cf = some (BitVec.usubOverflow a b)) ∧
    ((aluMul a b).res = a * b ∧ (aluMul a b).sov = BitVec.smulOverflow a b ∧ (aluMul a b).cf = none)

/-- Saturating arithmetic (R111): the result is the wrapped one if it fits, else the limit on the exact result's side, and SOV says so. -/
def Obligations.SaturateArithmetic : Prop :=
  ∀ (a b : Word64) (x : Int) (r : Alu),
    (x, r) ∈ [(a.toInt + b.toInt, aluAdds a b), (a.toInt - b.toInt, aluSubs a b), (a.toInt * b.toInt, aluMuls a b)] →
    (x < -2 ^ 63 → r.res.toInt = -2 ^ 63 ∧ r.sov = true) ∧ (2 ^ 63 ≤ x → r.res.toInt = 2 ^ 63 - 1 ∧ r.sov = true) ∧
    (-2 ^ 63 ≤ x → x < 2 ^ 63 → r.res.toInt = x ∧ r.sov = false)

/-- Division (R113): truncated towards zero with the remainder of the dividend's sign; the two fixed cases set SOV.
The Q8.24 functions (R115): a value is clamped to 32 bits with SOV, a quotient by 2^24 is rounded half away from zero. -/
def Obligations.DivisionAndFormats : Prop :=
  (∀ (sat : Bool) (a b : Word64),
    (b = 0 → (divide sat a b).2 = 0 ∧ (divide sat a b).1.sov = true ∧
      (divide sat a b).1.res.toInt = if 0 < a.toInt then 2 ^ 63 - 1 else if a.toInt < 0 then -2 ^ 63 else 0) ∧
    (a.toInt = -2 ^ 63 → b.toInt = -1 → (divide sat a b).2 = 0 ∧ (divide sat a b).1.sov = true ∧
      (divide sat a b).1.res.toInt = if sat then 2 ^ 63 - 1 else -2 ^ 63) ∧
    (b ≠ 0 → ¬(a.toInt = -2 ^ 63 ∧ b.toInt = -1) → (divide sat a b).1.sov = false ∧
      (divide sat a b).1.res.toInt = a.toInt.tdiv b.toInt ∧ (divide sat a b).2.toInt = a.toInt.tmod b.toInt)) ∧
  (∀ a b : Word64,
    ((aluI2q a).res.toInt = max (-2 ^ 31) (min (2 ^ 31 - 1) (a.toInt * 2 ^ 24)) ∧
      ((aluI2q a).sov = true ↔ a.toInt * 2 ^ 24 < -2 ^ 31 ∨ 2 ^ 31 ≤ a.toInt * 2 ^ 24)) ∧
    (let half := fun (x : Int) => if 0 ≤ x then (x + 2 ^ 23) / 2 ^ 24 else -((-x + 2 ^ 23) / 2 ^ 24)
     let r := half (a.toInt * b.toInt)
     (aluQ2i a).res.toInt = half a.toInt ∧ (aluQ2i a).sov = false ∧
     (aluMulq a b).res.toInt = max (-2 ^ 31) (min (2 ^ 31 - 1) r) ∧ ((aluMulq a b).sov = true ↔ r < -2 ^ 31 ∨ 2 ^ 31 ≤ r)))

/-- Loads and arithmetic with a word operand m (R110, Table 4-4): WA and the flags become what the operation gives, ZF and NF those of the
result, CF where it writes it, SOV never cleared; no other register changes but IP. -/
def Obligations.WordArithmetic : Prop :=
  ∀ p ∈ ([(.add, 1, aluAdd), (.adds, 1, aluAdds), (.sub, 1, aluSub), (.subs, 1, aluSubs), (.mul, 3, aluMul), (.muls, 3, aluMuls),
      (.wand, 1, fun a m => ⟨a &&& m, none, false⟩), (.wor, 1, fun a m => ⟨a ||| m, none, false⟩),
      (.wxor, 1, fun a m => ⟨a ^^^ m, none, false⟩)] : List ((Opnd → Instr) × Nat × (Word64 → Word64 → Alu))),
    ∀ (s : State) (t : Nat) (o : Opnd) (w : WordTgt) (m : Word64) (s1 : State) (x : Nat) (sv : List Nat),
      s.LpReady t 0 → wordOperand (s.lpCtx t) o bitReadAreas false = .ok w → readWord (s.lpCtx t) w = .got m s1 x sv →
      s.LpDoes t (p.1 o) fun e =>
        let r := s.regs t
        let y := p.2.2 r.wa m
        e.only s t s1 { r.past (o.words true) with
          wa := y.res, zf := y.res == 0, nf := y.res.msb, cf := y.cf.getD r.cf, sov := r.sov || y.sov } ∧
        e.cyc = p.2.1 + (o.words true - 1) + bitNat o.indexed

/-- LDA, LDB, CMP, DIV and DIVS with a word operand m (R110, R111, R113). -/
def Obligations.WordLoads : Prop :=
  ∀ (s : State) (t : Nat) (o : Opnd) (w : WordTgt) (m : Word64) (s1 : State) (x : Nat) (sv : List Nat),
    s.LpReady t 0 → wordOperand (s.lpCtx t) o bitReadAreas false = .ok w → readWord (s.lpCtx t) w = .got m s1 x sv →
    let r := s.regs t
    let q := r.past (o.words true)
    (s.LpDoes t (.lda o) fun e => e.only s t s1 { q with wa := m }) ∧
    (s.LpDoes t (.ldb o) fun e => e.only s t s1 { q with wb := m }) ∧
    (s.LpDoes t (.cmp o) fun e => e.only s t s1 { q with
      zf := decide (r.wa = m), nf := decide (r.wa.toInt - m.toInt < 0), cf := decide (r.wa.toNat < m.toNat) }) ∧
    (∀ p ∈ ([(.div, false), (.divs, true)] : List ((Opnd → Instr) × Bool)), s.LpDoes t (p.1 o) fun e =>
      let d := divide p.2 r.wa m
      e.only s t s1 { q with wa := d.1.res, wb := d.2, zf := d.1.res == 0, nf := d.1.res.msb, sov := r.sov || d.1.sov } ∧
      e.cyc = 24 + (o.words true - 1) + bitNat o.indexed)

/-- The word stores (R105, R110, R112): STA and STB log the low bytes of WA and WB; STAS logs WA clamped to the width, signed or unsigned, and
sets SOV when the stored value differs; no other register changes but IP. -/
def Obligations.WordStores : Prop :=
  ∀ (s : State) (t : Nat) (o : Opnd) (l : Loc) (n : Nat) (sgn : Bool), s.LpReady t 1 →
    let r := s.regs t
    let q := r.past (o.words true)
    (wordOperand (s.lpCtx t) o storeAreas true = .ok (.mem l n sgn) →
      (s.LpDoes t (.sta o) fun e => e.logs s t s q [.mem l n (BitVec.ofNat 64 (r.wa.toNat % 2 ^ (8 * n)))]) ∧
      (s.LpDoes t (.stb o) fun e => e.logs s t s q [.mem l n (BitVec.ofNat 64 (r.wb.toNat % 2 ^ (8 * n)))])) ∧
    (wordOperand (s.lpCtx t) o storeAreas true = .ok (.sys n sgn) →
      (s.LpDoes t (.sta o) fun e => e.logs s t s q [.sysWord n (r.wa.setWidth 32)]) ∧
      (s.LpDoes t (.stb o) fun e => e.logs s t s q [.sysWord n (r.wb.setWidth 32)])) ∧
    (wordOperand (s.lpCtx t) o storeAreas false = .ok (.mem l n sgn) → n ∈ [1, 2, 4, 8] →
      s.LpDoes t (.stas o) fun e =>
        let x := if sgn then max (-2 ^ (8 * n - 1)) (min (2 ^ (8 * n - 1) - 1) r.wa.toInt) else max 0 (min (2 ^ (8 * n) - 1) r.wa.toInt)
        e.logs s t s { q with sov := r.sov || decide (x ≠ r.wa.toInt) } [.mem l n (BitVec.ofNat 64 ((BitVec.ofInt 64 x).toNat % 2 ^ (8 * n)))]) ∧
    (wordOperand (s.lpCtx t) o storeAreas false = .ok (.sys n sgn) →
      s.LpDoes t (.stas o) fun e =>
        let x := if sgn then max (-2 ^ 31) (min (2 ^ 31 - 1) r.wa.toInt) else max 0 (min (2 ^ 32 - 1) r.wa.toInt)
        e.logs s t s { q with sov := r.sov || decide (x ≠ r.wa.toInt) } [.sysWord n (BitVec.ofInt 32 x)])

/-- The register functions that write WA and flags (R114, R115, Table 4-5), with their cycles. -/
def Obligations.RegisterArithmetic : Prop :=
  ∀ p ∈ ([(.addb, 1, fun r _ => aluAdd r.wa r.wb), (.addbs, 1, fun r _ => aluAdds r.wa r.wb), (.subb, 1, fun r _ => aluSub r.wa r.wb),
      (.subbs, 1, fun r _ => aluSubs r.wa r.wb), (.mulb, 3, fun r _ => aluMul r.wa r.wb), (.mulbs, 3, fun r _ => aluMuls r.wa r.wb),
      (.neg, 1, fun r _ => ⟨-r.wa, none, r.wa == BitVec.intMin 64⟩),
      (.negs, 1, fun r _ => ⟨if r.wa = BitVec.intMin 64 then BitVec.intMax 64 else -r.wa, none, r.wa == BitVec.intMin 64⟩),
      (.abs, 1, fun r _ => ⟨if r.wa.msb then -r.wa else r.wa, none, r.wa == BitVec.intMin 64⟩),
      (.abss, 1, fun r _ => ⟨if r.wa = BitVec.intMin 64 then BitVec.intMax 64 else if r.wa.msb then -r.wa else r.wa, none,
        r.wa == BitVec.intMin 64⟩),
      (.notw, 1, fun r _ => ⟨~~~r.wa, none, false⟩), (.i2q, 1, fun r _ => aluI2q r.wa), (.q2i, 1, fun r _ => aluQ2i r.wa),
      (.mulq, 4, fun r _ => aluMulq r.wa r.wb), (.max, 1, fun r _ => ⟨if r.wa.slt r.wb then r.wb else r.wa, none, false⟩),
      (.min, 1, fun r _ => ⟨if r.wb.slt r.wa then r.wb else r.wa, none, false⟩)] : List ((ArgOpnd → Instr) × Nat × (Regs → Nat → Alu))),
    ∀ (s : State) (t : Nat), s.LpReady t 0 → s.LpDoes t (p.1 ⟨0, 0⟩) fun e =>
      let r := s.regs t
      let y := p.2.2 r 0
      e.only s t s { r.past 1 with
        wa := y.res, zf := y.res == 0, nf := y.res.msb, cf := y.cf.getD r.cf, sov := r.sov || y.sov } ∧ e.cyc = p.2.1

/-- The shifts and width functions (R114): by n = 0–63, with CF the last bit out; to 8, 16 or 32 bits.
The register moves (R114): SWAP, MAB, MBA, CMPB, DIVB, DIVBS, BTW, WTB, CLRS, CLRF. -/
def Obligations.MovesAndWidths : Prop :=
  (∀ p ∈ ([(.shl, 63, fun a n => ⟨a <<< n, some (n != 0 && a.getLsbD (64 - n)), false⟩),
      (.shr, 63, fun a n => ⟨a >>> n, some (n != 0 && a.getLsbD (n - 1)), false⟩),
      (.sar, 63, fun a n => ⟨a.sshiftRight n, some (n != 0 && a.getLsbD (n - 1)), false⟩),
      (.sext, 2, fun a w => ⟨(a.setWidth (8 * 2 ^ w)).signExtend 64, none, false⟩),
      (.zext, 2, fun a w => ⟨(a.setWidth (8 * 2 ^ w)).setWidth 64, none, false⟩),
      (.sat, 2, fun a w => let x := max (-2 ^ (8 * 2 ^ w - 1)) (min (2 ^ (8 * 2 ^ w - 1) - 1) a.toInt)
        ⟨BitVec.ofInt 64 x, none, decide (x ≠ a.toInt)⟩),
      (.usat, 2, fun a w => let x := max 0 (min (2 ^ (8 * 2 ^ w) - 1) a.toInt)
        ⟨BitVec.ofInt 64 x, none, decide (x ≠ a.toInt)⟩)] : List ((ArgOpnd → Instr) × Nat × (Word64 → Nat → Alu))),
    ∀ (s : State) (t : Nat) (n : BitVec 16), s.LpReady t 0 →
      (n.toNat ≤ p.2.1 → s.LpDoes t (p.1 ⟨0, n⟩) fun e =>
        let r := s.regs t
        let y := p.2.2 r.wa n.toNat
        e.only s t s { r.past 1 with
          wa := y.res, zf := y.res == 0, nf := y.res.msb, cf := y.cf.getD r.cf, sov := r.sov || y.sov } ∧ e.cyc = 1) ∧
      (p.2.1 < n.toNat → s.LpFaults t (p.1 ⟨0, n⟩) 3 1)) ∧
  (∀ (s : State) (t : Nat), s.LpReady t 0 →
    let r := s.regs t
    let q := r.past 1
    (s.LpDoes t (.swap ⟨0, 0⟩) fun e => e.only s t s { q with wa := r.wb, wb := r.wa }) ∧
    (s.LpDoes t (.mab ⟨0, 0⟩) fun e => e.only s t s { q with wb := r.wa }) ∧
    (s.LpDoes t (.mba ⟨0, 0⟩) fun e => e.only s t s { q with wa := r.wb }) ∧
    (s.LpDoes t (.cmpb ⟨0, 0⟩) fun e => e.only s t s { q with
      zf := decide (r.wa = r.wb), nf := decide (r.wa.toInt - r.wb.toInt < 0), cf := decide (r.wa.toNat < r.wb.toNat) }) ∧
    (∀ p ∈ ([(.divb, false), (.divbs, true)] : List ((ArgOpnd → Instr) × Bool)), s.LpDoes t (p.1 ⟨0, 0⟩) fun e =>
      let d := divide p.2 r.wa r.wb
      e.only s t s { q with wa := d.1.res, wb := d.2, zf := d.1.res == 0, nf := d.1.res.msb, sov := r.sov || d.1.sov } ∧ e.cyc = 24) ∧
    (s.LpDoes t (.btw ⟨0, 0⟩) fun e => e.only s t s { q with wa := if r.ba then 1 else 0 }) ∧
    (s.LpDoes t (.wtb ⟨0, 0⟩) fun e => e.only s t s { q with ba := decide (r.wa ≠ 0) }) ∧
    (s.LpDoes t (.clrs ⟨0, 0⟩) fun e => e.only s t s { q with sov := false }) ∧
    (s.LpDoes t (.clrf ⟨0, 0⟩) fun e => e.only s t s { q with sov := false, nf := false, zf := false, cf := false }))

/-- The timers (R116–R118): with the instance's bytes as read, TON, TOF and TP write ET, PT, LAST and STATE as the rule's pseudocode gives them, and
Q to BA; SOV is set where WA was clipped to form PT; another KIND is the fault INSTANCE_KIND.
TRST (R119): with BA = 1 ET becomes 0, LAST becomes TT, Q, RUN and IN become 0, and PT and PSAT stay; with BA = 0 nothing is written;
an undeclared instance is the fault INSTANCE_KIND whatever BA holds. -/
def Obligations.Timers : Prop :=
  (∀ (s : State) (t n : Nat) (bs : List Byte) (s1 : State),
    s.LpReady t 4 → n < 8192 → (s.lpCtx t).instBytes 5 n = (bs, s1) →
    let r := s.regs t
    let x := timerOf bs
    let tt := (s.rt t).tt.toNat
    let d := (tt + 2 ^ 48 - x.last % 2 ^ 48) % 2 ^ 48
    let pt := if r.wa.toInt < 0 then 0 else r.wa.toNat
    let more := min (x.et + d) (2 ^ 63 - 1)
    let done := fun (et : Nat) (run q : Bool) (e : Eff) =>
      e.logs s t s1 { r.past 1 with ba := q, sov := r.sov || decide (r.wa.toInt < 0) }
        [instEntry 5 n 8 8 et, instEntry 5 n 16 8 pt, instEntry 5 n 24 6 (tt % 2 ^ 48),
          instEntry 5 n 30 2 (x.kind * 4096 + 8 * bitNat (decide (r.wa.toInt < 0)) + 4 * bitNat run + 2 * bitNat r.ba + bitNat q)] ∧ e.cyc = 4
    (x.kind = 1 → s.LpDoes t (.ton 5 (BitVec.ofNat 22 n)) fun e =>
      let et := if r.ba && x.inp then more else 0
      done et x.run (r.ba && decide (pt ≤ et)) e) ∧
    (x.kind = 2 → s.LpDoes t (.tof 5 (BitVec.ofNat 22 n)) fun e =>
      let et := if r.ba || x.inp then 0 else if x.run then more else x.et
      let run := !r.ba && if x.inp then x.q else x.run
      let lapse := run && decide (pt ≤ et)
      done et (run && !lapse) (r.ba || (x.q && !lapse)) e) ∧
    (x.kind = 3 → s.LpDoes t (.tp 5 (BitVec.ofNat 22 n)) fun e =>
      if x.run then done more (decide (more < pt)) (x.q && decide (more < pt)) e
      else if r.ba && !x.inp then done 0 (decide (pt ≠ 0)) (decide (pt ≠ 0)) e
      else done (if r.ba then x.et else 0) false x.q e) ∧
    (∀ p ∈ ([(.ton, 1), (.tof, 2), (.tp, 3)] : List ((BitVec 4 → BitVec 22 → Instr) × Nat)), x.kind ≠ p.2 →
      exec (p.1 5 (BitVec.ofNat 22 n)) s = .next (settle (s1.applyFault t (s.curWin t) 13 4)))) ∧
  (∀ (s : State) (t n : Nat) (bs : List Byte) (s1 : State),
    s.LpReady t 3 → n < 8192 → (s.lpCtx t).instBytes 5 n = (bs, s1) →
    let x := timerOf bs
    (x.kind = 0 → exec (.trst 5 (BitVec.ofNat 22 n)) s = .next (settle (s1.applyFault t (s.curWin t) 13 2))) ∧
    (x.kind ≠ 0 → s.LpDoes t (.trst 5 (BitVec.ofNat 22 n)) fun e =>
      e.logs s t s1 ((s.regs t).past 1) (if (s.regs t).ba then [instEntry 5 n 8 8 0, instEntry 5 n 24 6 ((s.rt t).tt.toNat % 2 ^ 48),
        instEntry 5 n 30 2 (x.kind * 4096 + 8 * bitNat x.psat)] else []) ∧ e.cyc = 2))

/-- The counters (R122, R123): CTU and CTD count a rising BA unless the limit is reached, which sets OVF and SOV; CRS and CLD with BA = 1 set CV;
QU, QD and Q follow; a kind that the instruction does not take is the fault INSTANCE_KIND.
The edge detectors (R124): the memory bit takes BA, and BA the rising or falling edge. -/
def Obligations.CountersAndEdges : Prop :=
  (∀ (s : State) (t n : Nat) (bs : List Byte) (s1 : State),
    s.LpReady t 3 → n < 8192 → (s.lpCtx t).instBytes 6 n = (bs, s1) →
    let r := s.regs t
    let x := counterOf bs
    let entry := fun (cv pv : Int) (ovf cd cu : Bool) =>
      let qu := decide (pv ≤ cv)
      let qd := decide (cv ≤ 0)
      instEntry 6 n 24 8 (x.kind * 4096 + 32 * bitNat ovf + 16 * bitNat qd + 8 * bitNat qu + 4 * bitNat cd + 2 * bitNat cu +
        bitNat (if x.kind = 2 then qd else qu))
    let num := fun (off : Nat) (v : Int) => instEntry 6 n off 8 (BitVec.ofInt 64 v).toNat
    (x.kind = 1 ∨ x.kind = 3 → s.LpDoes t (.ctu 6 (BitVec.ofNat 22 n)) fun e =>
      let edge := r.ba && !x.cu
      let full := edge && decide (x.cv = 2 ^ 63 - 1)
      let cv := if edge && !full then x.cv + 1 else x.cv
      e.logs s t s1 { r.past 1 with ba := decide (r.wa.toInt ≤ cv), sov := r.sov || full }
        [num 8 cv, num 16 r.wa.toInt, entry cv r.wa.toInt (x.ovf || full) x.cd r.ba]) ∧
    (x.kind = 2 ∨ x.kind = 3 → s.LpDoes t (.ctd 6 (BitVec.ofNat 22 n)) fun e =>
      let edge := r.ba && !x.cd
      let full := edge && decide (x.cv = -2 ^ 63)
      let cv := if edge && !full then x.cv - 1 else x.cv
      e.logs s t s1 { r.past 1 with ba := decide (cv ≤ 0), sov := r.sov || full } [num 8 cv, entry cv x.pv (x.ovf || full) r.ba x.cu]) ∧
    (x.kind ≠ 0 → ∀ p ∈ ([(.crs, 0), (.cld, r.wa.toInt)] : List ((BitVec 4 → BitVec 22 → Instr) × Int)),
      s.LpDoes t (p.1 6 (BitVec.ofNat 22 n)) fun e =>
        e.logs s t s1 (r.past 1) (if r.ba then [num 8 p.2, entry p.2 x.pv false x.cd x.cu] else [])) ∧
    (x.kind = 0 ∨ x.kind = 2 → exec (.ctu 6 (BitVec.ofNat 22 n)) s = .next (settle (s1.applyFault t (s.curWin t) 13 3))) ∧
    (x.kind = 0 → exec (.crs 6 (BitVec.ofNat 22 n)) s = .next (settle (s1.applyFault t (s.curWin t) 13 2)) ∧
      exec (.cld 6 (BitVec.ofNat 22 n)) s = .next (settle (s1.applyFault t (s.curWin t) 13 2))) ∧
    (x.kind = 0 ∨ x.kind = 1 → exec (.ctd 6 (BitVec.ofNat 22 n)) s = .next (settle (s1.applyFault t (s.curWin t) 13 3)))) ∧
  (∀ p ∈ ([(.re, fun a b => a && !b), (.fe, fun a b => !a && b)] : List ((Opnd → Instr) × (Bool → Bool → Bool))),
    ∀ (s : State) (t : Nat) (o : Opnd) (l : Loc) (i : Nat) (v : Bool) (s1 : State) (x : Nat) (sv : List Nat), s.LpReady t 1 →
      bitOperand (s.lpCtx t) o edgeAreas = .ok (.mem l i) → readBit (s.lpCtx t) (.mem l i) = .got v s1 x sv →
      s.LpDoes t (p.1 o) fun e => e.logs s t s1 { (s.regs t).past (o.words false) with ba := p.2 (s.regs t).ba v }
        [.memBit l i (s.regs t).ba])

/-! ## Ebgen: calls and services (spec/04) -/

/-- CALL and CALLD (R127): the index after the instruction and DSEL are pushed, IP becomes the target, CALLD sets DSEL; a target beyond the code, an
open bracket and a full call stack are the faults JUMP_RANGE, NEST_OPEN and CALL_OVERFLOW, in that order; an AREA other
than 0, a missing second word and a second word of another form are the faults ILLEGAL_AREA, CODE_END and what the form names.
RET whatever BA holds, and RETC with BA = 1 (R127): the innermost entry leaves the call stack into IP and DSEL; an open bracket and an empty call stack are the
faults NEST_OPEN and CALL_UNDERFLOW; RETC with BA = 0 goes on. -/
def Obligations.CallsAndReturns : Prop :=
  (∀ (s : State) (t : Nat) (k : BitVec 22) (w2 : Word) (n : Nat), s.LpReady t 0 →
    let r := s.regs t
    ∀ p ∈ [(Instr.call 0 k, 1, 3, r.dsel), (Instr.calld 0 k w2, 2, 4, BitVec.ofNat 16 n)],
      ((p.2.1 = 2 → r.ip.toNat + 1 < s.codeLen ∧ blockWord w2 = .ok n) →
      (s.codeLen ≤ k.toNat → s.LpFaults t p.1 6 p.2.2.1) ∧
      (k.toNat < s.codeLen → r.ns ≠ [] → s.LpFaults t p.1 9 p.2.2.1) ∧
      (k.toNat < s.codeLen → r.ns = [] → 32 ≤ (s.rt t).calls.length → s.LpFaults t p.1 11 p.2.2.1) ∧
      (k.toNat < s.codeLen → r.ns = [] → (s.rt t).calls.length < 32 → s.LpDoes t p.1 fun e =>
        e.s = s ∧ e.r = { r with ip := k, dsel := p.2.2.2 } ∧ e.calls = (r.ip.toNat + p.2.1, r.dsel) :: (s.rt t).calls ∧ e.log = [] ∧
        e.cyc = p.2.2.1)) ∧
      (∀ a, a ≠ 0 → s.LpFaults t (.call a k) 2 3 ∧ s.LpFaults t (.calld a k w2) 2 4) ∧
      (s.codeLen ≤ r.ip.toNat + 1 → s.LpFaults t (.calld 0 k w2) 4 4) ∧
      (∀ cause, r.ip.toNat + 1 < s.codeLen → blockWord w2 = .error cause → s.LpFaults t (.calld 0 k w2) cause 4)) ∧
  (∀ (s : State) (t : Nat), s.LpReady t 0 →
    let r := s.regs t
    (∀ p ∈ [(Instr.ret ⟨0, 0⟩, true), (Instr.retc ⟨0, 0⟩, r.ba)], p.2 = true →
      (r.ns ≠ [] → s.LpFaults t p.1 9 3) ∧ (r.ns = [] → (s.rt t).calls = [] → s.LpFaults t p.1 12 3) ∧
      (∀ (k : Nat) (d : BitVec 16) (rest : List (Nat × BitVec 16)), r.ns = [] → (s.rt t).calls = (k, d) :: rest → s.LpDoes t p.1 fun e =>
        e.s = s ∧ e.r = { r with ip := BitVec.ofNat 22 k, dsel := d } ∧ e.calls = rest ∧ e.log = [] ∧ e.cyc = 3)) ∧
    (r.ba = false → s.LpDoes t (.retc ⟨0, 0⟩) fun e => e.only s t s (r.past 1) ∧ e.cyc = 1))

/-- OPN, OPNW, TRIG, TRIGC and NOP complete (R128, R129, R131), for every argument, program and register content: OPN selects the block of its argument in
DSEL, OPNW the block that WA names, where WA is 0 to 65,535 (else OPERAND_RANGE); TRIG logs its trigger, TRIGC logs it where BA is 1, for a declared event
task (else SERVICE_RANGE); NOP goes on to the next word. Nothing else changes.
END, ENDC, ENDCN and PSYNC complete (R87, R130, R132, R189; spec/15 R433, R434), for every report of the passes: END, and ENDC with BA 1, and ENDCN with
BA 0, close the window, which is resolved in the same step; an open bracket at such an end is the fault NEST_OPEN; ENDC with BA 0 and ENDCN with BA 1 go on
to the next word. Where the passes agree and the task hosts no loops the end leaves the task idle, with the LP free, its cycle counted and its LP time
reported. PSYNC closes the window and, where the passes agree, the staged rules are active, PR_EPOCH has advanced and the task waits. -/
def Obligations.TasksAndBarriers : Prop :=
  (∀ (s : State) (t : Nat) (n : BitVec 16), s.LpReady t 1 →
    let r := s.regs t
    let q := r.past 1
    let event := 32 ≤ n.toNat ∧ n.toNat < 96 ∧ s.declared n.toNat = true
    (s.LpDoes t (.opn ⟨0, n⟩) fun e => e.only s t s { q with dsel := n } ∧ e.cyc = 1) ∧
    (0 ≤ r.wa.toInt ∧ r.wa.toInt ≤ 65535 → s.LpDoes t (.opnw ⟨0, 0⟩) fun e => e.only s t s { q with dsel := r.wa.setWidth 16 } ∧ e.cyc = 1) ∧
    (¬(0 ≤ r.wa.toInt ∧ r.wa.toInt ≤ 65535) → s.LpFaults t (.opnw ⟨0, 0⟩) 5 1) ∧
    (event → s.LpDoes t (.trig ⟨0, n⟩) fun e => e.logs s t s q [.trig n.toNat] ∧ e.cyc = 1) ∧
    (event → s.LpDoes t (.trigc ⟨0, n⟩) fun e => e.logs s t s q (if r.ba then [.trig n.toNat] else []) ∧ e.cyc = 1) ∧
    (¬event → s.LpFaults t (.trig ⟨0, n⟩) 14 1 ∧ s.LpFaults t (.trigc ⟨0, n⟩) 14 1) ∧
    (s.LpDoes t (.nop ⟨0, 0⟩) fun e => e.only s t s q ∧ e.cyc = 1)) ∧
  (∀ (s : State) (t m : Nat) (rep : PassReport), s.LpReady t 0 →
    let r := s.regs t
    let w := s.curWin t
    let eff := fun (close : Close) (path : List Nat) (cyc : Nat) => ({ (s.lpCtx t).eff 1 with cyc := cyc, close := some close, path := path } : Eff)
    let plain := rep = ⟨.same, .same, .same⟩ ∧ (s.rt t).mode = m ∧ 1 ≤ m ∧ m ≤ 3 ∧ w.task = t ∧ w.log = [] ∧ w.fault = none ∧ s.lp.stepping = false ∧
      s.lp.breakpoints = [] ∧ s.on F.FC_JIG_STAT_ARMED = false ∧ s.ocPhase ≠ 3 ∧ s.ocPhase ≠ 4 ∧ s.shadowing = false
    let alone := (∀ e ∈ s.le.tab, e.2.host ≠ t) ∧ s.hostPending t = false ∧ (s.rt t).again = false ∧ ∀ e ∈ s.sch.tasks, e.2.preempted = false
    let ends := [(Instr.endCycle ⟨0, 0⟩ rep, true), (Instr.endc ⟨0, 0⟩ rep, r.ba), (Instr.endcn ⟨0, 0⟩ rep, !r.ba)]
    (∀ p ∈ ends,
      (p.2 = true → r.ns = [] → exec p.1 s = .next (settle ((s.applyEff t w (eff .taken [r.ip.toNat] 2)).compareWindow rep))) ∧
      (p.2 = true → r.ns = [] → plain → alone → s.Does p.1 fun u =>
        u.lp.win = none ∧ u.sch.running = none ∧ (u.rt t).st = .idle ∧ (u.rt t).cycles = (s.rt t).cycles + 1 ∧
        (u.rt t).lastLp = (s.rt t).lpNs + m * (w.cycles + 2) + w.extraA + s.lp.waitNs + 6 ∧ u.mem = s.mem) ∧
      (p.2 = true → r.ns ≠ [] → s.LpFaults t p.1 9 2) ∧
      (p.2 = false → s.LpDoes t p.1 fun e => e.only s t s (r.past 1) ∧ e.cyc = 1)) ∧
    exec (.psync ⟨0, 0⟩ rep) s = .next (settle ((s.applyEff t w (eff .psync [] 1)).compareWindow rep)) ∧
    (plain → s.Does (.psync ⟨0, 0⟩ rep) fun u =>
      u.lp.win = none ∧ u.sch.running = some t ∧ u.regs t = r.past 1 ∧ u.prot.active = s.prot.staged ∧ u.word W.PR_EPOCH = s.word W.PR_EPOCH + 1 ∧
      (u.rt t).waitEpoch = some (s.word W.PR_EPOCH + 1).toNat ∧ u.on F.PR_STAT_PSYNC_WAIT = true ∧ u.mem = s.mem))

/-- LPRD and LPWR (R133, R134): LPWR logs WA clamped to 32 bits, with SOV if clipped; LPRD reads the field, sign-extended; a loop that is not declared
or a field that the map does not list is SERVICE_RANGE; another AREA is ILLEGAL_AREA and a set reserved bit ILLEGAL_FIELD. -/
def Obligations.LoopInstructions : Prop :=
  ∀ (s : State) (t l f : Nat), s.LpReady t 1 → l < 4096 → f < 256 →
    let r := s.regs t
    let opd := BitVec.ofNat 22 (l * 256 + f)
    (∀ (a : BitVec 4) (k : BitVec 22), (a ≠ 0 → s.LpFaults t (.lpwr a k) 2 1 ∧ s.LpFaults t (.lprd a k) 2 1) ∧
      (a = 0 → 2 ^ 20 ≤ k.toNat → s.LpFaults t (.lpwr a k) 3 1 ∧ s.LpFaults t (.lprd a k) 3 1)) ∧
    (s.loopField l f = none → s.LpFaults t (.lpwr 0 opd) 14 1 ∧ s.LpFaults t (.lprd 0 opd) 14 1) ∧
    (s.loopField l f ≠ none →
      (s.LpDoes t (.lpwr 0 opd) fun e =>
        let x := max (-2 ^ 31) (min (2 ^ 31 - 1) r.wa.toInt)
        e.logs s t s { r.past 1 with sov := r.sov || decide (x ≠ r.wa.toInt) } [.lpwr l f (BitVec.ofInt 32 x)]) ∧
      (∀ (v : Nat) (s1 : State) (sw : Bool), s.loopRead t l f = (.value v s1, sw) → s.LpDoes t (.lprd 0 opd) fun e =>
        e.only s t s1 { r.past 1 with wa := (BitVec.ofNat 32 v).signExtend 64 } ∧ e.extra = if sw then 263 else 23))

/-- RPOST (R135, R136): with a slot free, BA becomes 1 and the 32 bytes of the descriptor are logged, zeros where the protection unit denies the read; with
the ring full BA becomes 0 and nothing is logged; an operand that a rule refuses is the program fault it names. -/
def Obligations.Rpost : Prop :=
  ∀ (s : State) (t : Nat) (o : Opnd), s.LpReady t 5 →
    (∀ cause, postOperand (s.lpCtx t) o = .error cause → s.LpFaults t (.rpost o) cause (4 + (o.words false - 1))) ∧
    ∀ (ring : Nat) (l : Loc), s.svcTake t = none → s.shadowing = false → postOperand (s.lpCtx t) o = .ok (ring, l) →
      let a := s.access (memAccess 0 t false l 32 false)
      let r := (s.regs t).past (o.words false)
      (s.ringRoom ring = true → s.LpDoes t (.rpost o) fun e =>
        e.logs s t a.2 { r with ba := true } [.rpost ring l (if a.1 then s.lpBytes l 32 else List.replicate 32 0#8)] ∧ e.extra = 11) ∧
      (s.ringRoom ring = false → s.LpDoes t (.rpost o) fun e => e.logs s t a.2 { r with ba := false } [] ∧ e.extra = 11)
/-! ## The task cycle and redundant execution (spec/05, spec/06) -/

/-- What an instruction's effect changes, and nothing else: its task's registers and call stack, and the open window, which takes its cycles, its log and
its services and closes for the reasons of R174 in their order; what pass A has waited for a clock domain is an addition of its own (Table 3-14); a program fault
changes the window alone (R97, R174, R175). -/
def Obligations.InstructionFrame : Prop :=
  ∀ (s : State) (t : Nat) (w : Win) (e : Eff),
    (let u := s.applyEff t w e
     u = { e.s with sch := u.sch, lp := u.lp } ∧ u.sch = { e.s.sch with tasks := u.sch.tasks } ∧ u.lp = { e.s.lp with win := u.lp.win, waiting := none, waitNs := 0 } ∧
     u.rt t = { e.s.rt t with regs := e.r, calls := e.calls } ∧ (∀ v, v ≠ t → u.rt v = e.s.rt v) ∧
     ∃ x : Win, u.lp.win = some x ∧ x.task = w.task ∧ x.first = w.first ∧ x.count = w.count + 1 ∧ x.cycles = w.cycles + e.cyc ∧
       x.extraA = w.extraA + e.extra + s.lp.waitNs ∧ x.log = w.log ++ e.log ∧ x.services = w.services ++ e.svc ∧ x.fault = w.fault ∧
       (∀ c, e.close = some c → x.closed = some c) ∧
       (e.close = none → s.lp.stepping = true ∨ (s.regs t).ip.toNat ∈ s.lp.breakpoints → x.closed = some .breakpoint) ∧
       (e.close = none → s.lp.stepping = false → (s.regs t).ip.toNat ∉ s.lp.breakpoints →
         x.closed = if 64 ≤ w.count + 1 then some .full else none)) ∧
    ∀ cause cyc, let u := s.applyFault t w cause cyc
      u = { s with lp := u.lp } ∧ u.lp = { s.lp with win := u.lp.win } ∧
      u.lp.win = some { w with cycles := w.cycles + cyc, closed := some .fault, fault := some (cause, (s.regs t).ip.toNat) }

/-- Windows commit where their passes agree (R177, R180, R189): the LP has used as many passes' cycles as the mode runs, the logged stores reach program data
in program order and nothing else does, the registers go on into the next window. -/
def Obligations.WindowsCommit : Prop :=
  ∀ (s : State) (t : Nat) (w : Win) (rep : PassReport) (m : Nat), s.WindowDue t w → rep = ⟨.same, .same, .same⟩ →
    (s.rt t).mode = m → 1 ≤ m → m ≤ 3 → s.ocPhase ≠ 3 → s.ocPhase ≠ 4 →
    (∀ e ∈ w.log, ∃ l k v, e = .mem l k v ∧ verdict s.prot.active (memAccess 0 t true l k false) = .allowed) →
    s.Does (.windowCompare rep) fun u =>
      u.lp.win = none ∧ u.regs t = s.regs t ∧ (u.rt t).calls = (s.rt t).calls ∧ (u.rt t).wins = (s.rt t).wins + 1 ∧
      u.ns = s.ns + m * w.cycles + w.extraA ∧ (∀ v, v ≠ t → u.rt v = s.rt v) ∧ u.sch.running = some t ∧
      u.mem = w.log.foldl (fun m e => match e with
        | .mem l k v => msetList (cellKey s.bank l) (leBytes k v.toNat) m
        | _ => m) s.mem

/-- A DUAL window whose passes A and B differ (R180, R182, R183, R189): pass C that agrees with A makes B the odd pass, the mismatch is corrected, counted and
raised as FS08, and the cycle goes on; pass C with a code error leaves no two that agree: FS09, and the cycle ends with LAST_CAUSE 3. -/
def Obligations.WindowsDiffer : Prop :=
  ∀ (s : State) (t : Nat) (w : Win) (x : Outcome), s.WindowDue t w → (s.rt t).mode = 2 → agree (s.trueOutcome w) x = false → w.log = [] →
    s.ocPhase ≠ 3 → s.ocPhase ≠ 4 →
    (s.rd F.RX_CFG_MM_LIMIT = 0 → s.Does (.windowCompare ⟨.same, .other x, .same⟩) fun u =>
      u.lp.win = none ∧ u.regs t = s.regs t ∧ u.mem = s.mem ∧ u.ns = s.ns + 3 * w.cycles + w.extraA + 20 ∧
      u.rd (F.XMODE_MM_CNT t) = min 65535 (s.rd (F.XMODE_MM_CNT t) + 1) ∧ u.rd F.MM_TOTAL = min (2 ^ 32 - 1) (s.rd F.MM_TOTAL + 1) ∧
      u.rd F.LAST_MM_INFO_ODD = 2 ∧ u.rd F.LAST_MM_INFO_TASK = t ∧ u.word W.LAST_MM_INDEX = BitVec.ofNat 32 w.first ∧
      u.Raised s [(8, t, 512 + t, w.first)]) ∧
    (s.Does (.windowCompare ⟨.same, .other x, .codeError⟩) fun u =>
      u.lp.win = none ∧ u.rd F.TF_TOTAL = min (2 ^ 32 - 1) (s.rd F.TF_TOTAL + 1) ∧ u.rd (F.TSTAT_LAST_CAUSE t) = 3 ∧
      (∃ r ∈ u.raised, r.src = 9 ∧ r.agent = t) ∧
      (s.on F.CAP_INFO_VALID = false → u.rd F.CAP_INFO_KIND = 2 ∧ u.rd F.CAP_INFO_TASK = t ∧ u.rd F.CAP_INFO_CODE_ERR = 1))

/-- XMODE and the clears of redundant execution (R185, R187, R188): MODE 0, SINGLE for a critical task and another mode than DUAL for a start task are refused
with REFUSED and FS13; MM_CLR, CAP_CLR and CLR_PERSIST clear their fields alone.
An error of the LP's checker ends the open window and the cycle (R186): FS09 and FS11, LAST_CAUSE 3, and the capture names the checker and what the passes that
had begun had met. -/
def Obligations.Checkers : Prop :=
  (∀ (s : State) (t : Nat) (v : Word), s.awake = true → t < 98 →
    let m := v.toNat % 4
    let refused := m = 0 ∨ (m = 1 ∧ s.on (F.XMODE_NONCRIT t) = false) ∨ ((t = 96 ∨ t = 97) ∧ m ≠ 2)
    let cnt := if v.getLsbD 15 then 0 else s.rd (F.XMODE_MM_CNT t)
    (refused → s.Does (.xmodeModeWrite t v) fun u =>
      u = { s with words := u.words, raised := u.raised } ∧ u.Raised s [(13, t, 0x410 + t, v.toNat)] ∧
      u.Fields s [(F.XMODE_REFUSED t, 1), (F.XMODE_MM_CNT t, cnt)]) ∧
    (¬refused → s.Does (.xmodeModeWrite t v) fun u =>
      u = { s with words := u.words, mram := u.mram, freeCtr := u.freeCtr, openState := u.openState } ∧
      u.mram = { s.mram with settings := u.mram.settings } ∧
      u.Fields s [(F.XMODE_REFUSED t, 0), (F.XMODE_MM_CNT t, cnt), (F.XMODE_MODE t, m)]) ∧
    (s.Does (.mmClr t) fun u => u = { s with words := u.words } ∧ u.Fields s [(F.XMODE_MM_CNT t, 0)]) ∧
    (s.Does .capClr fun u => u = { s with words := u.words } ∧ u.word W.CAP_INFO = 0 ∧ u.word W.CAP_INDEX = 0 ∧
      u.OtherWords s [W.CAP_INFO, W.CAP_INDEX]) ∧
    (s.Does .clrPersist fun u => u = { s with words := u.words } ∧ u.Fields s [(F.RX_STAT_PERSIST, 0), (F.RX_STAT_PERSIST_TASK, 0)])) ∧
  (∀ (s : State) (t ran : Nat) (w : Win) (p : BitVec 3) (c : Bool), s.awake = true → s.sch.running = some t → s.lp.win = some w → w.task = t → t < 98 →
    s.lp.stopped = false → s.Does (.lpCheckerError ⟨ran, p, c⟩) fun u =>
      u.lp.win = none ∧ u.rd (F.TSTAT_LAST_CAUSE t) = 3 ∧ (∃ r ∈ u.raised, r.src = 9 ∧ r.agent = t) ∧ (∃ r ∈ u.raised, r.src = 11 ∧ r.agent = t) ∧
      (s.on F.CAP_INFO_VALID = false → u.rd F.CAP_INFO_CHK_ERR = 1 ∧ u.rd F.CAP_INFO_TASK = t ∧
        u.rd F.CAP_INFO_PASS_FLT = p.toNat % 2 ^ passesRun (s.rt t).mode ran w))

/-! ## The scheduler (spec/05) -/

/-- TICK (R141): tick k + 1 begins, no earlier than TT = 50 (k + 1) µs; on a module that acts on the plant, with no task ready or in its cycle, the enabled
cyclic tasks whose period and phase name k + 1 are ready, and no other; a module that does not act releases none.
A task's start, its giving way and its watchdog (R142, R144, R147; spec/03 R67). The start clears BA, WA, WB, the flags and the stacks, puts IP at the
entry point and latches TT; saving the registers of a preempted task takes 40 ns, after the 6 ns of a window whose commit still runs; a watchdog that expires sets LAST_CAUSE 1,
raises FS17 and, where FAULT_ACT is not 0, disables the task. -/
def Obligations.TicksAndCycles : Prop :=
  (∀ s : State, s.awake = true → s.netUp = true → s.pair.handover = none → s.shadowing = false → (∀ e ∈ s.sch.tasks, e.2.st = .idle) →
    s.sch.first = false → s.sch.held = [] → s.sch.due = [] → s.tick + 1 < 2 ^ 64 →
    s.Does .tick fun u =>
      u.tick = s.tick + 1 ∧ s.ns ≤ u.ns ∧ ((50 * u.tick : Nat) : Int) ≤ ((u.ns / 1000 : Nat) : Int) + u.sch.ttOff ∧ u.mem = s.mem ∧
      ∀ v < 32, (u.rt v).st = if s.isActive && s.mayRelease && s.enabled v && s.period v != 0 && (s.tick + 1) % s.period v == s.rd (F.TCFG_PHASE v)
        then .ready else .idle) ∧
  (∀ (s : State) (t : Nat) (r : TaskRt), s.awake = true → t < 98 → s.shadowing = false →
    (s.sch.running = none → s.lpReady = true → s.bestReady = some (t, r) → s.bestPreempted = none → s.pair.inputs = [] →
      s.pair.extwrites = [] → s.sr.jobs = [] → s.Does .taskStart fun u =>
        u.sch.running = some t ∧ (u.rt t).st = .cycle ∧ (u.rt t).cyc = (s.rt t).cyc + 1 ∧ (u.rt t).calls = [] ∧ u.lp.win = none ∧
        (u.rt t).tt = BitVec.ofNat 64 s.ttNow ∧
        u.regs t = ⟨false, 0, 0, false, false, false, false, [], 0, BitVec.ofNat 22 (((s.decl t).map (·.entry)).getD 0)⟩) ∧
    (∀ e, s.sch.running = some t → s.bestReady = some e → s.lp.win = none → s.lp.stopped = false → s.lp.halted = false → t < 96 →
      outprio e.2 (s.rt t) = true → s.Does .taskPreempt fun u =>
        u.sch.running = none ∧ (u.rt t).preempted = true ∧ u.regs t = s.regs t ∧ u.mem = s.mem ∧ (∀ v, v ≠ t → u.rt v = s.rt v) ∧
        u.ns = s.ns + 40 + if (s.rt t).owed = true then 6 else 0) ∧
    ((s.rt t).st ≠ .idle → t < 96 → s.lp.halted = false → s.Does (.watchdogExpiry t) fun u =>
      u.rd (F.TSTAT_LAST_CAUSE t) = 1 ∧ (∃ x ∈ u.raised, x.src = 17 ∧ x.agent = t ∧ x.d1 = (s.rt t).wdUs) ∧
      ((s.rt t).fact ≠ 0 → u.enabled t = false ∧ u.on (F.TSTAT_DIS_FAULT t) = true)))

/-- Triggers (R152–R154): an event releases every enabled idle event task whose TTRIG selects it, and a trigger at the instant of the one before counts
with it; a timer that is due fires once, or waits for the first
tick that allows releases; arming reaches a task whose TTRIG selects SRC 6 and no other. -/
def Obligations.Triggers : Prop :=
  ∀ (s : State) (t src a : Nat), s.awake = true → isEvent t = true →
    let takes := s.isActive = true ∧ s.mayRelease = true ∧ s.declared t = true ∧ s.enabled t = true ∧ (s.rt t).st = .idle
    (takes → 1 ≤ src → src ≤ 5 → s.rd (fTrigSrc t) = src → trigMatches src (s.rd (fTrigArg t)) a = true →
      ((s.rt t).trigNs ≠ some s.ns → s.Does (.eventTrigger src a) fun u => (u.rt t).st = .ready ∧ (u.rt t).trigNs = some s.ns) ∧
      ((s.rt t).trigNs = some s.ns → s.Does (.eventTrigger src a) fun u => u.rt t = s.rt t)) ∧
    (∀ k, (s.rt t).armed = some k → k ≤ s.tick → s.rd (fTrigSrc t) = 6 →
      (takes → (s.rt t).trigNs ≠ some s.ns → s.Does (.eventTimerExpiry t) fun u =>
        (u.rt t).st = .ready ∧ (u.rt t).armed = none ∧ u.on (F.TSTAT_ARMED t) = false ∧ ∀ v, v ≠ t → u.rt v = s.rt v) ∧
      (s.isActive = true → s.mayRelease = false → s.sch.due.contains t = false → s.Does (.eventTimerExpiry t) fun u =>
        u = { s with sch := { s.sch with due := s.sch.due ++ [t] } })) ∧
    (∀ k, (s.rt t).armed = some k → s.tick < k ∨ s.rd (fTrigSrc t) ≠ 6 → s.Does (.eventTimerExpiry t) fun u => u = s) ∧
    (s.rd (fTrigSrc t) = 6 → s.Does (.timerArm t) fun u =>
      u = { s with words := u.words, sch := u.sch } ∧ u.rt t = { s.rt t with armed := some (s.tick + s.rd (fTrigArg t)) } ∧ t ∉ u.sch.due ∧
      (∀ v, v ≠ t → u.rt v = s.rt v) ∧ u.Fields s [(F.TSTAT_ARMED t, 1)]) ∧
    (s.rd (fTrigSrc t) ≠ 6 → s.Does (.timerArm t) fun u => u = s)

/-- The scheduler's settings (R150, R167, R169): a refused write sets CFG_ERR and LAST_CAUSE 4, raises FS19 and leaves the word; an accepted one clears
CFG_ERR; OVR, written 1, clears OVR_CNT too; a write of STAT_SEL starts the longest times of the task afresh; CLR_MAX clears FAST_MAX_NS. -/
def Obligations.SchedulerSettings : Prop :=
  ∀ (s : State) (t : Nat) (v : Word), s.awake = true → t < 98 →
    let en := v.getLsbD 31
    let low := v.toNat % 2 ^ 18
    let refusal := fun (i : Nat) (u : State) =>
      u = { s with words := u.words, raised := u.raised } ∧ u.Fields s [(F.TSTAT_CFG_ERR t, 1), (F.TSTAT_LAST_CAUSE t, 4)] ∧
      u.Raised s [(19, t, i, v.toNat)]
    (96 ≤ t → ∀ o < 3, s.Does (.taskSettingWrite (0x240 + 4 * t + o) v) (refusal (0x240 + 4 * t + o))) ∧
    (t < 96 →
      (let bad := (en = true ∧ s.declared t = false) ∨ (if t < 32 then s.rd (F.TPER_N t) ≤ low else low ≠ 0)
       (bad → s.Does (.taskSettingWrite (0x240 + 4 * t) v) (refusal (0x240 + 4 * t))) ∧
       (¬bad → s.Does (.taskSettingWrite (0x240 + 4 * t) v) fun u =>
         u.enabled t = en ∧ u.rd (F.TCFG_PHASE t) = low ∧ u.rd (F.TCFG_PRIO t) = v.toNat / 2 ^ 26 % 32 ∧
         u.rd (F.TCFG_FAULT_ACT t) = v.toNat / 2 ^ 24 % 4 ∧ u.on (F.TSTAT_CFG_ERR t) = false ∧ u.mem = s.mem)) ∧
      (let bad := low = 0 ∨ 200000 < low ∨ low ≤ s.rd (F.TCFG_PHASE t)
       (t < 32 → bad → s.Does (.taskSettingWrite (0x241 + 4 * t) v) (refusal (0x241 + 4 * t))) ∧
       (t < 32 → ¬bad → s.Does (.taskSettingWrite (0x241 + 4 * t) v) fun u =>
         u.rd (F.TPER_N t) = low ∧ u.on (F.TSTAT_CFG_ERR t) = false ∧ u.OtherWords s [W.TPER t, W.TSTAT t])) ∧
      (let bad := trigOk (v.toNat / 2 ^ 28) (v.toNat % 2 ^ 28) = false ∨
         (v.toNat / 2 ^ 28 ≠ 0 ∧ (s.rd F.FC_CFG_FAULT_TASK = t ∨ s.rd F.FC_CFG_TRAP_TASK = t))
       (32 ≤ t → bad → s.Does (.taskSettingWrite (0x241 + 4 * t) v) (refusal (0x241 + 4 * t))) ∧
       (32 ≤ t → ¬bad → s.Does (.taskSettingWrite (0x241 + 4 * t) v) fun u =>
         u.word (W.TPER t) = v ∧ u.on (F.TSTAT_CFG_ERR t) = false ∧ u.OtherWords s [W.TPER t, W.TSTAT t])) ∧
      (s.Does (.taskSettingWrite (0x242 + 4 * t) v) fun u =>
        u.rd (F.TWDOG t) = v.toNat % 2 ^ 24 ∧ u.on (F.TSTAT_CFG_ERR t) = false ∧ u.OtherWords s [W.TWDOG t, W.TSTAT t]) ∧
      (s.Does (.ovrClear t) fun u => u = { s with words := u.words } ∧
        u.Fields s [(F.TSTAT_OVR t, 0), (F.TSTAT_OVR_CNT t, 0), (F.TSTAT_CFG_ERR t, 0)])) ∧
    (s.Does (.statSelWrite v) fun u =>
      u.rd F.STAT_SEL = v.toNat % 128 ∧ u.rt (v.toNat % 128) = { s.rt (v.toNat % 128) with maxNs := 0, maxDelay := 0 } ∧
      (∀ k, k ≠ v.toNat % 128 → u.rt k = s.rt k) ∧ u.OtherWords s [W.STAT_SEL]) ∧
    (s.Does .clrMax fun u => u = { s with words := u.words } ∧ u.Fields s [(F.BUDGET_STAT_FAST_MAX_NS, 0)])

/-- Before its window commits an instruction has no effect on program data, the program, the protection rules or the link to the partner, and sends nothing;
of the clocks it starts at most a domain that it waits for (R177): only the commit of R180 writes them. -/
def Obligations.NoStoreBeforeCommit : Prop :=
  ∀ (i : Instr) (s : State), inWindow i = true →
    s.Does i fun u => u.mem = s.mem ∧ u.prog = s.prog ∧ u.prot = s.prot ∧ u.pair = s.pair ∧ u.tx = s.tx ∧ u.pw = { s.pw with doms := u.pw.doms }

/-! ## Online change (spec/07) and the loop engine (spec/08) -/

/-- The phases of an online change (R197, R200, R213, Table 7-1): a command that fits the phase, with an ENGINEER session open, takes the change on and leaves the running version, its data
and its settings; one that does not fit changes nothing. -/
def Obligations.OnlinePhases : Prop :=
  ∀ (s : State) (img p : Image), s.awake = true →
    let ph := s.ocPhase
    (s.engineerOpen = true → ph = 0 → s.Does (.load img) fun u =>
      u = { s with words := u.words, mram := u.mram, pair := u.pair, tx := u.tx } ∧ (s.role ≠ roleActive → u.pair = s.pair ∧ u.tx = s.tx) ∧
      u.mram = { s.mram with checked := false, areas := setNth (some img) s.mram.areas (1 - s.bank) } ∧
      u.Fields s [(F.OC_STAT_PHASE, 1), (F.OC_STAT_LOADED, 0), (⟨W.OC_VER_NEW, 31, 0⟩, img.version % 2 ^ 32)]) ∧
    (ph ≠ 0 ∨ s.engineerOpen = false → s.Does (.load img) fun u => u = s) ∧
    (s.engineerOpen = true → s.newImage = some p →
      ∀ i ∈ [Instr.ocTransferEnd, .revert, .resume], (if i = .ocTransferEnd then ph = 1 else ph = 0 ∧ s.on F.OC_STAT_LOADED = true) →
        (s.rejects p false = none → s.Does i fun u => u = { s with words := u.words, pair := u.pair, tx := u.tx } ∧
          (s.role ≠ roleActive → u.pair = s.pair ∧ u.tx = s.tx) ∧ u.ocPhase = 2 ∧ u.rd F.OC_STAT_RESULT = 0) ∧
        (∀ c k, s.rejects p false = some (c, k) → c < 16 → s.Does i fun u =>
          u = { s with words := u.words, oc := u.oc, pair := u.pair, tx := u.tx } ∧ u.ocPhase = 0 ∧ u.rd F.OC_STAT_RESULT = c ∧
          u.word W.OC_REJ_INDEX = match k with | some n => BitVec.ofNat 32 n | none => 0xFFFFFFFF#32)) ∧
    (ph ≠ 1 → s.Does .ocTransferEnd fun u => u = s) ∧
    (¬(ph = 0 ∧ s.on F.OC_STAT_LOADED = true ∧ s.engineerOpen = true) → s.Does .revert (fun u => u = s) ∧ s.Does .resume fun u => u = s) ∧
    (ph = 2 → s.Does .ocChecksComplete fun u =>
      u = { s with words := u.words, mem := u.mem, mram := { s.mram with checked := true } } ∧ u.ocPhase = 3 ∧ u.on F.OC_STAT_LOADED = true ∧ u.bank = s.bank) ∧
    (ph ≠ 2 → s.Does .ocChecksComplete fun u => u = s) ∧
    (ph = 3 → s.engineerOpen = true → s.Does .arm fun u => u = { s with words := u.words } ∧
      if s.on F.OC_CFG_ALLOW then u.Fields s [(F.OC_STAT_PHASE, 4)] else u.Fields s [(F.OC_STAT_RESULT, 9)]) ∧
    (ph ≠ 3 ∨ s.engineerOpen = false → s.Does .arm fun u => u = s) ∧
    (1 ≤ ph → ph ≤ 4 → s.engineerOpen = true → s.Does .abort fun u =>
      u = { s with words := u.words, oc := u.oc, pair := u.pair, tx := u.tx } ∧ u.Fields s [(F.OC_STAT_PHASE, 0), (F.OC_STAT_RESULT, 2)]) ∧
    (ph = 0 ∨ 5 ≤ ph ∨ s.engineerOpen = false → s.Does .abort fun u => u = s) ∧
    (ph = 4 → s.oc.trial ≠ 1 → s.Does .ocWaitTimeout fun u =>
      u = { s with words := u.words } ∧ u.Fields s [(F.OC_STAT_PHASE, 3), (F.OC_STAT_RESULT, 10)])

/-- The switch (R200, R201, R214): at a quiet point of an armed change the switch begins; at most 8 µs later the new version runs from the other bank, and the
change is over with RESULT 1; a trial that ends well on the standby leaves RESULT 1 there, and on the active the switch becomes due. -/
def Obligations.OnlineSwitch : Prop :=
  ∀ (s : State) (p : Image) (n : Nat), s.awake = true →
    (s.ocPhase = 4 → s.role = roleSolo → s.oc.trial = 0 → s.quiet = true → s.on F.OC_CFG_ALLOW = true → s.on F.HOLDUP_CHARGED = true →
      s.Does .ocSwitchPoint fun u => u = { s with words := u.words, oc := u.oc } ∧ u.Fields s [(F.OC_STAT_PHASE, 5)] ∧ u.oc.t0 = s.ns) ∧
    (s.ocPhase = 5 → n ≤ 8000 → s.newImage = some p → s.oc.toTrial = false → s.le.queue = [] → s.le.cur = none → s.sch.held = [] →
      s.Does (.ocSwitchComplete n) fun u =>
        u.prog = some p ∧ u.bank = 1 - s.bank ∧ u.ocPhase = 0 ∧ u.rd F.OC_STAT_RESULT = 1 ∧ u.word W.OC_SW_NS = BitVec.ofNat 32 n ∧
        u.ns = max s.ns (s.oc.t0 + n) ∧ u.word W.OC_VER_RUN = BitVec.ofNat 32 p.version ∧ u.on F.OC_STAT_MRAM_SYNC = false) ∧
    (s.on F.OC_STAT_TRIAL = true → s.Does .ocTrialEnd fun u =>
      u.on F.OC_STAT_TRIAL = false ∧ u.ocPhase = 0 ∧ u.rd F.OC_STAT_RESULT = 1 ∧ u.prog = s.prog ∧ u.mem = s.mem ∧ u.bank = s.bank) ∧
    (s.on F.OC_STAT_TRIAL = false → s.ocPhase = 4 → s.oc.trial = 1 → s.Does .ocTrialEnd fun u =>
      u = { s with oc := { s.oc with trial := 2 }, pair := { s.pair with partnerTrial := false } })

/-- One evaluation of the loop engine, whose clock domain runs for it (R219, R224, R228, R229, R234, R235): the oldest request is evaluated on the values of its request; in MAN and TRACK the
output is the set value within its limits and SPR follows PV; in AUTO without a rate limit it lies within the limits. Runs that agree stage the
result 390 ns after the start, a corrected mismatch 780 ns after it with FS20, and a loop fault stages nothing and raises FS21. -/
def Obligations.LoopEngine : Prop :=
  ∀ (s : State), s.awake = true →
    (∀ (q : LoopReq) (rest : List LoopReq) (r : LoopRt), s.engineRuns = true → s.le.cur = none → s.le.queue = q :: rest →
      s.loop q.loop = some r → s.le.resident.contains q.loop = true → r.batches = [] → s.loopRuns r = true → q.denied = false →
      lq r.f 15 ≤ lq r.f 14 →
      s.Does .loopEvaluation fun u => u.le.queue = rest ∧ u.mem = s.mem ∧ u.words = s.words ∧
        ∃ g, u.le.cur = some ⟨q, max s.le.free q.ns, g⟩ ∧ g.length = 72 ∧
          (lMode r.f ≠ 2 → lq g 64 = max (lq r.f 15) (min (lq r.f 14) (if lMode r.f = 1 then lq r.f 12 else lq r.f 13)) ∧ lf g 65 = lf g 9) ∧
          (lMode r.f = 2 → lq r.f 16 = 0 → lq r.f 15 ≤ lq g 64 ∧ lq g 64 ≤ lq r.f 14) ∧
          (∀ v, nth none q.src 0 = some v → lf g 9 = v) ∧ (nth none q.src 0 = none → lf g 9 = lf r.f 9)) ∧
    (∀ (c : LoopCur) (r : LoopRt), s.dom 6 = .run → s.le.cur = some c → s.loop c.req.loop = some r →
      s.on F.FC_JIG_STAT_ARMED = false →
      (s.Does (.loopEvalComplete .agree) fun u =>
        u.le.cur = none ∧ u.le.free = c.start + 390 ∧ u.words = s.words ∧ (u.loop c.req.loop).map (·.staged) = some (some c.out)) ∧
      (s.Does (.loopEvalComplete .repeatAgrees) fun u =>
        u.le.cur = none ∧ u.le.free = c.start + 780 ∧ (u.loop c.req.loop).map (·.staged) = some (some c.out) ∧
        u.rd F.LE_MM_TOTAL = min (2 ^ 32 - 1) (s.rd F.LE_MM_TOTAL + 1) ∧ ∃ x ∈ u.raised, x.src = 20 ∧ x.agent = c.req.loop) ∧
      (s.Does (.loopEvalComplete .disagree) fun u =>
        u.le.cur = none ∧ (u.loop c.req.loop).map (·.staged) = some r.staged ∧
        u.rd F.LE_FLT_TOTAL = min (2 ^ 32 - 1) (s.rd F.LE_FLT_TOTAL + 1) ∧ ∃ x ∈ u.raised, x.src = 21 ∧ x.agent = c.req.loop)) ∧
    (s.Does .clrLast fun u => u = { s with words := u.words } ∧ u.word W.LE_LAST = 0 ∧ u.OtherWords s [W.LE_LAST]) ∧
    (s.Does .clrStats fun u => u = { s with words := u.words, le := u.le } ∧
      u.Fields s [(F.LE_MM_TOTAL, 0), (F.LE_FLT_TOTAL, 0), (F.LE_LATE_TOTAL, 0), (F.LE_LOAD_PEAK_TICK, 0)] ∧
      ∀ e ∈ u.le.tab, e.2.swaps = 0 ∧ e.2.mm = 0 ∧ e.2.late = 0 ∧ e.2.latMax = 0)

/-! ## The redundant pair (spec/09) -/

/-- Presence and the Dovetail link (R250–R256): liveness and its stop, the verdicts on the partner, heartbeats sent, taken and lost, the link's counts, and
replay. With SEATED, PRESENT is HB_OK or ALV_OK; without it, a valid heartbeat counts as presence. -/
def Obligations.PairPresence : Prop :=
  ∀ (s : State) (b : Bool) (d : HbData) (q : Nat),
    let hb := s.on F.PAIR_STAT_HB_OK
    let seat := s.on F.PAIR_STAT_SEATED
    let beats := decide (s.pair.hbRun ≠ 0)
    (s.pw.alvRun = true → s.Does .alvOutToggle fun u =>
      u = { s with pw := { s.pw with alvOut := !s.pw.alvOut }, tx := s.tx ++ [⟨.field, .level, [2, bitNat (!s.pw.alvOut)]⟩] }) ∧
    (s.pw.alvRun = true → s.Does .livenessLapse fun u =>
      u = { s with pw := u.pw, tx := u.tx } ∧ u.pw.alvRun = false ∧ u.pw.alvOut = false ∧ u.pw.roleOut = false) ∧
    (s.Does .alvEdge fun u => u.on F.PAIR_STAT_ALV_OK = true ∧ u.pair.alvIgnored = false ∧ u.on F.PAIR_STAT_PRESENT = (seat || beats) ∧ u.mem = s.mem) ∧
    (s.Does .alvDead fun u => u.on F.PAIR_STAT_ALV_OK = false ∧ u.on F.PAIR_STAT_PRESENT = (if seat then hb else beats) ∧
      (hb = true → u.on F.PAIR_EVT_ALV_FAULT = true ∧ u.pair.alvIgnored = true ∧ ∃ x ∈ u.raised, x.src = 29)) ∧
    (s.Does (.seatedChange b) fun u => u.on F.PAIR_STAT_SEATED = b ∧ u.on F.SLOT_STAT_SEATED = b ∧
      u.on F.PAIR_STAT_PRESENT = if b then hb || s.on F.PAIR_STAT_ALV_OK else beats) ∧
    (s.pair.deciding = false → s.Does (.claimChange b) fun u => u = { s with words := u.words } ∧ u.Fields s [(F.PAIR_STAT_CLAIM, bitNat b)]) ∧
    (s.pairUp = true → s.pw.alvRun = true → s.dtMute = false → s.awake = true → s.Does .hbSend fun u =>
      u = { s with tx := u.tx } ∧ ∃ l, u.tx = s.tx ++ [⟨.dovetail, .hb, 0 :: 32 :: 0 :: s.epoch :: s.pair.rxSeq :: s.role :: s.tick :: s.ttNow :: l⟩]) ∧
    (s.awake = true → s.on F.DT_STAT_LINK_UP = true → s.pairUp = true → s.dtMute = false → s.on F.FC_JIG_STAT_ARMED = false → s.Does (.hb d) fun u =>
      u.pair.partner = some d ∧ u.pair.hbRun = min 3 (s.pair.hbRun + 1) ∧ u.on F.PAIR_STAT_HB_OK = (hb || decide (2 ≤ s.pair.hbRun)) ∧
      (seat = false → u.on F.PAIR_EVT_PRES_FAULT = true)) ∧
    (s.awake = true → s.pair.hbRun ≠ 0 → s.Does .hbLost fun u => u.pair.hbRun = 0 ∧ u.on F.PAIR_STAT_HB_OK = false ∧
      (s.shadowing = false → u.on F.PAIR_STAT_PRESENT = (seat && s.on F.PAIR_STAT_ALV_OK)) ∧
      (s.shadowing = false → s.pair.linkFault = false → ∃ x ∈ u.raised, x.src = 25)) ∧
    (s.awake = true → s.pairUp = true → s.Does .dovetailLinkUp fun u =>
      u = { s with words := u.words, pair := u.pair } ∧ u.Fields s [(F.DT_STAT_LINK_UP, 1)] ∧
      u.pair = { s.pair with linkFault := false, txSeq := 0, rxSeq := 0, acked := 0, replay := [], resent := [], naks := 0 }) ∧
    (s.awake = true → s.on F.DT_STAT_LINK_UP = true → s.Does .dovetailLinkDown fun u =>
      u.on F.DT_STAT_LINK_UP = false ∧ u.pair.linkFault = true ∧
      (s.pair.linkFault = false → hb = true ∨ (s.shadowing = false ∧ s.pair.verdict = false) → ∃ x ∈ u.raised, x.src = 25)) ∧
    (s.awake = true → s.on F.DT_STAT_LINK_UP = true → s.pairUp = true → s.dtMute = false → s.pair.naks < 3 → s.Does (.dovetailFrameDrop q) fun u =>
      u.rd F.DT_ERR = min F.DT_ERR.max (s.rd F.DT_ERR + 1) ∧
      u.tx = s.tx ++ [⟨.dovetail, .nak, [0, 4, 0, s.epoch, s.pair.rxSeq, s.pair.rxSeq + 1]⟩] ∧ u.pair = { s.pair with naks := u.pair.naks }) ∧
    (∀ h : DtHdr, s.awake = true → s.on F.DT_STAT_LINK_UP = true → s.pairUp = true → h.epoch ≤ s.epoch → h.epoch ≤ s.rd F.EPOCH_SEEN → h.ack ≤ s.pair.acked →
      q ≤ s.pair.txSeq → (∃ f ∈ s.pair.replay, f.seq = q) → (∀ f ∈ s.pair.replay, q ≤ f.seq → tget 0 s.pair.resent f.seq < 3) → s.Does (.nak ⟨h, q⟩) fun u =>
        let l := s.pair.replay.filter fun (f : DtFrame) => decide (q ≤ f.seq)
        u.tx = s.tx ++ l.map (fun (f : DtFrame) =>
          Tx.mk .dovetail f.kind ((1 + 2 * bitNat (f.kind == .bulk || f.kind == .mrec)) :: (f.len - 20) :: f.seq :: s.epoch :: s.pair.rxSeq :: f.data)) ∧
        u.Fields s [(F.DT_STAT_REPLAYS, min F.DT_STAT_REPLAYS.max (s.rd F.DT_STAT_REPLAYS + l.length))] ∧ u.pair.replay = s.pair.replay)

/-- The start decision, fencing and the orphan (R265, R266, R273, R275, R276, R278, R281): who claims, who wins, and with which epoch, on a module whose
alive signal runs. -/
def Obligations.PairDecision : Prop :=
  ∀ (s : State) (mode e : Nat) (low wit dead : Bool), s.awake = true → s.pw.alvRun = true →
    let h := s.rd F.EPOCH_SEEN
    let lost := fun (u : State) => u.role = roleUnsync ∧ u.pw.roleOut = false ∧ u.pair.deciding = false
    let won := fun (k : Nat) (u : State) =>
      (u.role = if s.on F.PAIR_STAT_PRESENT then roleActive else roleSolo) ∧ u.epoch = k + 1 ∧ u.pw.roleOut = true ∧ u.pair.deciding = false
    (s.pw.phase = .prepared → s.pair.deciding = false → s.partnerActs = false → s.on F.PAIR_STAT_CLAIM = false → s.Does .roleDecisionStart fun u =>
      u = { s with pair := { s.pair with deciding := true, claimed := false } }) ∧
    (s.pw.phase = .prepared → s.pair.deciding = false → s.partnerActs = true ∨ s.on F.PAIR_STAT_CLAIM = true → s.Does .roleDecisionStart lost) ∧
    (s.pair.deciding = true → s.on F.DT_STAT_LINK_UP = true → max h e < 0xFFFFFFFE → (∀ d, s.pair.partner = some d → d.role ≠ roleUnsync) →
      let ahead := mode < s.pair.startMode ∨ (mode = s.pair.startMode ∧ (e < s.storedEpoch ∨ (e = s.storedEpoch ∧ s.inSlot2 = false)))
      (ahead → s.Does (.startRecordExchange mode e) (won (max h e))) ∧ (¬ahead → s.Does (.startRecordExchange mode e) lost)) ∧
    (s.pair.deciding = true → s.pair.claimed = false → s.aloneNow = true →
      (low = false → wit = false → s.Does (.roleClaimInstant low wit) fun u =>
        u = { s with pair := { s.pair with claimed := true }, pw := { s.pw with roleOut := true }, tx := u.tx }) ∧
      (low = true ∨ wit = true → s.Does (.roleClaimInstant low wit) lost)) ∧
    (s.pair.deciding = true → s.pair.claimed = true → h < 0xFFFFFFFE →
      s.Does (.roleClaimCheck low wit) fun u =>
        (low = true → u.on F.PAIR_EVT_ARB_CONFLICT = true ∧ ∃ x ∈ u.raised, x.src = 29) ∧
        (wit = true ∨ (low = true ∧ s.inSlot2 = true) → lost u) ∧ (wit = false → low = false ∨ s.inSlot2 = false → won h u)) ∧
    (s.pair.verdict = true → s.pair.alvIgnored = false → s.Does (.takeoverVerdict dead) fun u =>
      u.rd F.LAST_TAKEOVER_VERDICT = (if dead then 1 else 2) ∧ u.on F.PAIR_STAT_ALV_OK = !dead ∧ u.pair.verdict = false) ∧
    (s.isActive = true → s.epoch < e ∨ (s.epoch = e ∧ s.inSlot2 = true) → e < 2 ^ 32 → s.Does (.fence e) fun u =>
      u.role = roleFenced ∧ u.pw.roleOut = false ∧ u.on F.PAIR_EVT_FENCED = true ∧ u.rd F.EPOCH_SEEN = max h e ∧ ∃ x ∈ u.raised, x.src = 28) ∧
    (e < s.epoch ∨ (e = s.epoch ∧ s.inSlot2 = false) → e ≤ h → s.Does (.fence e) fun u => u = s) ∧
    (s.role = roleFenced → s.on F.PAIR_CFG_RESYNC_AUTO = false → s.Does .fenceTimeout fun u => u.role = roleUnsync ∧ u.mem = s.mem) ∧
    (s.isActive = false → s.partnerActs = false → s.shadowing = false → s.Does .epochReset fun u =>
      u = { s with words := u.words, mram := { s.mram with epochA := u.mram.epochA, epochB := u.mram.epochB } } ∧ u.storedEpoch = 0 ∧
      u.Fields s [(F.EPOCH, 0), (F.EPOCH_SEEN, 0)]) ∧
    (s.isActive = true ∨ s.partnerActs = true → s.Does .epochReset fun u => u = s) ∧
    (s.role = roleUnsync → s.shadowing = false → s.pair.deciding = false → s.pair.orphaned = false → s.on F.PAIR_STAT_PRESENT = false →
      s.on F.PAIR_CFG_ORPHAN_START = false → s.Does .orphanTimeout fun u =>
        u = { s with words := u.words, pair := { s.pair with orphaned := true }, raised := u.raised } ∧ u.Fields s [(F.RESYNC_STAT_PHASE, 0)] ∧
        u.Raised s [(31, 0, 0, 1)]) ∧
    (s.isStandby = true → s.pair.witTick = some s.tick → s.pair.hbLost = false → s.Does .witnessWindowClose fun u =>
      u = { s with words := u.words, pair := { s.pair with missed := 0, kerf := 0 } } ∧ u.Fields s [(F.PAIR_STAT_RING_OK, 1)]) ∧
    (s.role = roleSync → s.pair.witTick ≠ some s.tick → s.on F.PAIR_STAT_HB_OK = false → 1 ≤ s.pair.missed → s.pair.hbLost = true →
      s.on F.RESYNC_STAT_DETACHED = false → h < 0xFFFFFFFE → s.Does .witnessWindowClose fun u => u.TookOver s 1)

/-- The standby's stream (R254, R257–R261): a numbered frame that arrives in order is taken and its record kept for its point; a hash that differs, and a cycle
that lags, drop synchronisation; a frame ahead of its order is not taken but asked for again. -/
def Obligations.PairStream : Prop :=
  ∀ (s : State) (h : DtHdr) (a b c : Nat) (hash : BitVec 64) (cells : List (Nat × Byte)) (writes : List (Loc × Byte)) (p : ExtPoint) (vals : List Nat),
    s.Accepts h → s.shadowing = true →
    let t := s.took h
    (a < 2 ^ 64 → s.Does (.tickRecord h a b) fun u =>
      u = { t with words := u.words, sch := { s.sch with ttOff := (b : Int) - ((s.ns / 1000 : Nat) : Int) } } ∧ u.tick = a ∧ u.ttNow = b ∧
      u.OtherWords s [W.TICK_LO, W.TICK_HI]) ∧
    (s.Does (.releaseRecord h a b c) fun u => u = { t with pair := { t.pair with releases := s.pair.releases ++ [⟨a, b, c⟩] } }) ∧
    (s.Does (.inputRecord h a b c cells) fun u => u = { t with pair := { t.pair with inputs := s.pair.inputs ++ [⟨a, b, c, cells⟩], inOpen := some (a, b) } }) ∧
    (s.Does (.serviceRecord h a b vals) fun u => u = { t with lp := { s.lp with services := s.lp.services ++ [(a, b, vals)] } }) ∧
    (s.Does (.preemptRecord h a b c) fun u => u = { t with pair := { t.pair with preempts := s.pair.preempts ++ [(a, b, c)] } }) ∧
    (s.Does (.extwriteRecord h writes p) fun u =>
      u = { t with pair := { t.pair with extwrites := s.pair.extwrites ++ [(writes, p, s.sch.ord + s.pair.releases.length)] } }) ∧
    ((∀ o ∈ s.pair.ours, ¬(o.task = a ∧ o.cycle = b)) → s.Does (.hashRecord h a b c hash) fun u =>
      u = { t with pair := { t.pair with theirs := s.pair.theirs ++ [⟨a, b, c, hash⟩] } }) ∧
    (∀ o : HashRec, s.pair.ours = [o] → s.pair.theirs = [] → o.task = a → o.cycle = b → s.InSync →
      (o.hash = hash → s.Does (.hashRecord h a b c hash) fun u =>
        u.rd F.HASH_SAME = min F.HASH_SAME.max (s.rd F.HASH_SAME + 1) ∧ u.role = roleSync ∧ u.pair.theirs = [] ∧ u.pair.ours = []) ∧
      (o.hash ≠ hash → s.Does (.hashRecord h a b c hash) fun u =>
        u.Dropped s 2 ∧ u.rd F.HASH_DIFF = min F.HASH_DIFF.max (s.rd F.HASH_DIFF + 1) ∧ u.on F.PAIR_EVT_HASH = true)) ∧
    (s.InSync → (∃ x ∈ s.pair.theirs, x.task = a ∧ x.cycle = b) → s.Does (.lagTimeout a b) fun u => u.Dropped s 4) ∧
    (∀ h2 : DtHdr, h.seq < h2.seq → h2.ack ≤ s.pair.acked → h2.epoch ≤ s.epoch → h2.epoch ≤ s.rd F.EPOCH_SEEN → s.Does (.releaseRecord h2 a b c) fun u =>
      u = { s with tx := s.tx ++ [⟨.dovetail, .nak, [0, 4, 0, s.epoch, s.pair.rxSeq, s.pair.rxSeq + 1]⟩] })

/-- Handover, departure, detaching and resynchronisation (R262, R274, R280–R282, R287; spec/07 R214): what each command and control frame does on the role it is
for. -/
def Obligations.PairControl : Prop :=
  ∀ (s : State) (h : DtHdr) (k : Nat), s.awake = true →
    let ph := s.rd F.RESYNC_STAT_PHASE
    let link := s.on F.DT_STAT_LINK_UP
    (s.role = roleActive → s.partnerRole = roleSync → link = true → s.pair.handover = none → s.Does .handover fun u =>
      u.pair.handover = some (s.tick + 2, 2) ∧ u.words = s.words ∧ u.mem = s.mem) ∧
    (s.role ≠ roleActive → s.role ≠ roleSync → s.Does .handover fun u =>
      u = { s with words := u.words } ∧ u.Fields s [(F.PAIR_EVT_HO_REFUSED, 1)]) ∧
    (s.role = roleActive → s.partnerRole = roleSync → s.on F.PAIR_CFG_RINGDOWN_HO = true → s.on F.RING_STAT_LINK_A = false →
      s.on F.RING_STAT_LINK_B = false → (∃ d, s.pair.partner = some d ∧ d.linkA = true) → s.pair.handover = none → s.Does .ringdownTimeout fun u =>
        u.pair.handover = some (s.tick + 2, 3) ∧ u.words = s.words ∧ u.mem = s.mem) ∧
    (s.role = roleActive → s.partnerRole ≠ roleSync → s.on F.PAIR_CFG_RINGDOWN_HO = true → s.on F.RING_STAT_LINK_A = false →
      s.on F.RING_STAT_LINK_B = false → (∃ d, s.pair.partner = some d ∧ d.linkA = true) → s.Does .ringdownTimeout fun u =>
        u = { s with words := u.words } ∧ u.Fields s [(F.PAIR_EVT_HO_REFUSED, 1)]) ∧
    (s.InSync → s.Does .detach fun u => u.Dropped s 6 ∧ u.on F.RESYNC_STAT_DETACHED = true) ∧
    (s.role = roleActive → s.Does .detach fun u => u = { s with pair := u.pair, tx := u.tx } ∧ u.pair.ptnDetached = true) ∧
    (s.role = roleUnsync → s.Does .resync fun u => u.on F.RESYNC_STAT_DETACHED = false ∧ u.pair.retryWait = false ∧ u.mem = s.mem) ∧
    (s.role = roleActive → s.Does .resync fun u => u = { s with pair := u.pair, tx := u.tx }) ∧
    (s.Does .pairClrStats fun u => u = { s with words := u.words } ∧ u.Fields s [(F.TAKEOVER_CNT, 0), (F.HASH_SAME, 0), (F.HASH_DIFF, 0),
      (⟨W.FWD_TICK_MAX, 31, 0⟩, 0), (⟨W.FWD_1MS_MAX, 31, 0⟩, 0), (F.DT_ERR, 0), (⟨W.KERF_DROPS, 31, 0⟩, 0), (F.SYNC_INFO_LOSSES, 0)]) ∧
    (s.Accepts h →
      (s.role = roleSync → s.on F.RESYNC_STAT_DETACHED = false → s.Does (.ctrlHandover h k) fun u => ∃ c,
        u = { s.took h with pair := { (s.took h).pair with handover := some (k, c) } }) ∧
      (s.InSync → 1 ≤ k → k < 16 → s.Does (.ctrlSyncDropped h k) fun u => u.Dropped s k) ∧
      (s.isActive = true → s.Does (.ctrlSyncDropped h k) fun u => u.pair.fwdStopped = true ∧ u.role = s.role) ∧
      (s.InSync → s.Does (.ctrlDetach h) fun u => u.Dropped s 6 ∧ u.on F.RESYNC_STAT_DETACHED = true) ∧
      (s.role = roleUnsync → s.Does (.ctrlResync h) fun u => u.on F.RESYNC_STAT_DETACHED = false ∧ u.pair.retryWait = false) ∧
      (∀ same diff, s.isActive = true → 1 ≤ s.ocPhase → s.ocPhase ≤ 4 →
        (k ≠ 1 → k < 16 → s.Does (.ctrlTrialResult h ⟨k, same, diff⟩) fun u =>
          u.ocPhase = 0 ∧ u.rd F.OC_STAT_RESULT = k ∧ u.prog = s.prog ∧ u.mem = s.mem ∧ u.word W.OC_TRIAL_SAME = BitVec.ofNat 32 same ∧
          u.word W.OC_TRIAL_DIFF = BitVec.ofNat 32 diff) ∧
        (s.oc.trial = 1 → s.Does (.ctrlTrialResult h ⟨1, same, diff⟩) fun u =>
          u.oc = { s.oc with trial := 2 } ∧ u.pair.partnerTrial = false ∧ u.OtherWords s [W.OC_TRIAL_SAME, W.OC_TRIAL_DIFF])) ∧
      (s.role = roleSync → s.on F.RESYNC_STAT_DETACHED = false → s.pw.alvRun = true → s.rd F.EPOCH_SEEN < 0xFFFFFFFE → s.Does (.depart h k) fun u => u.TookOver s 4) ∧
      (s.isActive = true → s.Does (.depart h k) fun u => u.pair.fwdStopped = true ∧ u.mem = s.mem) ∧
      (∀ d : MarkData, d.switchMark = false → d.tick < 2 ^ 64 → s.role = roleUnsync → ph = 5 → s.Does (.mark h d) fun u =>
        u.tick = d.tick ∧ u.ttNow = d.tt ∧ u.pair.marked0 = true ∧ (∀ v, (u.rt v).st = .idle) ∧ u.rd F.SCH_STAT_STATE = 2 ∧
        ∀ v < 96, u.enabled v = d.enabled.contains v) ∧
      (∀ cells : List (Loc × Byte), s.role = roleUnsync → 3 ≤ ph → (ph = 4 → s.rd F.RESYNC_STAT_ROUNDS < 8) → s.pair.marking = false → s.Does (.bulk h (.memory cells)) fun u =>
        u.mem = cells.foldl (fun m e => mset (cellKey s.bank e.1) e.2 m) s.mem ∧ u.OtherWords s [W.RESYNC_STAT]) ∧
      (∀ w : List Word, s.isActive = true → s.Does (.mrec h w) fun u => u.mrt.mrecNs = some s.ns ∧ u.on F.PTN_STAT_PTN_VALID = true ∧ u.mem = s.mem)) ∧
    (s.role = roleUnsync → ph = 1 → s.on F.DT_STAT_PROTO_OK = true → s.Does .resyncPhaseComplete fun u =>
      u = { s with words := u.words } ∧
      u.Fields s [(F.RESYNC_STAT_PHASE, if s.pair.partner.any (fun d => some d.version == s.prog.map Image.version) then 3 else 2)]) ∧
    (s.role = roleUnsync → ph = 3 ∨ ph = 4 → s.Does .resyncPhaseComplete fun u =>
      u = { s with words := u.words } ∧ u.Fields s [(F.RESYNC_STAT_PHASE, ph + 1)]) ∧
    (s.role = roleUnsync → ph = 6 → (∀ v < 32, s.enabled v = true → v ∈ s.pair.agreed) → 1000 ≤ s.pair.agreeCnt → s.pair.copyDone = true →
      s.on F.HOLDUP_CHARGED = true → s.Does .resyncPhaseComplete fun u =>
        u.role = roleSync ∧ u.rd F.RESYNC_STAT_PHASE = 0 ∧ u.rd F.RESYNC_STAT_FAILS = 0 ∧ u.mem = s.mem) ∧
    (s.role = roleUnsync → ph ≠ 0 → ph ≠ 6 → s.Does .resyncPhaseFail fun u =>
      u = { s with words := u.words, pair := u.pair, raised := u.raised } ∧ u.Raised s [(31, 0, ph, 0)] ∧ u.pair.retryWait = true ∧
      u.Fields s [(F.RESYNC_STAT_PHASE, 0), (F.RESYNC_STAT_FAILS, min 15 (s.rd F.RESYNC_STAT_FAILS + 1))]) ∧
    (s.pair.retryWait = true → s.mayResync = true → s.budgetSpent = false → s.Does .resyncRetry fun u =>
      u.pair.retryWait = false ∧ u.rd F.RESYNC_STAT_PHASE = 1 ∧ u.pair.resyncNs = s.ns) ∧
    (s.role = roleActive → s.pair.cutover = true → s.quiet = true → s.lp.halted = false → s.Does .resyncCutoverPoint fun u =>
      u.pair.cutover = false ∧ u.pair.marking = false ∧ u.pair.fwdStopped = false ∧ u.word W.HASH_SAME = 0 ∧ u.OtherWords s [W.HASH_SAME])

/-! ## The Mortise (spec/10) -/

/-- The Mortise measures and reports (R290, R291, R294, R296, R298, R299, R301, R307, R310, R313, R314, R316, R317, R319): what each of its commands does
where it runs. An accepted pulse edge adds 1 to the count of its train from 50 ms after the supply came up, and a shorter one changes nothing. A cycle's end books the
counts in the totalisers and sends the mailbox frame, while the Mortise starts, installs or has failed only the frame. A frame that passes its check puts its words in
place and sets LINK_OK; one that fails is dropped, counted and raised as FS33; 250 ms without one clear LINK_OK and raise FS32. A record reaches its place in the record
ring. The HART poll asks for the primary variable and the status of each transmitter. Detector edges begin and end a pass; a missing one aborts. The offered time is
followed by at most 10 µs, or refused beyond a minute with the seal closed. The display is offered the legal content. A supply warning books the partial cycle and stops the
Mortise; its start takes the newest FRAM copy that passes its check. Without MREC the partner's words are no longer valid. -/
def Obligations.MortiseMeasures : Prop :=
  ∀ (s : State) (i r tNs high low : Nat) (c : CycleMeas) (replies : List (Option (Word × Nat))) (damage : List Word),
    let m := s.mrt
    let works := m.powered = true ∧ m.failed = false ∧ m.installing = false ∧ m.starting = false
    let countable := r < 2 ∧ (m.rp r).configured = true ∧ (m.rp r).twin = false ∧ (m.rp r).trainB = false ∧ 0 < (m.rp r).kf ∧
      (m.rp r).kf ∣ (m.run r).a * 10 ^ 9 * 2 ^ 32 ∧ (m.run r).rIv < 2 ^ 32 ∧ (m.run r).iv + (m.run r).a * 10 ^ 9 / (m.rp r).kf + 1 < 2 ^ 64
    let booked := fun (u : State) => (u.mrt.run r).a = 0 ∧ (u.mrt.run r).b = 0 ∧
      (u.mrt.run r).pulses = ((m.run r).pulses + (m.run r).a) % 2 ^ 64 ∧
      (u.mrt.run r).iv * 2 ^ 32 + (u.mrt.run r).rIv = (m.run r).iv * 2 ^ 32 + (m.run r).rIv + (m.run r).a * 10 ^ 9 * 2 ^ 32 / (m.rp r).kf
    let unread := s.on F.FC_JIG_STAT_ARMED = false ∨ s.rd F.FC_JIG_STAT_CHECKER ≠ 6
    (m.powered = true → m.countsFrom ≤ s.ns → 8000 ≤ high → 8000 ≤ low → i < 4 → m.prove.busy = false → s.Does (.mpPulseEdge i tNs high low) fun u =>
      u = { s with mrt := u.mrt } ∧ (u.mrt.run (i / 2)).a = (m.run (i / 2)).a + (if i % 2 = 0 then 1 else 0) ∧
      (u.mrt.run (i / 2)).b = (m.run (i / 2)).b + i % 2 ∧ u.mrt.run (1 - i / 2) = m.run (1 - i / 2)) ∧
    (high < 8000 ∨ low < 8000 ∨ s.ns < m.countsFrom → s.Does (.mpPulseEdge i tNs high low) fun u => u = s) ∧
    (works → m.next = none → countable → s.Does (.mortiseCycleEnd c) fun u =>
      u = { s with mrt := u.mrt } ∧ u.mrt.seq = (m.seq + 1) % 2 ^ 32 ∧ u.mrt.frame.isSome = true ∧ u.mrt.par = m.par ∧ booked u) ∧
    (m.powered = true → ¬works → s.Does (.mortiseCycleEnd c) fun u =>
      u = { s with mrt := { m with seq := (m.seq + 1) % 2 ^ 32, frame := u.mrt.frame } } ∧ u.mrt.frame.isSome = true) ∧
    (∀ f : List (Nat × Word), s.awake = true → m.frame = some f → (f.map Prod.fst).Nodup → (∀ e ∈ f, e.1 ≠ W.REQ_RESP) → unread →
      s.Does (.mailboxFrame true) fun u => (∀ e ∈ f, e.1 ≠ W.MB_STAT → e.1 ≠ W.MB_PTP_LO → e.1 ≠ W.MB_PTP_HI → u.word e.1 = e.2) ∧
        u.on F.MB_STAT_LINK_OK = true ∧ u.get64 W.MB_PTP_LO W.MB_PTP_HI = s.timeBase % 2 ^ 64 ∧ u.mrt.frame = none ∧ u.mem = s.mem) ∧
    (s.awake = true → m.frame.isSome = true → s.Does (.mailboxFrame false) fun u =>
      u.rd F.MB_STAT_FRAME_ERR = (s.rd F.MB_STAT_FRAME_ERR + 1) % 65536 ∧ u.mrt = { m with frame := none } ∧ u.OtherWords s [W.MB_STAT, W.FC_JIG_STAT] ∧
      u.mem = s.mem ∧ ∃ x ∈ u.raised, x.src = 33) ∧
    (s.awake = true → s.fc.conds.contains 32 = false → s.Does .mailboxLinkTimeout fun u =>
      u = { s with words := u.words, mrt := { m with viewHold := none }, raised := u.raised, fc := u.fc } ∧ u.Fields s [(F.MB_STAT_LINK_OK, 0)] ∧
      u.fc = { s.fc with conds := s.fc.conds ++ [32] } ∧ ∃ x ∈ u.raised, x.src = 32) ∧
    (∀ (x : List Nat) (rest : List (List Nat)), s.awake = true → m.recs = x :: rest → s.on F.MB_STAT_LINK_OK = true → s.Does .mortiseRecord fun u =>
      u.mrt.recs = rest ∧ u.rd F.REC_HEAD = nth 0 x 0 % 65536 ∧ u.mem = s.mem ∧
      ∀ k < 8, u.word (0x1480 + 8 * (nth 0 x 0 % 65536 % 8) + k) = BitVec.ofNat 32 (nth 0 x k)) ∧
    (works → s.Does (.mortiseHartPoll replies) fun u =>
      u = { s with mrt := u.mrt, tx := s.tx ++ [⟨.hart, .query, [0, 1, 0, 48, 1, 1, 1, 48, 2, 1, 2, 48, 3, 1, 3, 48]⟩] } ∧ u.mrt = { m with ma := u.mrt.ma } ∧
      ∀ k < 4, (∀ v, nth none replies k = some v → (nth {} u.mrt.ma k).pv = v.1 ∧ (nth {} u.mrt.ma k).st = v.2 ∧ (nth {} u.mrt.ma k).quiet = 0) ∧
        (nth none replies k = none → nth {} u.mrt.ma k = { nth {} m.ma k with quiet := min 5 ((nth {} m.ma k).quiet + 1) })) ∧
    (works → m.prove.st = 1 → s.Does (.proverDetectorEdge 0 tNs) fun u =>
      u = { s with mrt := { m with prove := { m.prove with st := 2, tA := some tNs, tB := none, t1 := none, n := 0 } } }) ∧
    (works → m.prove.st = 2 → m.prove.tB = none → s.Does (.proverDetectorEdge (if m.par.singleDet then 0 else 1) tNs) fun u =>
      u = { s with mrt := { m with prove := { m.prove with tB := some tNs } } }) ∧
    (works → m.prove.busy = true → s.Does .detTimeout fun u =>
      u = { s with mrt := u.mrt } ∧ u.mrt.prove.st = 4 ∧ u.mrt.prove.reason = 3 ∧ u.mrt.proveDone = true) ∧
    (works → s.awake = true → s.rd F.TIME_STAT_STATE = 2 → m.clkValid = true → m.sealOpen = false → s.Does .timeOffer fun u =>
      u = { s with mrt := u.mrt, tx := s.tx ++ [⟨.mortise, .time, [s.timeBase]⟩] } ∧
      u.mrt = { m with slot2 := s.inSlot2, clk := u.mrt.clk, timeDev := u.mrt.timeDev } ∧
      let d : Int := (s.timeBase : Int) - s.mrtTime
      if 60000000000 < d ∨ d < -60000000000 then u.mrt.clk = m.clk ∧ u.mrt.timeDev = true
      else u.mrt.timeDev = false ∧ u.mrt.clk = m.clk + (if 10000 < d then 10000 else if d < -10000 then -10000 else d)) ∧
    (s.awake = true → m.powered = true → s.vn.started = false → s.Does .legalDisplayOffer fun u =>
      u = { s with tx := s.tx ++ [⟨.sealed, .display, m.legal⟩] }) ∧
    (s.awake = true → m.powered = true → s.vn.started = true → s.Does .legalDisplayOffer fun u =>
      u.mrt = m ∧ u.on F.VN_STAT_LEGAL_SEEN = true ∧ u.vn.offer = some m.legalLines ∧ (⟨.sealed, .display, m.legal⟩ : Tx) ∈ u.tx ∧ u.mem = s.mem) ∧
    (m.powered = true → m.failed = false → s.Does .mortiseSupplyWarning fun u =>
      u = { s with mrt := u.mrt } ∧ u.mrt.powered = false ∧ u.mrt.starting = true ∧ u.mrt.frame = none ∧ u.mrt.seq = 0 ∧ u.mrt.offTime = s.mrtTime ∧
      u.mrt.audit = m.audit ∧ u.mrt.par = m.par ∧ (countable → booked u)) ∧
    (m.powered = true → m.starting = false → s.Does (.mortiseStart ⟨true, damage⟩) fun u => u = s) ∧
    (m.powered = false ∨ m.starting = true → s.Does (.mortiseStart ⟨false, damage⟩) fun u =>
      u.mrt.powered = true ∧ u.mrt.starting = false ∧ u.mrt.failed = true ∧ u.mrt.seq = 0 ∧ u.mrt.run0.iv = m.run0.iv ∧ u.mrt.audit = m.audit ∧ u.mem = s.mem) ∧
    (m.powered = false ∨ m.starting = true → m.fram0 = none → m.fram1 = none → m.recs.length < 64 → s.Does (.mortiseStart ⟨true, damage⟩) fun u =>
      u.mrt.powered = true ∧ u.mrt.starting = false ∧ u.mrt.failed = false ∧ u.mrt.seq = 0 ∧ u.mrt.run0.iv = m.run0.iv ∧
      u.mrt.recs.length = m.recs.length + 1 ∧ u.mrt.audit = m.audit ∧ u.mem = s.mem) ∧
    (∀ f, m.powered = false ∨ m.starting = true → m.fram0 = some f → f.crc ^^^ nth 0 damage 0 = f.check →
      (∀ g, m.fram1 = some g → g.crc ^^^ nth 0 damage 1 ≠ g.check ∨ g.seq ≤ f.seq) → s.Does (.mortiseStart ⟨true, damage⟩) fun u =>
        u.mrt.powered = true ∧ u.mrt.starting = false ∧ u.mrt.failed = false ∧ u.mrt.run0.iv = f.run0.iv ∧ u.mrt.run0.rIv = f.run0.rIv ∧
        u.mrt.run1.gsv = f.run1.gsv ∧ u.mrt.tickets = f.tickets ∧ u.mrt.audit = m.audit ∧ u.mem = s.mem) ∧
    (∀ f g, m.powered = false ∨ m.starting = true → m.fram0 = some f → m.fram1 = some g → f.crc ^^^ nth 0 damage 0 ≠ f.check →
      g.crc ^^^ nth 0 damage 1 ≠ g.check → s.Does (.mortiseStart ⟨true, damage⟩) fun u => u.mrt.powered = true ∧ u.mrt.failed = true ∧ u.mem = s.mem) ∧
    (s.awake = true → s.Does .partnerMrecTimeout fun u => u = { s with words := u.words } ∧ u.Fields s [(F.PTN_STAT_PTN_VALID, 0)])

/-- Requests and the sealed path (R300–R305, R311, R318): what an accepted request does, what a refused one answers, and what the seal allows. -/
def Obligations.MortiseRequests : Prop :=
  ∀ (s : State) (p : MrtParams) (what n : Nat),
    let m := s.mrt
    let works := m.powered = true ∧ m.failed = false ∧ m.installing = false ∧ m.starting = false
    let asked := fun (code : Nat) => m.powered = true ∧ s.rd F.REQ_RESP_STATE = 1 ∧ s.rd F.REQ_RESP_CODE = code
    let arg := fun (k : Nat) => (s.word (W.REQ_ARG k)).toNat
    let path := s.awake = true ∧ ∃ e ∈ s.plant.sessions, e.2.rights = .metrology
    let told : Mrt := { m with slot2 := s.inSlot2 }
    let answered := fun (u : State) (st reason : Nat) => u.Fields s [(F.REQ_RESP_STATE, st), (F.REQ_RESP_REASON, reason)]
    (asked 1 → 5 ≤ arg 1 → arg 1 ≤ 100 → s.refusal 1 true true false = 0 → s.Does .startProve fun u =>
      u = { s with words := u.words, mrt := u.mrt } ∧ answered u 2 0 ∧ u.mrt.prove.st = 1 ∧ u.mrt.prove.run = arg 0 ∧ u.mrt.prove.np = arg 1 ∧
      u.mrt.prove.done = 0) ∧
    (∀ e, asked 1 → 5 ≤ arg 1 → arg 1 ≤ 100 → s.refusal 1 true true false = e → e ≠ 0 → e < 256 → s.Does .startProve fun u =>
      u = { s with words := u.words } ∧ answered u 3 e) ∧
    (asked 2 → arg 1 = 0 → s.refusal 2 false true false = 0 → m.prove.busy = true → s.Does .abortProve fun u =>
      u = { s with words := u.words, mrt := u.mrt } ∧ answered u 4 0 ∧ u.mrt.prove.st = 4 ∧ u.mrt.prove.reason = 1) ∧
    (asked 3 → m.prove.st = 3 → m.prove.mf ≠ 0 → arg 1 = m.prove.mf → arg 0 = m.prove.run → s.refusal 3 true true true = 0 → m.next = none →
      arg 0 < m.par.runs.length → s.Does .acceptMf fun u =>
        u = { s with words := u.words, mrt := u.mrt } ∧ answered u 4 0 ∧ u.mrt.prove.mf = 0 ∧ u.mrt.par = m.par ∧
        ∃ q, u.mrt.next = some q ∧ nth noRun q.runs (arg 0) = { nth noRun m.par.runs (arg 0) with mf := m.prove.mf } ∧
          ∀ k, k ≠ arg 0 → nth noRun q.runs k = nth noRun m.par.runs k) ∧
    (asked 4 → arg 1 = 0 → s.refusal 4 true true false = 0 → m.tickets.length < 64 → s.Does .issueTicket fun u =>
      u = { s with words := u.words, mrt := u.mrt } ∧ answered u 4 0 ∧ (u.mrt.run (arg 0)).batch = ((m.run (arg 0)).batch + 1) % 2 ^ 32 ∧
      (u.mrt.run (arg 0)).bGsv = 0 ∧ (u.mrt.run (arg 0)).bMass = 0 ∧ (u.mrt.run (arg 0)).gsv = (m.run (arg 0)).gsv ∧
      ∃ k, u.mrt.tickets = m.tickets ++ [k] ∧ k.run = arg 0 ∧ k.no = (m.run (arg 0)).batch ∧ k.gsv = (m.run (arg 0)).bGsv ∧
        k.mass = (m.run (arg 0)).bMass) ∧
    (s.rd F.REQ_RESP_STATE = 1 → s.Does .requestTimeout fun u => u = { s with words := u.words } ∧ u.Fields s [(F.REQ_RESP_STATE, 5)]) ∧
    (s.rd F.REQ_RESP_STATE ≠ 1 → s.Does .requestTimeout fun u => u = s) ∧
    (m.powered = true → m.sealOpen = false → m.sealCnt < 2 ^ 32 - 1 → s.Does .sealOpen fun u =>
      u = { s with mrt := u.mrt } ∧ u.mrt.sealOpen = true ∧ u.mrt.sealCnt = m.sealCnt + 1 ∧ u.mrt.par = m.par ∧ u.mrt.audit = m.audit) ∧
    (m.powered = true → m.sealOpen = true → s.Does .sealClose fun u =>
      u = { s with mrt := u.mrt } ∧ u.mrt.sealOpen = false ∧ u.mrt.staged = none ∧ u.mrt.par = m.par ∧ u.mrt.sealCnt = m.sealCnt) ∧
    (m.powered = false → s.Does .sealOpen fun u => u = { s with mrt := { m with sealOpen := true } }) ∧
    (¬path → ∀ k ∈ [Instr.stageParameters p, .activateParameters, .sealedRead what n, .auditArchive n], s.Does k fun u => u = s) ∧
    (path → works → m.sealOpen = true → s.Does (.stageParameters p) fun u => u = { s with mrt := { told with staged := some p } }) ∧
    (path → m.powered = true → m.sealOpen = false → ∀ k ∈ [Instr.stageParameters p, .activateParameters, .auditArchive n],
      s.Does k fun u => u = { s with mrt := told }) ∧
    (path → works → m.sealOpen = true → m.prove.busy = false → m.staged = some p →
      let changes := changesOf m.par.flat p.flat
      (m.audit.length + changes.length ≤ 1024 → s.Does .activateParameters fun u =>
        u = { s with mrt := u.mrt } ∧ u.mrt.next = some p ∧ u.mrt.staged = none ∧ u.mrt.par = m.par ∧
        u.mrt.audit.length = m.audit.length + changes.length ∧ u.mrt.nextEntry = m.nextEntry + changes.length) ∧
      (1024 < m.audit.length + changes.length → s.Does .activateParameters fun u => u = { s with mrt := { told with auditFull := true } })) ∧
    (path → m.powered = true → s.Does (.sealedRead what n) fun u =>
      u = { s with tx := u.tx, mrt := told } ∧ ∃ d, u.tx = s.tx ++ [⟨.sealed, .reply, what :: d⟩] ∧ (what = 0 → d.length = m.par.flat.length)) ∧
    (path → works → m.sealOpen = true → s.Does (.auditArchive n) fun u =>
      u = { s with mrt := { told with audit := m.audit.filter (fun (e : Audit) => decide (n < e.no)), auditFull := u.mrt.auditFull } } ∧
      (u.mrt.auditFull = true ↔ m.auditFull = true ∧ ∀ e ∈ m.audit, n < e.no)) ∧
    (s.upd.offered = true → s.pw.phase = .loading → works → m.sealOpen = true → m.audit.length < 1024 → m.prove.busy = false → s.Does (.mrtAnswer true) fun u =>
      u.mrt = { told with installing := true, part := s.upd.mrtDigest } ∧ u.pw.phase = .checked ∧ u.mem = s.mem) ∧
    (m.installing = true → m.audit.length < 1024 → s.Does .mrtInstallComplete fun u =>
      u = { s with mrt := u.mrt, upd := { s.upd with mrtFw := m.part } } ∧ u.mrt.installing = false ∧ u.mrt.fw = m.fw + 1 ∧
      u.mrt.audit.length = m.audit.length + 1 ∧ u.mrt.seq = 0) ∧
    (m.installing = true → 1024 ≤ m.audit.length → s.Does .mrtInstallComplete fun u => u = { s with mrt := { m with installing := false, auditFull := true } })

/-! ## Local field inputs and outputs (spec/11) -/

/-- The inputs and the isolation link (R328–R334, R339–R343, R347–R349): filtering and debouncing, wire break and stuck inputs, counts, conversions, valid and
missed frames. -/
def Obligations.FieldInputs : Prop :=
  ∀ (s : State) (n t : Nat) (level reached short : Bool) (val : Int),
    let d := s.diCh n
    let x := s.ucCh n
    let at_ := t / 25 * 25
    let unread := s.on F.FC_JIG_STAT_ARMED = false ∨ s.rd F.FC_JIG_STAT_CHECKER ≠ 4
    (n < 16 → d.level ≠ level → s.on (F.DI_CFG_CNT_EN n) = false → s.rd (F.DI_CFG_DEB_US n) = 0 → d.deb ≠ level → s.lio.edges.length < 64 →
      s.Does (.diFilteredChange n level t) fun u =>
        (u.diCh n).level = level ∧ (u.diCh n).deb = level ∧ (u.diCh n).waiting = false ∧ u.lio.edges = s.lio.edges ++ [⟨n, level, at_ - 1000, false⟩] ∧
        u.OtherWords s [W.DI_LIVE] ∧ u = { s with words := u.words, lio := u.lio }) ∧
    (n < 16 → d.level ≠ level → s.on (F.DI_CFG_CNT_EN n) = false → s.rd (F.DI_CFG_DEB_US n) ≠ 0 → d.changes + 1 < 16 →
      s.Does (.diFilteredChange n level t) fun u =>
        u = { s with lio := { s.lio with di := u.lio.di } } ∧ (u.diCh n).level = level ∧ (u.diCh n).deb = d.deb ∧ (u.diCh n).waiting = true ∧
        (u.diCh n).changes = d.changes + 1 ∧ (u.diCh n).since = at_) ∧
    (n < 16 → d.level ≠ level → s.on (F.DI_CFG_CNT_EN n) = false → s.rd (F.DI_CFG_DEB_US n) ≠ 0 → d.changes = 15 →
      s.Does (.diFilteredChange n level t) fun u =>
        (u.diCh n).changes = 16 ∧ u.bitOf F.DI_EVT_CHATTER n = true ∧ (∃ r ∈ u.raised, r.src = 38 ∧ r.agent = n) ∧ u.OtherWords s [W.DI_EVT]) ∧
    (n < 4 → d.level = false → s.on (F.DI_CFG_CNT_EN n) = true → d.lastRise = none → s.Does (.diFilteredChange n true t) fun u =>
      (u.diCh n).count = (d.count + 1) % 2 ^ 32) ∧
    (∀ t0, n < 4 → d.level = false → s.on (F.DI_CFG_CNT_EN n) = true → d.lastRise = some t0 → at_ - t0 < 9975 → s.Does (.diFilteredChange n true t) fun u =>
      (u.diCh n).count = (d.count + 1) % 2 ^ 32 ∧ u.bitOf F.CNT_STAT_OVERRUN n = true ∧
      (s.bitOf F.CNT_STAT_OVERRUN n = false → ∃ r ∈ u.raised, r.src = 39 ∧ r.agent = n)) ∧
    (n < 16 → d.waiting = true → s.Does (.diDebounceComplete n) fun u =>
      (u.diCh n).deb = d.level ∧ (u.diCh n).waiting = false ∧ (u.diCh n).changes = 0 ∧ u.mem = s.mem) ∧
    (n < 16 → s.on (F.DI_CFG_WB_EN n) = true → s.bitOf F.DI_LIVE_WBRK n = false → s.Does (.diWireBreak n true) fun u =>
      u = { s with words := u.words, raised := u.raised } ∧ u.bitOf F.DI_LIVE_WBRK n = true ∧ u.bitOf F.DI_EVT_WBRK_SEEN n = true ∧
      ∃ r ∈ u.raised, r.src = 38 ∧ r.agent = n) ∧
    (n < 16 → s.on (F.DI_CFG_WB_EN n) = true → s.Does (.diWireBreak n false) fun u =>
      u = { s with words := u.words } ∧ u.bitOf F.DI_LIVE_WBRK n = false ∧ u.OtherWords s [W.DI_LIVE]) ∧
    (n < 16 → s.rd (F.DI_STUCK n) ≠ 0 → d.deb = true → s.bitOf F.DI_LIVE_STUCK n = false → s.Does (.diStuckTimeout n) fun u =>
      u = { s with words := u.words, raised := u.raised } ∧ u.bitOf F.DI_LIVE_STUCK n = true ∧ u.bitOf F.DI_STUCK_EVT n = true ∧
      ∃ r ∈ u.raised, r.src = 38 ∧ r.agent = n) ∧
    (s.awake = true → n < 4 → s.Does (.cntClr n) fun u =>
      u = { s with lio := { s.lio with di := u.lio.di } } ∧ u.diCh n = { d with count := 0 } ∧ ∀ k < 16, k ≠ n → u.diCh k = s.diCh k) ∧
    (s.awake = true → n < 4 → s.Does (.overrunClear n) fun u =>
      u = { s with words := u.words } ∧ u.bitOf F.CNT_STAT_OVERRUN n = false ∧ u.OtherWords s [W.CNT_STAT] ∧
      ∀ k < 4, k ≠ n → u.bitOf F.CNT_STAT_OVERRUN k = s.bitOf F.CNT_STAT_OVERRUN k) ∧
    (n < 8 → x.settling = true → s.Does (.ucSettleComplete n) fun u =>
      u = { s with lio := { s.lio with uc := u.lio.uc } } ∧ (u.ucCh n).mode = s.rd (F.UC_CFG_MODE n) ∧ (u.ucCh n).settling = false ∧
      (u.ucCh n).valid = false) ∧
    (n < 8 → x.settling = false → x.mode = 1 ∨ x.mode = 3 → x.opened = false → x.cjFail = false → s.Does (.ucConversion n val reached short) fun u =>
      (u.ucCh n).val = max 0 (min 24000000 val) ∧ (u.ucCh n).almLo = decide (val ≤ 3600000) ∧ (u.ucCh n).almHi = decide (21000000 ≤ val) ∧
      (u.ucCh n).valid = (decide (3600000 < val) && decide (val < 21000000)) ∧ (∀ k < 8, k ≠ n → u.ucCh k = s.ucCh k) ∧
      (val ≤ 3600000 → u.on (F.UC_EVT_ALARM_LO n) = true) ∧ (21000000 ≤ val → u.on (F.UC_EVT_ALARM_HI n) = true) ∧
      (val ≤ 3600000 → x.almLo = false → ∃ r ∈ u.raised, r.src = 42 ∧ r.agent = n)) ∧
    (n < 8 → x.settling = false → 11 ≤ x.mode → s.Does (.ucOpenSensorTest n level) fun u =>
      (u.ucCh n).opened = level ∧ (u.ucCh n).valid = (x.valid && !level) ∧
      (level = true → x.opened = false → u.on (F.UC_EVT_OPEN n) = true ∧ ∃ r ∈ u.raised, r.src = 42 ∧ r.agent = n)) ∧
    (n < 8 → x.mode = 13 → s.on (F.UC_CFG_CJ_FIXED n) = false →
      (s.Does (.coldJunctionFail none) fun u => (u.ucCh n).cjFail = true ∧ (u.ucCh n).valid = false ∧ (x.cjFail = false → u.on (F.UC_EVT_CJ_FAIL n) = true)) ∧
      (-32768 ≤ val → val ≤ 32767 → s.Does (.coldJunctionFail (some val)) fun u =>
        (u.ucCh n).cjFail = false ∧ u.rd F.CJ_TEMP = (val % 65536).toNat)) ∧
    (s.awake = true → unread → s.Does .isolationFrame fun u =>
      u.lio.missed = 0 ∧ u.lio.good = min 8 (s.lio.good + 1) ∧ u.lio.slot = (s.lio.slot + 1) % 8 ∧
      u.on F.LIO_STAT_LINK_OK = (s.on F.LIO_STAT_LINK_OK || decide (8 ≤ s.lio.good + 1)) ∧
      (n < 16 → u.lio.diBits.testBit n = (d.deb && !s.bitOf F.DI_LIVE_WBRK n)) ∧ u.mem = s.mem) ∧
    (s.awake = true → s.Does .isolationFrameMissed fun u =>
      u.lio.missed = s.lio.missed + 1 ∧ u.lio.good = 0 ∧ u.rd F.LINK_ERR_HOST = min F.LINK_ERR_HOST.max (s.rd F.LINK_ERR_HOST + 1) ∧
      (s.lio.missed = 2 → u.on F.LIO_STAT_LINK_OK = false ∧ u.lio.diQual = 0 ∧ u.lio.lossNs = some s.ns ∧ ∃ r ∈ u.raised, r.src = 36)) ∧
    (s.awake = true → s.lio.lossNs.isSome = true → s.lio.held = false → s.Does .hostHoldExpiry fun u =>
      u = { s with words := u.words, lio := { s.lio with held := true }, raised := u.raised } ∧ u.Fields s [(F.LIO_STAT_FAILSAFE, 1)] ∧
      ∃ r ∈ u.raised, r.src = 37)

/-- The outputs, their supply and HART (R335–R337, R344, R345, R347–R352): switch-off and return, open load and readback, fail values, the frame to the field, refused
settings, and a HART transaction from its start to its end. -/
def Obligations.FieldOutputs : Prop :=
  ∀ (s : State) (n mv : Nat) (lim : Bool) (v : Word),
    let off := s.bitOf F.DO_LIVE_OFF n
    (n < 8 → off = false → ∀ p ∈ [(Instr.doShortOff n, F.DO_EVT_SHORT), (.doThermalOff n, F.DO_EVT_THERM)], s.Does p.1 fun u =>
      u = { s with words := u.words, raised := u.raised } ∧ u.bitOf F.DO_LIVE_OFF n = true ∧ u.bitOf p.2 n = true ∧
      u.OtherWords s [W.DO_LIVE, W.DO_EVT] ∧ ∃ r ∈ u.raised, r.src = 40 ∧ r.agent = n) ∧
    (s.awake = true → n < 8 → s.Does (.doFaultClear n) fun u =>
      u = { s with words := u.words } ∧ u.bitOf F.DO_LIVE_OFF n = false ∧ u.bitOf F.DO_EVT_SHORT n = false ∧ u.bitOf F.DO_EVT_THERM n = false ∧
      u.OtherWords s [W.DO_LIVE, W.DO_EVT]) ∧
    (n < 8 → s.on (F.DO_CFG_OPEN_EN n) = true → 15000 ≤ s.lio.fldMv → s.lio.doCmd.testBit n = true → off = false → s.bitOf F.DO_LIVE_OPEN n = false →
      s.Does (.doOpenLoad n true) fun u => u.bitOf F.DO_LIVE_OPEN n = true ∧ u.bitOf F.DO_EVT_OPEN n = true ∧ ∃ r ∈ u.raised, r.src = 40 ∧ r.agent = n) ∧
    (n < 8 → s.Does (.doOpenLoad n false) fun u => u = { s with words := u.words } ∧ u.bitOf F.DO_LIVE_OPEN n = false ∧ u.OtherWords s [W.DO_LIVE]) ∧
    (n < 8 → s.on (F.DO_CFG_RB_CHK n) = true → s.bitOf F.DO_LIVE_MISMATCH n = false → s.Does (.doReadbackMismatch n true) fun u =>
      u.bitOf F.DO_LIVE_MISMATCH n = true ∧ u.bitOf F.DO_EVT_MISMATCH n = true ∧ ∃ r ∈ u.raised, r.src = 40 ∧ r.agent = n) ∧
    (n < 8 → s.Does (.doReadbackMismatch n false) fun u =>
      u = { s with words := u.words } ∧ u.bitOf F.DO_LIVE_MISMATCH n = false ∧ u.OtherWords s [W.DO_LIVE]) ∧
    (s.Does (.fldOutOfRange ⟨mv, lim⟩) fun u =>
      u = { s with words := u.words, lio := u.lio, raised := u.raised, pw := u.pw, tx := u.tx } ∧ u.lio.fldMv = mv ∧ u.OtherWords s [W.LIO_STAT] ∧
      u.on F.LIO_STAT_FLD_OK = (decide (19200 ≤ mv) && decide (mv ≤ 30000)) ∧
      (s.lio.fldOk = true → mv < 19200 ∨ 30000 < mv → ∃ r ∈ u.raised, r.src = 43) ∧ (mv < 15000 → u.doDriven = 0) ∧
      u.pw = { s.pw with alvExt := s.pw.alvExt && decide (15000 ≤ mv) && !lim, alvLimit := lim } ∧
      u.tx = s.tx ++ (if s.pw.alvExt = true ∧ (mv < 15000 ∨ lim = true) then [⟨.field, .level, [1, 0]⟩] else [])) ∧
    (s.lio.everValid = true → s.lio.failApplied = false → s.Does .fieldHoldExpiry fun u =>
      u = { s with lio := u.lio, tx := s.tx ++ [⟨.field, .level, u.fieldLevel⟩] } ∧ u.lio.failApplied = true ∧ u.lio.fieldGood = 0 ∧
      ∀ k < 8,
        (let f := (F.DO_CFG_FAIL 0).get (nth 0 s.lio.fieldSet k)
         u.lio.doCmd.testBit k = if f = 0 then false else if f = 1 then true else s.lio.doCmd.testBit k) ∧
        (let f := (F.UC_CFG_FAIL 0).get (nth 0 s.lio.fieldSet (8 + k))
         let volts := (s.ucCh k).mode = 6
         (f = 0 → nth 0 u.lio.ucCmd k = 65536) ∧ (f = 1 → nth 0 u.lio.ucCmd k = nth 65536 s.lio.ucCmd k) ∧
         (f = 2 → nth 0 u.lio.ucCmd k = if volts then 0 else 3500) ∧ (f = 3 → nth 0 u.lio.ucCmd k = 21500) ∧
         (f = 4 → nth 0 u.lio.ucCmd k = (nth 0 s.lio.fieldSet (16 + k)).toNat % 65536))) ∧
    (s.pw.phase ≠ .held → s.pw.phase ≠ .safeHold → s.pw.phase ≠ .aonOnly →
      (s.lio.failApplied = false ∨ 8 ≤ s.lio.fieldGood → ∀ o : List Byte, s.lio.out = some o → s.isActive = true → s.upd.stopping = false →
        s.Does (.hostToFieldFrame true) fun u => u = { s with lio := u.lio, tx := u.tx } ∧ u.lio.doCmd = leNat (o.take 1) ∧ u.lio.failApplied = false ∧
          u.lio.fieldGood = min 8 (s.lio.fieldGood + 1) ∧ u.lio.everValid = true ∧ u.lio.seq = (s.lio.seq + 1) % 256 ∧
          (∀ k < 8, nth 0 u.lio.ucCmd k = leNat ((o.drop (8 + 2 * k)).take 2)) ∧
          u.tx = s.tx ++ [⟨.isolation, .isolation, s.lio.seq :: 1 :: u.lio.doCmd :: u.lio.ucCmd⟩, ⟨.field, .level, u.fieldLevel⟩]) ∧
      (s.lio.failApplied = false ∨ 8 ≤ s.lio.fieldGood → s.drivesField = false → s.Does (.hostToFieldFrame true) fun u =>
        u = { s with lio := u.lio, tx := u.tx } ∧ u.doDriven = 0 ∧ ∀ k < 8, u.ucDriven k = 65536) ∧
      (s.lio.failApplied = true → s.lio.fieldGood < 8 → s.Does (.hostToFieldFrame true) fun u =>
        u.lio.failApplied = true ∧ u.lio.fieldGood = s.lio.fieldGood + 1 ∧ u.lio.doCmd = s.lio.doCmd ∧ u.lio.ucCmd = s.lio.ucCmd) ∧
      (s.Does (.hostToFieldFrame false) fun u =>
        u = { s with words := u.words, lio := { s.lio with fieldGood := 0 } } ∧
        u.rd F.LINK_ERR_FIELD = min F.LINK_ERR_FIELD.max (s.rd F.LINK_ERR_FIELD + 1))) ∧
    (s.awake = true → n < 16 → v.toNat % 2 ^ 27 ≤ 86400000 → s.Does (.lioSettingWrite (W.DI_STUCK n) v) fun u =>
      u.rd (F.DI_STUCK n) = v.toNat % 2 ^ 27 ∧ u.OtherWords s [W.DI_STUCK n] ∧ u.raised = s.raised) ∧
    (s.awake = true → n < 16 → 86400000 < v.toNat % 2 ^ 27 → s.Does (.lioSettingWrite (W.DI_STUCK n) v) fun u =>
      u = { s with words := u.words, raised := u.raised } ∧ u.Fields s [(F.LIO_STAT_CFG_ERR, 1)] ∧
      u.Raised s [(43, 0, W.DI_STUCK n, v.toNat)]) ∧
    (∀ (d req : List Byte) (s1 : State), s.awake = true → s.taken 4 = some d → s.isActive = true → s.sr.ready.contains 4 = true → dNat d 8 1 = n →
      s.dmaRead (dNat d 20 4) (dNat d 10 1) = (some req, s1) → s.Does (.hartTransaction n) fun u =>
        u.lio.hart = some (n, s1.rd F.HART_CFG_RETRY, req) ∧
        u.tx = s1.tx ++ [⟨.hart, .hart, n :: s1.rd F.HART_CFG_PREAMBLES :: dNat d 9 1 :: req.map (·.toNat)⟩] ∧ u.words = s1.words) ∧
    (∀ (bytes : List Byte), s.awake = true → n < 8 → s.Does (.hartReply n true bytes) fun u =>
      u = { s with words := u.words } ∧ u.Fields s [(F.UC_HART_ERR n, min 255 (s.rd (F.UC_HART_ERR n) + 1))]) ∧
    (∀ (d req bytes : List Byte) (k : Nat), s.awake = true → n < 8 → s.isActive = true → s.taken 4 = some d → s.lio.hart = some (n, k, req) →
      (s.Does (.hartReply n false bytes) fun u => u.lio.hart = none ∧ u.rd (F.UC_HART_DONE_CNT n) = (s.rd (F.UC_HART_DONE_CNT n) + 1) % 65536) ∧
      (0 < k → s.Does (.hartReplyTimeout n) fun u => u.lio.hart = some (n, k - 1, req) ∧ u.tx.length = s.tx.length + 1 ∧ u.words = s.words) ∧
      (k = 0 → s.Does (.hartReplyTimeout n) fun u => u.lio.hart = none ∧ u.rd (F.UC_HART_DONE_CNT n) = (s.rd (F.UC_HART_DONE_CNT n) + 1) % 65536))

/-! ## The ring, the plant ports and PTP (spec/12) -/

/-- Ring frames and acyclic transactions (R354–R357, R363–R367, R384; spec/09 R267): what is passed on and what is counted, inputs, events, admission, and a
transaction from its start to its end. -/
def Obligations.RingFrames : Prop :=
  ∀ (s : State) (h : RingHdr) (portB : Bool) (tx : Nat) (bytes : List Byte),
    let other := if portB then s.on F.RING_STAT_LINK_A else s.on F.RING_STAT_LINK_B
    let link : Link := if portB then .ringA else .ringB
    (s.awake = true → s.netUp = true → h.valid = true → s.ownFrame h = false → h.epoch = s.epoch → h.epoch ≤ s.rd F.EPOCH_SEEN → other = true →
      s.Does (.ringFrameForward portB h) fun u =>
        u = { s with tx := s.tx ++ if h.hops = 0 then [] else [⟨link, .forward, [h.kind, h.hops - 1, h.src, h.epoch, h.cycle, h.seq]⟩] }) ∧
    (s.awake = true → s.netUp = true → h.fcsOk = false → s.Does (.ringFrameForward portB h) fun u =>
      u = { s with words := u.words } ∧ u.Fields s [(F.RX_ERR, min F.RX_ERR.max (s.rd F.RX_ERR + 1))]) ∧
    (s.awake = true → s.netUp = true → h.fcsOk = true → h.rcrcOk = false → other = true → s.Does (.ringFrameForward portB h) fun u =>
      u = { s with words := u.words, tx := s.tx ++ [⟨link, .forward, [h.kind, h.hops, h.src, h.epoch, h.cycle, h.seq]⟩] } ∧
      u.Fields s [(F.RX_ERR, min F.RX_ERR.max (s.rd F.RX_ERR + 1))]) ∧
    (s.awake = true → s.netUp = true → h.valid = true → s.ownFrame h = true → s.Does (.ringFrameForward portB h) fun u => u = s) ∧
    (∀ b : WitnessBody, s.RingFirst h 1 → h.src = 0xFFFF → h.slot ≠ s.inSlot2 → s.isActive = false → s.pair.deciding = false →
      (∀ k, s.pair.witTick = some k → k < b.tick) → s.Does (.witness portB h b) fun u =>
        u = { s with pair := { s.pair with witTick := some b.tick }, ring := u.ring } ∧ u.ring = { s.ring with seen := u.ring.seen }) ∧
    (∀ b : InputBody, s.RingFirst h 3 → s.admitted h.src = true → s.on (F.STN_CFG_EN h.src) = true → (s.stn h.src).inCycle = none →
      s.Does (.input portB h b) fun u =>
        (u.stn h.src).inCycle = some h.cycle ∧ (u.stn h.src).data = b.data ∧ (u.stn h.src).arrNs = s.ns ∧ (u.stn h.src).miss = 0 ∧
        u.on (F.STN_STAT_VALID h.src) = true ∧ u.on (F.STN_STAT_SAFE h.src) = b.safe ∧ u.on (F.STN_STAT_LOST h.src) = false ∧ u.mem = s.mem) ∧
    (∀ code, s.RingFirst h 4 → s.admitted h.src = true → s.on (F.STN_CFG_EN h.src) = true → s.Does (.event portB h code) fun u =>
      u.on (F.STN_STAT_EVT_FRAME h.src) = true ∧ u.ring = { s.ring with seen := u.ring.seen } ∧ u.mem = s.mem ∧ u.tx = s.tx ∧
      (s.isActive = false → u = { s with words := u.words, ring := u.ring } ∧ u.Fields s [(F.STN_STAT_EVT_FRAME h.src, 1)])) ∧
    (∀ (b : HelloBody) (s1 : State) (d : StationDecl), s.RingFirst h 8 → s.ringTake h 8 = (true, s1) → s.stnTable.find? (·.tag == b.tag) = some d →
      d.n < 240 → s1.refuse ⟨b.tag, b.mac.toNat, b.gen, b.signals, b.inSize, b.outSize, 0⟩ = 0 → s.Does (.hello portB h b) fun u =>
        u.admitted d.n = true ∧ (u.stn d.n).mac = b.mac.toNat ∧ u.on (F.STN_STAT_LOST d.n) = false ∧ u.on (F.STN_STAT_EVT_ADMIT d.n) = true) ∧
    (∀ (b : HelloBody) (s1 : State) (r : Nat), s.RingFirst h 8 → s.ringTake h 8 = (true, s1) → s.isActive = true →
      s1.refuse ⟨b.tag, b.mac.toNat, b.gen, b.signals, b.inSize, b.outSize, 0⟩ = r → r ≠ 0 → s.ring.reserve.length < 16 →
      b.mac.toNat ∉ s.ring.refused → s.Does (.hello portB h b) fun u =>
        (∃ x ∈ u.ring.reserve, x.mac = b.mac.toNat ∧ x.reason = r) ∧ b.mac.toNat ∈ u.ring.refused ∧ u.on F.RING_EVT_RESERVE = true ∧
        ∃ x ∈ u.raised, x.src = 52 ∧ x.d1 = r) ∧
    (s.awake = true → s.netUp = true → s.isActive = true → s.ring.reserve = [] → s.Does .discoverSend fun u =>
      u = { s with ring := { s.ring with seq := (s.ring.seq + 1) % 2 ^ 16 }, tx := s.tx ++
        [⟨.ringA, .discover, [bitNat s.inSlot2, 0, s.epoch, s.ringCycle, s.ring.seq]⟩,
          ⟨.ringB, .discover, [bitNat s.inSlot2, 1, s.epoch, s.ringCycle, s.ring.seq]⟩] }) ∧
    (s.awake = true → tx ≤ 3 → s.Does (.ringPortLinkChange portB tx) fun u =>
      u.on (if portB then F.RING_STAT_LINK_B else F.RING_STAT_LINK_A) = decide (tx ≠ 0) ∧
      u.rd (if portB then F.RING_STAT_RATE_B else F.RING_STAT_RATE_A) = tx ∧ u.ring = s.ring ∧ u.mem = s.mem ∧
      (s.isActive = true → u.on F.RING_STAT_OPEN = u.ringBroken)) ∧
    (∀ (r : Nat) (d : List Byte), s.awake = true → s.taken r = some d → s.isActive = true → s.sr.ready.contains r = true → ringKind r = 1 →
      s.admitted (dNat d 8 2) = true → s.inFlight < 128 → (s.ring.flight.filter (fun (x : Acyc) => x.station == dNat d 8 2)).length < 4 →
      dNat d 10 1 ≠ 2 → s.Does (.acycTransactionStart r) fun u =>
        u.ring.flight = s.ring.flight ++ [⟨s.ring.nextTx, r, dNat d 8 2, d, [], s.rd F.RING_CFG_ACYC_RETRY⟩] ∧
        u.ring.nextTx = (s.ring.nextTx + 1) % 2 ^ 32 ∧ u.sr.ready = s.sr.ready.filter (· != r) ∧ u.words = s.words ∧
        (let body := [s.ring.nextTx, dNat d 8 2, dNat d 10 1, dNat d 12 4, dNat d 16 2]
         u.tx = s.tx ++ [⟨.ringA, .acycReq, [bitNat s.inSlot2, 0, s.epoch, s.ringCycle, s.ring.seq] ++ body⟩,
           ⟨.ringB, .acycReq, [bitNat s.inSlot2, 1, s.epoch, s.ringCycle, s.ring.seq] ++ body⟩])) ∧
    (∀ a : Acyc, s.RingFirst h 6 → s.ring.flight = [a] → a.station = h.src →
      (s.Does (.acycRsp portB h a.tx 0 bytes) fun u => u.ring.flight = [] ∧ u.rd F.ACYC_FAIL = s.rd F.ACYC_FAIL)) ∧
    (∀ a : Acyc, s.awake = true → s.isActive = true → s.ring.flight = [a] →
      (a.retries = 0 → s.Does (.acycTimeout a.tx) fun u => u.ring.flight = [] ∧ u.rd F.ACYC_FAIL = min F.ACYC_FAIL.max (s.rd F.ACYC_FAIL + 1) ∧
        u.on F.RING_EVT_ACYC_FAIL = true ∧ ∃ x ∈ u.raised, x.src = 53 ∧ x.agent = a.station) ∧
      (a.retries ≠ 0 → s.Does (.acycTimeout a.tx) fun u =>
        u.ring.flight = [{ a with retries := a.retries - 1 }] ∧ u.tx.length = s.tx.length + 2 ∧ u.words = s.words)) ∧
    (∀ v : Word, s.awake = true →
      let rc := F.RING_CFG_RC.get v
      (rc < 2 ∨ 2000 < rc → s.Does (.ringSettingWrite W.RING_CFG v) fun u =>
        u = { s with words := u.words, raised := u.raised } ∧ u.Fields s [(F.RING_EVT_CFG_ERR, 1)] ∧ u.Raised s [(53, 0, W.RING_CFG, v.toNat)]) ∧
      (2 ≤ rc → rc ≤ 2000 → F.RING_CFG_LOST_CYCLES.get v ≠ 0 → 10 ≤ F.RING_CFG_ACYC_TMO.get v → F.RING_CFG_ACYC_TMO.get v ≤ 10000 →
        s.schedule none = [] → s.Does (.ringSettingWrite W.RING_CFG v) fun u =>
          u.rd F.RING_CFG_RC = rc ∧ u.ring.rc = s.ring.rc ∧ u.OtherWords s [W.RING_CFG] ∧ u.raised = s.raised))

/-- Sessions and datagrams (R370–R374): who is let in, replay, rights, and data that are read, written or refused. -/
def Obligations.PlantSessions : Prop :=
  ∀ (s : State) (n q : Nat) (x : Session) (r : Rights) (port2 : Bool), s.awake = true → s.netUp = true →
    let port : Link := if port2 then .plant2 else .plant1
    (64 ≤ s.plant.sessions.length → s.Does (.sessionHandshake r true port2) fun u =>
      u = { s with words := u.words, tx := s.tx ++ [⟨port, .busy, []⟩] } ∧ u.Fields s [(F.SES_REFUSED, min F.SES_REFUSED.max (s.rd F.SES_REFUSED + 1))]) ∧
    (s.plant.sessions.length < 64 → s.Does (.sessionHandshake r false port2) fun u =>
      u = { s with words := u.words, raised := u.raised } ∧ u.Fields s [(F.AUTH_FAIL, min F.AUTH_FAIL.max (s.rd F.AUTH_FAIL + 1))] ∧
      ∃ y ∈ u.raised, y.src = 54) ∧
    (s.plant.sessions.length < 64 → r = .read ∨ r = .operate → s.on F.PLANT_CFG_SES_EN = false → s.Does (.sessionHandshake r true port2) fun u =>
      u = { s with tx := s.tx ++ [⟨port, .refused, []⟩] }) ∧
    (s.plant.sessions.length < 64 → r = .engineer ∨ r = .metrology ∨ s.on F.PLANT_CFG_SES_EN = true → s.Does (.sessionHandshake r true port2) fun u =>
      ∃ k < 64, tfind s.plant.sessions k = none ∧ tfind u.plant.sessions k = some ⟨r, port2, 0, [], s.ns⟩ ∧
        (∀ j, j ≠ k → tfind u.plant.sessions j = tfind s.plant.sessions j) ∧ u.tx = s.tx ++ [⟨port, .reply, [k]⟩]) ∧
    (∀ i ∈ [Instr.sessionClose n, .sessionIdleTimeout n], s.Does i fun u =>
      tfind u.plant.sessions n = none ∧ (∀ j, j ≠ n → tfind u.plant.sessions j = tfind s.plant.sessions j) ∧ u.tx = s.tx ∧ u.mem = s.mem) ∧
    (∀ ops auth, tfind s.plant.sessions n = none → s.Does (.plantDatagram n ⟨q, port2⟩ auth ops) fun u =>
      u = { s with tx := s.tx ++ [⟨port, .refused, [n, q, 1]⟩] }) ∧
    (tfind s.plant.sessions n = some x →
      (∀ ops, x.high < q + 64 → q ∉ x.seen → ops.all (fun o => o.permitted x.rights) = false → s.Does (.plantDatagram n ⟨q, port2⟩ true ops) fun u =>
        u.tx = s.tx ++ [⟨port, .denied, [n, q]⟩] ∧ u.mem = s.mem) ∧
      (∀ ops auth, auth = false ∨ q + 64 ≤ x.high → s.Does (.plantDatagram n ⟨q, port2⟩ auth ops) fun u =>
        u = { s with words := u.words } ∧ u.Fields s [(F.REPLAY_DROP, min F.REPLAY_DROP.max (s.rd F.REPLAY_DROP + 1))]) ∧
      (∀ ops, q ∈ x.seen → x.high < q + 64 → s.Does (.plantDatagram n ⟨q, port2⟩ true ops) fun u => u = s) ∧
      (∀ (l : Loc) (k : Nat), x.high < q + 64 → q ∉ x.seen → s.opFits (.readData l k) = true → 0 < k →
        verdict s.prot.active (memAccess 3 n false l k false) = .allowed → s.Does (.plantDatagram n ⟨q, port2⟩ true [.readData l k]) fun u =>
          u.tx = s.tx ++ [⟨port, .reply, n :: q :: (s.bytes l k).map (·.toNat)⟩] ∧ u.mem = s.mem) ∧
      (∀ (l : Loc) (k : Nat), x.high < q + 64 → q ∉ x.seen → s.opFits (.readBank l k) = true → 0 < k →
        verdict s.prot.active (memAccess 3 n false l k false) = .allowed → s.Does (.plantDatagram n ⟨q, port2⟩ true [.readBank l k]) fun u =>
          u.tx = s.tx ++ [⟨port, .reply, n :: q :: (s.inactiveBytes l k).map (·.toNat)⟩] ∧ u.mem = s.mem) ∧
      (∀ (l : Loc) (bs : List Byte), x.high < q + 64 → q ∉ x.seen → x.rights = .operate → l.area = 2 → s.opFits (.writeData l bs) = true →
        bs ≠ [] → bs.length ≤ 1024 → s.isActive = true → s.noCycle = true → s.sr.jobs = [] →
        verdict s.prot.active (memAccess 3 n true l bs.length false) = .allowed → s.Does (.plantDatagram n ⟨q, port2⟩ true [.writeData l bs]) fun u =>
          u.mem = msetList (cellKey s.bank l) bs s.mem ∧ ⟨port, .reply, [n, q, 1]⟩ ∈ u.tx) ∧
      (∀ (l : Loc) (bs : List Byte), x.high < q + 64 → q ∉ x.seen → x.rights = .operate → l.area = 2 → s.opFits (.writeData l bs) = true →
        bs.length ≤ 1024 → s.isActive = false → s.Does (.plantDatagram n ⟨q, port2⟩ true [.writeData l bs]) fun u =>
          u.tx = s.tx ++ [⟨port, .notActive, [n, q]⟩] ∧ u.mem = s.mem ∧ u.rd F.NOT_ACTIVE_CNT = min F.NOT_ACTIVE_CNT.max (s.rd F.NOT_ACTIVE_CNT + 1))) ∧
    (0 < s.plant.announces → s.isActive = true → s.on F.PLANT_CFG_PAIR_EN = true → s.Does .pairAddressAnnounce fun u =>
      u = { s with plant := { s.plant with announces := s.plant.announces - 1 }, tx := u.tx } ∧
      (s.word (W.PAIR4 0) ≠ 0 → ⟨.plant1, .arp, [4, (s.word (W.PAIR4 0)).toNat]⟩ ∈ u.tx) ∧ ∃ l, u.tx = s.tx ++ l)

/-- PTP (R376–R379): the step of the first synchronisation, the servo's states, the slew, the choice of the master and its loss, and transit. -/
def Obligations.PtpClock : Prop :=
  ∀ (s : State) (off delay : Int) (port2 : Bool) (g : GmData) (n : Nat), s.awake = true →
    let st := s.rd F.TIME_STAT_STATE
    let heard := s.ptpOn = true ∧ s.on F.TIME_STAT_PORT = port2 ∧ s.on F.PTP_CFG_PORT_LOCK = false ∧ -2 ^ 31 ≤ off ∧ off < 2 ^ 31
    (heard → s.on F.TIME_STAT_STEPPED = false → s.Does (.ptpSync off delay port2) fun u =>
      u.on F.TIME_STAT_STEPPED = true ∧ u.rd F.TIME_STAT_STATE = 1 ∧ (u.word W.OFFSET_NS).toInt = off ∧ u.mem = s.mem) ∧
    (heard → s.on F.TIME_STAT_STEPPED = true → st = 1 → off.natAbs ≤ 1000 → s.on F.TIME_STAT_REF_SUSPECT = false → s.Does (.ptpSync off delay port2) fun u =>
      u.ptp.goodRun = min 10 (s.ptp.goodRun + 1) ∧ u.rd F.TIME_STAT_STATE = (if 9 ≤ s.ptp.goodRun then 2 else 1) ∧
      (u.word W.OFFSET_NS).toInt = off ∧ u.on F.TIME_STAT_SLEWING = false) ∧
    (heard → s.on F.TIME_STAT_STEPPED = true → st = 2 → 1000000 < off → s.on F.TIME_STAT_SLEWING = false → s.Does (.ptpSync off delay port2) fun u =>
      u.on F.TIME_STAT_SLEWING = true ∧ (u.word W.RATE_ADJ).toInt = -858993 ∧ u.rd F.TIME_STAT_STATE = (if 2 ≤ s.ptp.badRun then 1 else 2) ∧
      ∃ x ∈ u.raised, x.src = 55) ∧
    (s.ptpOn = true → s.on F.PTP_CFG_PORT_LOCK = false → (if port2 then s.ptp.gm1 else s.ptp.gm2) = none → s.Does (.ptpAnnounce port2 g) fun u =>
      u.on F.TIME_STAT_PORT = port2 ∧ u.get64 W.GM_ID_LO W.GM_ID_HI = g.identity.toNat ∧ u.on F.TIME_STAT_UTC_VALID = g.utcValid ∧
      (if port2 then u.ptp.gm2 else u.ptp.gm1) = some g) ∧
    ((if port2 then s.ptp.gm1 else s.ptp.gm2) = none → st = 2 → s.Does (.announceTimeout port2) fun u =>
      u.ptp.gm1 = none ∧ u.ptp.gm2 = none ∧ u.rd F.TIME_STAT_STATE = 3 ∧ u.on F.TIME_STAT_UTC_VALID = false ∧
      u.rd F.SYNC_LOSS = min F.SYNC_LOSS.max (s.rd F.SYNC_LOSS + 1) ∧ ∃ x ∈ u.raised, x.src = 55) ∧
    (s.netUp = true → s.Does (.ptpTransit port2 n) fun u =>
      u = { s with words := u.words, tx := s.tx ++ [⟨if port2 then .ringB else .ringA, .time, [n]⟩] } ∧
      u.rd F.TC_COUNT = (s.rd F.TC_COUNT + 1) % 2 ^ 32 ∧ u.rd F.TC_RESID_MAX = max (s.rd F.TC_RESID_MAX) (min n F.TC_RESID_MAX.max))

/-! ## CAN (spec/13) -/

/-- The channels (R387, R392, R393, R401, R402): enabling, integration and disabling, the error counters and the error states, recovery, and the protocol
exception. -/
def Obligations.CanChannels : Prop :=
  ∀ (s : State) (ch code : Nat) (data dom : Bool), s.awake = true → ch < 2 →
    let mode := s.canMode ch
    let es := s.rd (F.CH_STAT_ESTATE ch)
    let tec := s.rd (F.ERR_CNT_TEC ch)
    let rec_ := s.rd (F.ERR_CNT_REC ch)
    let lec := if data then F.LEC_DATA ch else F.LEC_NOM ch
    (mode = 0 → s.pw.phase ≠ .loader → s.Does (.canChannelEnable ch) fun u =>
      u.on (F.CH_CFG_EN ch) = true ∧ u.canMode ch = 1 ∧ (s.dom 11 = .off → u.dom 11 = .startingParked) ∧ (s.dom 11 = .run → u.dom 11 = .run) ∧
      u.can = s.can ∧ u.mem = s.mem) ∧
    (s.Does (.canChannelDisable ch) fun u =>
      u.on (F.CH_CFG_EN ch) = false ∧ u.canMode ch = 0 ∧ (∀ b, u.canBuf ch b = (s.canBuf ch b).abort) ∧
      (s.canMode (1 - ch) = 0 → u.dom 11 = .off) ∧ u.mem = s.mem) ∧
    (mode = 1 → s.dom 11 = .run → s.Does (.canIntegrationComplete ch) fun u =>
      u = { s with words := u.words } ∧ u.Fields s [(F.CH_STAT_MODE ch, if s.isActive then 2 else 3)]) ∧
    (mode = 2 → es = 0 → code < 8 → tec + 8 < 128 → rec_ < 128 → s.Does (.canBusError ch code data true dom) fun u =>
      u = { s with words := u.words } ∧ u.Fields s [(lec, code), (F.ERR_CNT_TEC ch, tec + 8)]) ∧
    (mode = 2 → es = 0 → code < 8 → rec_ < 120 → tec < 128 → s.Does (.canBusError ch code data false dom) fun u =>
      u = { s with words := u.words } ∧ u.Fields s [(lec, code), (F.ERR_CNT_REC ch, rec_ + if dom then 8 else 1)]) ∧
    (mode = 2 → es = 0 → code ≠ 3 → 120 ≤ tec → tec < 248 → s.Does (.canBusError ch code data true dom) fun u =>
      u.rd (F.ERR_CNT_TEC ch) = tec + 8 ∧ u.rd (F.CH_STAT_ESTATE ch) = 1 ∧ u.on (F.CH_EVT_EPASS ch) = true ∧ ∃ x ∈ u.raised, x.src = 57 ∧ x.agent = ch) ∧
    (mode = 2 → es < 2 → code ≠ 3 → 248 ≤ tec → tec < 256 → s.Does (.canBusError ch code data true dom) fun u =>
      u.rd (F.CH_STAT_ESTATE ch) = 2 ∧ u.on (F.CH_EVT_BOFF ch) = true ∧ (u.chan ch).recReq = false ∧
      u.rd (F.BOFF_CNT ch) = min (F.BOFF_CNT ch).max (s.rd (F.BOFF_CNT ch) + 1) ∧ ∃ x ∈ u.raised, x.src = 56 ∧ x.agent = ch) ∧
    (mode = 3 → es < 2 → code < 8 → s.Does (.canBusError ch code data false dom) fun u =>
      u = { s with words := u.words } ∧ u.Fields s [(lec, code)]) ∧
    (es = 2 → s.Does (.recReq ch) fun u => (u.chan ch).recReq = true ∧ u = { s with can := u.can } ∧ u.chan (1 - ch) = s.chan (1 - ch)) ∧
    (es = 2 → s.on (F.CH_CFG_AUTO_REC ch) = true ∨ (s.chan ch).recReq = true → s.Does (.canRecoveryStart ch) fun u =>
      u = { s with words := u.words } ∧ u.Fields s [(F.CH_STAT_ESTATE ch, 3)]) ∧
    (es = 3 → s.Does (.canRecoveryComplete ch) fun u =>
      u = { s with words := u.words, can := u.can } ∧ u.Fields s [(F.CH_STAT_ESTATE ch, 0), (F.ERR_CNT_TEC ch, 0), (F.ERR_CNT_REC ch, 0)] ∧
      (u.chan ch).recReq = false) ∧
    (s.canOnBus ch = true → s.on (F.CH_CFG_FD_EN ch) = false → s.Does (.canProtocolException ch) fun u =>
      u = { s with words := u.words } ∧ u.Fields s [(F.CH_EVT_PEX ch, 1), (F.CH_STAT_MODE ch, 1)])

/-- The buffers (R394–R400, R405): reception, transmission, and what a request does and where it is refused. -/
def Obligations.CanBuffers : Prop :=
  ∀ (s : State) (ch b win n : Nat) (f : CanFrame) (v : Word), s.awake = true → ch < 2 → win < 4 →
    let x := s.canBuf ch b
    let y := s.canBuf ch (s.winSel ch win)
    let tec := s.rd (F.ERR_CNT_TEC ch)
    let first := (List.range 64).find? (fun k => (s.canBuf ch k).accepts f)
    let allowed := bDIR.get y.cfg = 1 ∧ bEN.get y.cfg = 1 ∧ (bFDF.get y.cfg = 1 → s.on (F.CH_CFG_FD_EN ch) = true) ∧ (bBRS.get y.cfg = 1 → bFDF.get y.cfg = 1)
    let heard := s.canOnBus ch = true ∧ (f.fdf = false ∨ s.on (F.CH_CFG_FD_EN ch) = true) ∧ s.rd (F.ERR_CNT_REC ch) = 0
    (heard → f.rtr = false → first = some b → bRING.get x.cfg ≠ 1 → s.Does (.canFrameReceive ch f) fun u =>
      u.canBuf ch b = { x with id := f.id.toNat, fdf := f.fdf, brs := f.brs, esi := f.esi, dlc := f.dlc.toNat, data := f.bytes64,
                               seq := (x.seq + 1) % 256, lost := x.lost || x.new_, new_ := true } ∧
      (∀ k, k ≠ b → u.canBuf ch k = s.canBuf ch k) ∧ u.rd (F.RX_CNT ch) = (s.rd (F.RX_CNT ch) + 1) % 2 ^ 32 ∧
      (x.new_ = true → u.on (F.CH_EVT_LOST_ANY ch) = true) ∧ u.mem = s.mem) ∧
    (heard → f.rtr = false → first = some b → bRING.get x.cfg = 1 → s.isActive = false → s.Does (.canFrameReceive ch f) fun u => u = s) ∧
    (heard → f.rtr = false → first = some b → bRING.get x.cfg = 1 → s.isActive = true → s.ringDecl (16 + ch) = none → s.Does (.canFrameReceive ch f) fun u =>
      u.canBuf ch b = { x with lost := true } ∧ u.on (F.CH_EVT_LOST_ANY ch) = true ∧ u.mem = s.mem) ∧
    (heard → f.rtr = false → first = none → s.Does (.canFrameReceive ch f) fun u =>
      u = { s with words := u.words } ∧ u.Fields s [(F.NO_MATCH ch, min (F.NO_MATCH ch).max (s.rd (F.NO_MATCH ch) + 1))]) ∧
    (heard → f.rtr = true → s.Does (.canFrameReceive ch f) fun u => u = { s with words := u.words } ∧ u.Fields s [(F.CH_EVT_RTR_SEEN ch, 1)]) ∧
    (s.canMode ch = 2 → s.canOnBus ch = true → s.canNext ch = some b → tec ≤ 128 → s.rd (F.ERR_CNT_REC ch) < 128 → s.Does (.canFrameSent ch) fun u =>
      u.canBuf ch b = { x with pend := false, seq := (x.seq + 1) % 256, dlc := bDLC.get x.cfg } ∧ (∀ k, k ≠ b → u.canBuf ch k = s.canBuf ch k) ∧
      u.rd (F.TX_CNT ch) = (s.rd (F.TX_CNT ch) + 1) % 2 ^ 32 ∧ u.rd (F.ERR_CNT_TEC ch) = tec - 1 ∧ u.rd (F.CH_STAT_ESTATE ch) = 0 ∧
      ∃ d, u.tx = s.tx ++ [⟨if ch = 0 then .can0 else .can1, .frame, x.id :: d⟩]) ∧
    (s.Does (.ack ch win n) fun u =>
      u = { s with can := u.can } ∧ u.canBuf ch (s.winSel ch win) = (if y.seq = n then { y with new_ := false, lost := false } else y)) ∧
    (allowed → y.pend = true → s.Does (.tx ch win) fun u => u = s) ∧
    (allowed → y.pend = false → s.Does (.tx ch win) fun u =>
      u = { s with can := u.can } ∧ u.canBuf ch (s.winSel ch win) = { y with pend := s.isActive, aborted := false }) ∧
    (¬allowed → s.Does (.tx ch win) fun u =>
      u = { s with words := u.words, raised := u.raised } ∧ u.Fields s [(F.CH_EVT_CFG_ERR ch, 1)] ∧ u.Raised s [(57, ch, canWin ch win + 5, 512)]) ∧
    (s.canNext ch ≠ some (s.winSel ch win) → s.Does (.abortRequest ch win) fun u =>
      u = { s with can := u.can } ∧ u.canBuf ch (s.winSel ch win) = y.abort) ∧
    (s.canNext ch = some (s.winSel ch win) → s.Does (.abortRequest ch win) fun u =>
      u = { s with can := u.can, freeCtr := u.freeCtr } ∧ (u.canBuf ch (s.winSel ch win) = y.abort ∨ u.canBuf ch (s.winSel ch win) = y)) ∧
    (s.Does (.abortAll ch) fun u => u = { s with can := u.can } ∧ ∀ k, u.canBuf ch k = (s.canBuf ch k).abort) ∧
    (v.toNat ≤ 63 → s.Does (.winSelWrite ch win v) fun u => u.winSel ch win = v.toNat ∧ u.OtherWords s [canWin ch win] ∧ u.can = s.can ∧ u.tx = s.tx) ∧
    (63 < v.toNat → s.Does (.winSelWrite ch win v) fun u =>
      u = { s with words := u.words, raised := u.raised } ∧ u.Fields s [(F.CH_EVT_CFG_ERR ch, 1)] ∧
      u.Raised s [(57, ch, canWin ch win, v.toNat)]) ∧
    (s.on (F.CH_CFG_EN ch) = false → nbtBad v = false → (s.on (F.CH_CFG_SAM ch) = true → 640 ≤ nbtClocks v) → s.Does (.canSettingWrite (W.NBT ch) v) fun u =>
      (∀ g ∈ [F.NBT_BRP ch, F.NBT_TSEG1 ch, F.NBT_TSEG2 ch, F.NBT_SJW ch], u.rd g = g.get v) ∧ u.OtherWords s [W.NBT ch] ∧ u.can = s.can) ∧
    (s.on (F.CH_CFG_EN ch) = true ∨ nbtBad v = true ∨ (s.on (F.CH_CFG_SAM ch) = true ∧ nbtClocks v < 640) → s.Does (.canSettingWrite (W.NBT ch) v) fun u =>
      u = { s with words := u.words, raised := u.raised } ∧ u.Fields s [(F.CH_EVT_CFG_ERR ch, 1)] ∧
      u.Raised s [(57, ch, W.NBT ch, v.toNat)])

/-! ## The Veneer (spec/14) -/

/-- Rendering, updates and checks (R408, R411, R413–R418, R422, R424, R425). -/
def Obligations.VeneerDisplay : Prop :=
  ∀ (s : State) (region : Nat) (x : Int) (crcCur crcTgt : Word), s.awake = true →
    let v := s.vn
    let unread := s.on F.FC_JIG_STAT_ARMED = false ∨ s.rd F.FC_JIG_STAT_CHECKER ≠ 7
    let pause := if v.nextMask.any (fun r => decide (210 ≤ r) && v.differs r) then 100 else s.rd F.VN_CFG_UPD_MIN_MS
    let kept := fun (u : State) (busy : Bool) (mask : List Nat) (band pairs : Nat) => (∃ r, u.vnRec = some r ∧ r.inProgress = busy ∧ r.mask = mask ∧
      r.band = band ∧ r.pairs = pairs ∧ r.cur = v.cur) ∧ (u.mram.vnRecA = s.mram.vnRecA ∨ u.mram.vnRecB = s.mram.vnRecB)
    let cut := fun (u : State) => u.vn.updating = false ∧ u.vn.cur = v.cur ∧ u.on F.VN_STAT_UPDATING = false ∧
      u.rd F.VN_ABORT_CNT = min F.VN_ABORT_CNT.max (s.rd F.VN_ABORT_CNT + 1) ∧ (∀ r ∈ v.mask, r < 300 → r ∈ u.vn.rewrite) ∧
      kept u false v.mask (s.rd F.VN_STAT_BAND) (v.done + 1)
    let anew := fun (u : State) => u = { s with words := u.words, vn := { v with rewrite := allRows } } ∧ u.Fields s [(F.VN_STAT_REWRITE_PEND, 1)]
    let pair := v.updating = true ∧ v.pairOn = true ∧ s.pw.phase ≠ .powerFail
    (v.started = true → region < 4 → s.Does (.regionRender region) fun u =>
      u = { s with vn := { v with tgt := u.vn.tgt, staging := u.vn.staging } } ∧
      (∀ r ∈ regionRows region, v.updating = false ∨ r ∉ v.mask → tget [] u.vn.tgt r = s.vnContent region) ∧
      (∀ r ∈ regionRows region, v.updating = true → r ∈ v.mask → tget [] u.vn.staging r = s.vnContent region ∧ tget [] u.vn.tgt r = tget [] v.tgt r) ∧
      ∀ r, r ∉ regionRows region → tget [] u.vn.tgt r = tget [] v.tgt r) ∧
    (v.started = true → v.temp = some x → 0 ≤ x → v.updating = false → v.checked = true → v.stopped = false → v.driveBad = false →
      (∀ t, v.endNs = some t → v.clearing = 2 ∨ t + pause * 1000000 ≤ s.ns) → v.nextMask ≠ [] →
      s.Does .veneerUpdateStart fun u =>
        u.vn.updating = true ∧ u.vn.mask = v.nextMask ∧ (v.clearing = 0 → ∀ r, r ∈ u.vn.mask ↔ r < 300 ∧ (v.differs r = true ∨ r ∈ v.rewrite) ∧
          (v.offer.isSome = true ∨ r < 210)) ∧
        1 ≤ u.vn.total ∧ u.vn.total ≤ 32 ∧ u.vn.done = 0 ∧ u.vn.pairOn = true ∧ u.vn.cur = v.cur ∧ u.vn.tgt = v.tgt ∧
        u.on F.VN_STAT_UPDATING = true ∧ u.rd F.VN_STAT_BAND = vnBand x ∧ kept u true v.nextMask (vnBand x) 0 ∧
        u.tx = s.tx ++ [⟨.display, .display, vnBand x :: v.nextMask⟩]) ∧
    (pair → v.done + 1 < v.total → v.stopped = false → v.tempOut = false → v.late = false → s.Does .phasePairComplete fun u =>
      u = { s with vn := { v with done := v.done + 1 } }) ∧
    (pair → v.total ≤ v.done + 1 → v.mask.length ≤ 300 → v.total ≤ 32 → s.Does .phasePairComplete fun u =>
      u.vn.updating = false ∧ u.on F.VN_STAT_UPDATING = false ∧ (∀ r ∈ v.mask, tget [] u.vn.cur r = tget [] v.tgt r ∧ r ∉ u.vn.rewrite) ∧
      (∀ r, r ∉ v.mask → tget [] u.vn.cur r = tget [] v.cur r) ∧ u.mram.vnMirror = u.vn.cur ∧
      u.rd F.VN_UPD_CNT = (s.rd F.VN_UPD_CNT + 1) % 2 ^ 32 ∧ u.rd F.VN_LAST_ROWS = v.mask.length ∧ u.rd F.VN_LAST_PAIRS = v.total) ∧
    (pair → v.done + 1 < v.total → v.stopped = false → v.tempOut = true → s.Does .phasePairComplete fun u => cut u ∧ u.on F.VN_EVT_TEMP_ABORT = true) ∧
    (pair → v.done + 1 < v.total → v.stopped = false → v.tempOut = false → v.late = true → s.Does .phasePairComplete cut) ∧
    (s.Does (.panelTempSample none) fun u =>
      u.vn.temp = none ∧ u.on F.VN_STAT_COLD = true ∧ u.vn.cold = true ∧ u.vn.cur = v.cur ∧ (v.tempBad = false → ∃ y ∈ u.raised, y.src = 59)) ∧
    (s.Does (.panelTempSample (some x)) fun u =>
      u.vn.temp = some x ∧ u.rd F.VN_TEMP = (x % 65536).toNat ∧ u.on F.VN_STAT_COLD = decide (x < 0) ∧ u.on F.VN_STAT_HOT_BAND = decide (4800 < x) ∧
      u.vn.cold = (decide (x < 100) || (v.cold && decide (x < 300))) ∧ (x < 100 → v.cold = false → u.on F.VN_EVT_COLD_ENTRY = true) ∧
      u.vn.tempOut = (v.tempOut || (v.updating && u.vnTempOut)) ∧ u.raised = s.raised) ∧
    (v.started = true → unread → s.Does (.framebufferCheck s.vnCrcCur s.vnCrcTgt) fun u =>
      u = { s with vn := { v with checked := true } }) ∧
    (v.started = true → unread → crcCur ≠ s.vnCrcCur ∨ crcTgt ≠ s.vnCrcTgt → s.Does (.framebufferCheck crcCur crcTgt) fun u =>
      u.vn.checked = false ∧ u.on F.VN_EVT_CRC_ERR = true ∧ u.vn.rewrite = allRows ∧ u.Raised s [(58, 0, crcCur.toNat, crcTgt.toNat)] ∧ u.mem = s.mem) ∧
    (v.started = true → s.rd F.VN_CFG_FULL_EVERY ≠ 0 → s.Does .fullRefreshTimer anew) ∧ s.Does .refresh anew ∧
    (v.started = false → s.Does .veneerStart fun u =>
      u.vn.started = true ∧ u.vn.updating = false ∧ u.mem = s.mem ∧
      (∀ r, s.vnRec = some r → r.inProgress = false → r.cur = s.mram.vnMirror →
        u.vn.cur = s.mram.vnMirror ∧ u.vn.clearing = 0 ∧ u.vn.rewrite = v.rewrite ∧ u.words = s.words ∧ u.raised = s.raised) ∧
      (∀ r, s.vnRec = some r → r.inProgress = true →
        u.vn.clearing = 1 ∧ u.vn.rewrite = allRows ∧ u.on F.VN_EVT_PWR_ABORT = true ∧ u.raised = s.raised) ∧
      ((∀ r, s.vnRec = some r → r.inProgress = false ∧ r.cur ≠ s.mram.vnMirror) →
        u.vn.clearing = 1 ∧ u.vn.rewrite = allRows ∧ u.on F.VN_EVT_CRC_ERR = true ∧ ∃ y ∈ u.raised, y.src = 58)) ∧
    (v.clearing = 1 → v.offer = none → v.updating = false → s.Does .legalOfferTimeout fun u => u = { s with vn := { v with clearing := 3 } }) ∧
    (v.updating = true → s.Does .veneerUpdateOvertime fun u =>
      u = { s with words := u.words, vn := { v with late := true }, raised := u.raised } ∧ u.Fields s [(F.VN_EVT_DRIVE_FAULT, 1)] ∧
      ∃ y ∈ u.raised, y.src = 59 ∧ y.d2 = 2) ∧
    (v.started = true → v.driveBad = false → s.Does .veneerDriveFault fun u =>
      u = { s with words := u.words, raised := u.raised, vn := { v with driveBad := true } } ∧ u.Fields s [(F.VN_EVT_DRIVE_FAULT, 1)] ∧
      ∃ y ∈ u.raised, y.src = 59 ∧ y.d2 = 3) ∧
    (v.started = true → v.driveBad = true → s.Does .veneerDriveFault fun u => u = { s with vn := { v with driveBad := false } })

/-! ## Protection, faults and the recorder (spec/15) -/

/-- The protection unit (R428–R437; spec/00 R8): its order of decisions, the hard-wired rules, rule writes, the drain of PSYNC, and writes of words that it
allows and denies. -/
def Obligations.ProtectionUnit : Prop :=
  ∀ (s : State) (a : Access) (r n task : Nat) (v mask : Word),
    let ru := fun (k : Nat) => ruleOf s.prot.active a.master k
    let apart := ∀ k < 32, ruleCovers a (ru k) = true → ruleStraddles a (ru k) = false
    let m := s.rd F.PR_MSEL
    let put := fun (k : Nat) => tget 0 s.prot.staged (64 * m + k)
    let refused := fun (i : Nat) (u : State) =>
      u = { s with words := u.words, raised := u.raised } ∧ u.Fields s [(F.PR_STAT_CFG_ERR, 1)] ∧ u.Raised s [(47, 0, i, v.toNat)]
    (a.write = true → a.area = 7 → a.first = n → a.last = n →
      (0x1400 ≤ n → n ≤ 0x14EF → verdict s.prot.active a = .hard 0) ∧ (0x14F0 ≤ n → n ≤ 0x14F3 → a.master ≠ 0 → verdict s.prot.active a = .hard 1) ∧
      ((0x1F00 ≤ n ∧ n ≤ 0x1FFF) ∨ n = 0x2020 → a.master ≠ 0 → verdict s.prot.active a = .hard 2)) ∧
    (hardRule a = none → r < 32 → ruleCovers a (ru r) = true → ruleStraddles a (ru r) = true → ∃ k, verdict s.prot.active a = .straddle k) ∧
    (hardRule a = none → apart → r < 32 → ruleCovers a (ru r) = true → ruleTouches a (ru r) = true →
      (∀ k < r, ruleCovers a (ru k) = true → ruleTouches a (ru k) = false) →
      verdict s.prot.active a = if (if a.write then rWR.get (ru r).1 else rRD.get (ru r).1) = 1 then .allowed else .denied r) ∧
    (hardRule a = none → (∀ k < 32, ruleCovers a (ru k) = true → ruleTouches a (ru k) = false) → verdict s.prot.active a = .allowed) ∧
    (s.awake = true →
      (r < 32 → v &&& 0x01FF0000#32 = 0#32 → ruleBad v (put (2 * r + 1)) = false → s.Does (.protectionRuleWrite (0x1F40 + 2 * r) v) fun u =>
        tget 0 u.prot.staged (64 * m + 2 * r) = v ∧ (∀ k, k ≠ 64 * m + 2 * r → tget 0 u.prot.staged k = tget 0 s.prot.staged k) ∧
        u.prot.active = s.prot.active ∧ u.OtherWords s [W.PR_STAT] ∧ u.raised = s.raised) ∧
      (r < 32 → ruleBad (put (2 * r)) v = false → s.Does (.protectionRuleWrite (0x1F41 + 2 * r) v) fun u =>
        tget 0 u.prot.staged (64 * m + 2 * r + 1) = v ∧ u.prot.active = s.prot.active ∧ u.OtherWords s [W.PR_STAT]) ∧
      (r < 32 → ruleBad (put (2 * r)) v = true → s.Does (.protectionRuleWrite (0x1F41 + 2 * r) v) (refused (0x1F41 + 2 * r))) ∧
      (F.PR_MSEL.get v ≤ 4 → s.Does (.prMselWrite v) fun u => u.rd F.PR_MSEL = F.PR_MSEL.get v ∧ u.OtherWords s [W.PR_MSEL] ∧ u.prot = s.prot) ∧
      (4 < F.PR_MSEL.get v → s.Does (.prMselWrite v) (refused W.PR_MSEL)) ∧
      (s.Does .firstViolClear fun u => u.on F.PR_STAT_FIRST_VIOL = false ∧ u.word W.PR_CAP_INFO = 0 ∧ u.word W.PR_CAP_ADDR = 0 ∧ u.prot = s.prot ∧
        u.OtherWords s [W.PR_STAT, W.PR_CAP_INFO, W.PR_CAP_ADDR, W.PR_CAP_EPOCH, W.PR_CAP_AGENT]) ∧
      ((s.rt task).waitEpoch.isSome = true → s.Does (.psyncDrainComplete task) fun u =>
        u.rt task = { s.rt task with waitEpoch := none } ∧ u.prot = s.prot ∧ u.OtherWords s [W.PR_STAT] ∧
        (u.on F.PR_STAT_PSYNC_WAIT = true ↔ ∃ e ∈ u.sch.tasks, e.2.waitEpoch.isSome = true)) ∧
      (r < 6 → verdict s.prot.active (sysAccess 3 n true (W.VN_TAG r) false) = .allowed → s.Does (.registerWrite (.session n) (W.VN_TAG r) mask v) fun u =>
        u.word (W.VN_TAG r) = (s.word (W.VN_TAG r) &&& ~~~mask) ||| (v &&& mask) ∧ u.OtherWords s [W.VN_TAG r] ∧ u.raised = s.raised) ∧
      (∀ i k, verdict s.prot.active (sysAccess 3 n true i false) = .denied k → s.Does (.registerWrite (.session n) i mask v) fun u =>
        (∀ j < 0x1F00, u.word j = s.word j) ∧ u.mem = s.mem ∧ u.rd (F.PR_VCNT 3) = min (F.PR_VCNT 3).max (s.rd (F.PR_VCNT 3) + 1) ∧
        u.on F.PR_STAT_FIRST_VIOL = true ∧ (s.on F.PR_STAT_FIRST_VIOL = true → u.word W.PR_CAP_INFO = s.word W.PR_CAP_INFO) ∧
        (s.on F.PR_STAT_FIRST_VIOL = false → u.rd F.PR_CAP_INFO_MASTER = 3 ∧ u.word W.PR_CAP_EPOCH = s.word W.PR_EPOCH) ∧
        ∃ x, u.Raised s [(45, n, x, (capAddr (sysAccess 3 n true i false)).toNat)]))

/-- A firing whose reaction takes no time (R438, R440): where nothing else is due, it sets its pending bit, counts, is the last fault and, with none
recorded, the first, and is recorded, and changes nothing else of program and plant. -/
def Obligations.FaultFires : Prop :=
  ∀ (s : State) (n agent d1 d2 k x t0 : Nat), s.Calm → n < 64 → n ≠ 14 → n ≠ 15 → s.on F.FC_JIG_STAT_ARMED = false →
    s.fc.stack = [] → s.reaction n ≤ 1 → s.rd F.FC_CFG_FAULT_TASK = 0x7F → s.awake = true → s.recd.staging.length < 8191 →
    tget (0, 0, 0) s.recd.rates (0x100 + n) = (k, x, t0) → (∀ l, s.rateLimit (0x100 + n) = some l → k < l) →
    ∃ u, exec (.faultFire n agent d1 d2) s = .next u ∧ (u.word (W.FC_PEND (n / 32))).getLsbD (n % 32) = true ∧
      (u.word (W.FC_CNT n)).toNat = min 0xFFFFFFFF ((s.word (W.FC_CNT n)).toNat + 1) ∧ u.on F.FC_LAST_VALID = true ∧ u.rd F.FC_LAST_SRC = n ∧
      u.get64 W.FC_LAST_TLO W.FC_LAST_THI = s.timeBase ∧ u.on F.FC_FIRST_VALID = true ∧
      (s.on F.FC_FIRST_VALID = false → u.rd F.FC_FIRST_SRC = n ∧ u.get64 W.FC_FIRST_TLO W.FC_FIRST_THI = s.timeBase) ∧
      (s.on F.FC_FIRST_VALID = true → u.rd F.FC_FIRST_SRC = s.rd F.FC_FIRST_SRC) ∧
      u.recd.staging = s.recd.staging ++ [⟨s.timeBase, 0x100 + n, agent, s.reaction n, d1, d2, (s.rd F.REC_SEQ + 1) % 2 ^ 32⟩] ∧
      u = { s with words := u.words, recd := u.recd } ∧
      ∀ i, i ∉ [W.FC_PEND (n / 32), W.FC_CNT n, W.FC_LAST, W.FC_LAST_TLO, W.FC_LAST_THI, W.FC_FIRST, W.FC_FIRST_TLO, W.FC_FIRST_THI, W.REC_SEQ, W.REC_STAT] →
        u.word i = s.word i

/-- The fault collector (R438–R450, R458): raising, the reaction in effect and the rule of nesting, handlings that end, ALV_EXT, settings and clears. -/
def Obligations.FaultCollector : Prop :=
  ∀ (s : State) (n agent d1 d2 cls idx : Nat) (v : Word) (h : Handling) (l : List Handling) (r : Raise), s.awake = true →
    let refused := fun (i : Nat) (u : State) =>
      u = { s with words := u.words, raised := u.raised } ∧ u.Fields s [(F.FC_STAT_CFG_ERR, 1)] ∧ u.Raised s [(47, 0, i, v.toNat)]
    let normal := s.pw.phase ≠ .safeHold ∧ s.pw.phase ≠ .powerFail ∧ s.isActive = true ∧ r.jig = false
    let code := fun (k : Nat) => v.toNat / 2 ^ (4 * k) % 8
    let bad := ∃ k < 8, 6 ≤ code k ∨ (code k = 2 ∧ (8 * idx + k ≤ 19 ∨ (44 ≤ 8 * idx + k ∧ 8 * idx + k ≤ 47)))
    let ft := F.FC_CFG_FAULT_TASK.get v
    let tt := F.FC_CFG_TRAP_TASK.get v
    (n < 64 → n ≠ 14 → n ≠ 15 → s.Does (.faultFire n agent d1 d2) fun u => u = { s with raised := u.raised } ∧ u.Raised s [(n, agent, d1, d2)]) ∧
    (n = 14 ∨ n = 15 → s.Does (.faultFire n agent d1 d2) fun u => u = s) ∧
    (normal → s.fc.resetWindow = false → s.reaction r.src ≠ 4 → s.effective r = (s.reaction r.src, false)) ∧
    (normal → s.fc.resetWindow = false → s.reaction r.src = 4 → r.trap = false → s.on F.FC_STAT_TRAP = false →
      s.effective r = (if (s.fcTask F.FC_CFG_TRAP_TASK).isNone then 5 else 4, false)) ∧
    (normal → s.fc.resetWindow = false → s.reaction r.src = 4 → s.on F.FC_STAT_TRAP = true → s.effective r = (5, true)) ∧
    (normal → s.fc.resetWindow = true → s.effective r = (if s.reaction r.src = 4 ∨ s.reaction r.src = 5 then 6 else 0, false)) ∧
    (s.fc.stack = h :: l → nests n = true → s.meets r n =
      if h.cls < n then .applied else if ∃ q ∈ s.fc.queue, q.src = r.src then .merged else if s.fc.queue.length < 8 then .queued else .overflow) ∧
    (s.fc.stack = h :: l → h.cls = cls → h.ended = true → s.fc.queue = [] → s.Does (.faultHandlingEnd cls) fun u =>
      u = { s with fc := { s.fc with stack := l } }) ∧
    (s.fc.stack = h :: l → h.cls = 2 → h.ended = false → s.Does .blockResetComplete fun u =>
      u = { s with fc := { s.fc with stack := { h with ended := true } :: l } }) ∧
    (s.Does .tickConfirmLapse fun u => u.sch.confirming = false ∧ u.pw.alvArmed = false ∧ u.mem = s.mem ∧
      (s.pw.alvArmed = true → u.pw.alvExt = false ∧ u.on F.FC_STAT_ALV_STOPPED = true)) ∧
    (s.fcTaskBad ft = false → s.fcTaskBad tt = false → ft ≠ tt ∨ ft = 0x7F → s.Does (.fcCfgWrite v) fun u =>
      u.rd F.FC_CFG_FAULT_TASK = ft ∧ u.rd F.FC_CFG_TRAP_TASK = tt ∧ u.OtherWords s [W.FC_CFG] ∧ u.fc = s.fc) ∧
    (s.fcTaskBad ft = true ∨ s.fcTaskBad tt = true ∨ (ft = tt ∧ ft ≠ 0x7F) → s.Does (.fcCfgWrite v) (refused W.FC_CFG)) ∧
    (idx < 8 → ¬bad → s.Does (.fcReactWrite idx v) fun u => (∀ k < 8, u.reaction (8 * idx + k) = code k) ∧ u.OtherWords s [W.FC_REACT idx] ∧ u.fc = s.fc) ∧
    (idx < 8 → bad → s.Does (.fcReactWrite idx v) (refused (W.FC_REACT idx))) ∧
    (s.Does .clrFirst fun u => u = { s with words := u.words } ∧ (∀ i ∈ [W.FC_FIRST, W.FC_FIRST_TLO, W.FC_FIRST_THI], u.word i = 0) ∧
      u.OtherWords s [W.FC_FIRST, W.FC_FIRST_TLO, W.FC_FIRST_THI]) ∧
    (s.Does .clrQovf fun u => u = { s with words := u.words } ∧ u.word W.FC_QOVF = 0 ∧ u.OtherWords s [W.FC_QOVF]) ∧
    (s.Does .clrCnt fun u => u = { s with words := u.words } ∧ (∀ k < 64, u.word (W.FC_CNT k) = 0) ∧ ∀ i, (∀ k < 64, i ≠ W.FC_CNT k) → u.word i = s.word i) ∧
    (s.on F.FC_JIG_STAT_ARMED = false → s.role ≠ roleLoader → F.FC_JIG_CHECKER.get v ≠ 0 → F.FC_JIG_COUNT.get v ≠ 0 → s.Does (.fcJig v) fun u =>
      u.on F.FC_JIG_STAT_ARMED = true ∧ u.rd F.FC_JIG_STAT_CHECKER = F.FC_JIG_CHECKER.get v ∧ u.rd F.FC_JIG_STAT_LEFT = F.FC_JIG_COUNT.get v ∧
      u.fc = { s.fc with jigSafe := v.getLsbD 31 } ∧ u.OtherWords s [W.FC_JIG_STAT]) ∧
    (s.on F.FC_JIG_STAT_ARMED = true ∨ s.role = roleLoader ∨ F.FC_JIG_CHECKER.get v = 0 ∨ F.FC_JIG_COUNT.get v = 0 → s.Does (.fcJig v) (refused W.FC_JIG))

/-- The event recorder (R451, R452, R454–R456, R458): flushes, the rate report, a freeze from its start to its end, and user records. -/
def Obligations.EventRecorder : Prop :=
  ∀ (s : State) (code k x t0 : Nat) (w : Writer) (v : Word), s.awake = true →
    let noted := fun (u : State) (c src a b d : Nat) =>
      u.recd.staging = s.recd.staging ++ [⟨s.timeBase, c, src, a, b, d, (s.rd F.REC_SEQ + 1) % 2 ^ 32⟩] ∧ u.rd F.REC_SEQ = (s.rd F.REC_SEQ + 1) % 2 ^ 32 ∧
      u.mram = s.mram ∧ u.mem = s.mem
    let room := s.recd.staging.length < 8191
    (s.on F.REC_STAT_FROZEN = false → s.recd.lost = 0 → ∀ i ∈ [Instr.recorderFlush, .recorderFlushTimer, .flush], s.Does i fun u =>
      let h := s.mram.history ++ s.recd.staging
      u = { s with words := u.words, mram := { s.mram with history := h.drop (h.length - 65536) }, recd := { s.recd with staging := [], lost := 0 } } ∧
      u.Fields s [(F.REC_STAT_UNFLUSHED, 0), (F.REC_FLUSHED, s.rd F.REC_SEQ)]) ∧
    (s.on F.REC_STAT_FROZEN = true → ∀ i ∈ [Instr.recorderFlush, .recorderFlushTimer, .flush, .freeze], s.Does i fun u => u = s) ∧
    (s.recd.rates = [(code, k, x, t0)] → x ≠ 0 → room → s.Does .rateIntervalEnd fun u =>
      noted u 1 code x (t0 % 2 ^ 32) (t0 / 2 ^ 32 % 2 ^ 32) ∧ u.rd F.REC_SUPP = min F.REC_SUPP.max (s.rd F.REC_SUPP + x)) ∧
    (s.recd.rates = [(code, k, 0, t0)] → s.Does .rateIntervalEnd fun u => u = { s with recd := { s.recd with rates := [] } }) ∧
    (s.on F.REC_STAT_FROZEN = false → room → s.Does .freeze fun u => u.on F.REC_STAT_FROZEN = true ∧ noted u 3 0 1 0 0) ∧
    (s.on F.REC_STAT_FROZEN = true → room → (s.Does .unfreeze fun u => u.on F.REC_STAT_FROZEN = false ∧ noted u 3 0 0 0 0) ∧
      s.Does .freezeExpiry fun u => u.on F.REC_STAT_FROZEN = false ∧ noted u 3 0 0 1 0) ∧
    (let c := v.toNat % 2 ^ 16
     let d := fun (n : Nat) => (s.word (W.REC_UDATA n)).toNat
     (0x8000 ≤ c → v.toNat < 2 ^ 16 → room → (∀ l, s.rateLimit c = some l → (tget (0, 0, 0) s.recd.rates c).1 < l) → s.Does (.userRecord w v) fun u =>
       noted u c (match w with | .task n => n | .session n => 0x100 + n | .bench => 0x200) (d 0) (d 1) (d 2)) ∧
     (c < 0x8000 → v.toNat < 2 ^ 16 → s.Does (.userRecord w v) fun u =>
       u = { s with words := u.words, raised := u.raised } ∧ u.Fields s [(F.REC_STAT_CFG_ERR, 1)] ∧ u.Raised s [(47, 0, W.REC_UCODE, v.toNat)]))

/-! ## System rings, the CRC unit, firmware and the bench port (spec/16, spec/17) -/

/-- Rings and the CRC unit (R463, R464, R466–R472): descriptors taken, consumer indices, feeds and values. -/
def Obligations.RingsAndCrc : Prop :=
  ∀ (s : State) (r k ctx n : Nat) (v : Word) (result : Bool) (l : List Nat) (f : Feed) (fs : List Feed), s.awake = true →
    let d := tget [] s.sr.slots (65536 * r + s.ringCi r)
    let waiting := s.isActive = true ∧ ringPosted r = true ∧ s.ringCi r = s.ringDi r ∧ s.ringCi r ≠ s.ringPi r
    let step := fun (u : State) => u.ringCi r = (s.ringCi r + 1) % 65536 ∧ u.mem = s.mem ∧ u.tx = s.tx ∧ u.OtherWords s [W.RNG_CI r]
    (waiting → s.dGood r d = true → ringKind r = 1 → s.Does (.descriptorTake r) fun u => step u ∧ u.sr = { s.sr with ready := s.sr.ready ++ [r] }) ∧
    (waiting → s.dGood r d = false → s.noCycle = false → s.Does (.descriptorTake r) fun u =>
      step u ∧ u.sr.jobs = s.sr.jobs ++ [.result ⟨r, dNat d 4 4, dNat d 2 2, 7, [], []⟩] ∧ u.sr.ended = addNew s.sr.ended [r]) ∧
    (waiting → s.dGood r d = true → ringKind r = 2 → s.on (F.UC_CFG_HART_EN (dNat d 8 1)) = true → s.Does (.descriptorTake r) fun u =>
      step u ∧ u.sr = { s.sr with ready := s.sr.ready ++ [r] }) ∧
    (waiting → s.dGood r d = true → r = 5 → s.noCycle = false → s.Does (.descriptorTake r) fun u => step u ∧
      let recs := (historyFrom s.mram.history (dNat d 8 4)).take (dNat d 12 2)
      ∃ next, u.sr.jobs = s.sr.jobs ++ [.result ⟨5, dNat d 4 4, dNat d 2 2, 0, leBytes 4 recs.length ++ leBytes 4 next,
        [(dLoc (dNat d 20 4), recs.flatMap Rec.image)]⟩]) ∧
    (waiting → s.dGood r d = true → r = 6 → (tfind s.plant.sessions (dNat d 8 2)).isSome = true → dNat d 8 2 ≠ 0xFFFF → 1 ≤ dNat d 10 2 →
      verdict s.prot.active (memAccess 2 0 false (dLoc (dNat d 20 4)) (dNat d 10 2) false) = .allowed → s.Does (.descriptorTake r) fun u =>
        u.ringCi r = (s.ringCi r + 1) % 65536 ∧ u.sr = { s.sr with message := some ([dNat d 8 2], 0) } ∧ ∃ link,
          u.tx = s.tx ++ [⟨link, .message, dNat d 8 2 :: (s.bytes (dLoc (dNat d 20 4)) (dNat d 10 2)).map (·.toNat)⟩]) ∧
    (∀ d, s.sr.message = some (l, k) → s.taken 6 = some d → s.noCycle = false → s.Does .plantMessageTimeout fun u =>
      u.sr.message = none ∧ u.words = s.words ∧
      u.sr.jobs = s.sr.jobs ++ [.result ⟨6, dNat d 4 4, dNat d 2 2, if k = 0 then 2 else 0, leBytes 4 k, []⟩]) ∧
    (ringDelivered r = true → v.toNat < 65536 →
      let ahead := (v.toNat + 65536 - s.ringCi r) % 65536 ≤ (s.ringPi r + 65536 - s.ringCi r) % 65536
      (ahead → s.Does (.ringCiWrite r v) fun u => u = { s with words := u.words } ∧ u.Fields s [(F.RNG_CI r, v.toNat)]) ∧
      (¬ahead → s.Does (.ringCiWrite r v) fun u => u = { s with words := u.words } ∧ u.Fields s [(F.RNG_STAT_CFG_ERR, 1)])) ∧
    (ctx < 8 → s.sr.feeds.length < 256 →
      (∀ c ∈ [(Instr.crcIn8 ctx v, 1), (.crcIn16 ctx v, 2), (.crcIn32 ctx v, 4)], s.Does c.1 fun u =>
        u = { s with sr := { s.sr with feeds := s.sr.feeds ++ [.bytes ctx (leBytes c.2 v.toNat)] } })) ∧
    (s.sr.feeds = .bytes n (leBytes 1 v.toNat) :: fs → s.Does .crcFeedProcess fun u =>
      u.sr = { s.sr with feeds := fs } ∧ u.OtherWords s [W.CRC_VAL n] ∧
      u.word (W.CRC_VAL n) = BitVec.ofNat 32 (crcFeedByte (s.word (W.CRC_CFG n)) (s.word (W.CRC_VAL n)).toNat (BitVec.ofNat 8 v.toNat))) ∧
    (s.sr.feeds = f :: fs → s.Does .crcFeedProcess fun u => u.sr = { s.sr with feeds := fs } ∧ u.mem = s.mem) ∧
    (ctx < 8 → s.sr.feeds = [] → s.Does (.crcValueRead ctx result) fun u =>
      let cfg := s.word (W.CRC_CFG ctx)
      let w := (s.word (W.CRC_VAL ctx)).toNat
      u = { s with tx := s.tx ++ [⟨.inner, .reply, [(BitVec.ofNat 32 (if result then crcResult cfg w else crcMask cfg w)).toNat]⟩] })

/-- Firmware (R477, R478, R480–R484, R488): an update from its acceptance to the last part, the boot check and its four failures, the clone, and a load with a
stop. -/
def Obligations.FirmwareUpdate : Prop :=
  ∀ (s : State) (m : Manifest) (force b : Bool) (part n : Nat) (g : BitVec 256) (img : Image) (e : ManifestEntry),
    let held := fun (k : Nat) (u : State) => u.pw.phase = .held ∧ u.pw.kind = k ∧ u.pw.roleOut = false ∧ u.pw.alvOut = false ∧ u.sch.running = none ∧ u.mem = s.mem
    let fails := fun (r p : Nat) (u : State) =>
      u.pw.phase = .loader ∧ u.pw.kind = 5 ∧ u.upd.failReason = r ∧ u.upd.failPart = p ∧ u.rd F.RESET_CAUSE_CAUSE = 5 ∧ u.upd.glue = s.upd.glue
    let fit := m.formatOk = true ∧ m.sigOk = true ∧ s.partnerUnfit m = false
    let now := { s with upd := { s.upd with slots := tput part (n, g) s.upd.slots } }
    let glue := s.upd.glue
    let frames := (m.entries.map (fun (e : ManifestEntry) => (e.length + 4079) / 4080)).sum + 2
    (s.awake = true → s.netUp = true → s.engineerOpen = true → force = true ∨ fit → s.Does (.update m force) fun u =>
      held 5 u ∧ u.upd.target = some m ∧ u.upd.slots = s.upd.slots ∧ u.upd.glue = glue) ∧
    (s.engineerOpen = false → (s.Does (.update m force) fun u => u = s) ∧ (s.Does (.firmwarePart part n g) fun u => u = s) ∧ s.Does .loadStop fun u => u = s) ∧
    (s.awake = true → s.netUp = true → s.engineerOpen = true → ¬fit → s.Does (.update m false) fun u =>
      u = { s with words := u.words, raised := u.raised } ∧ u.Fields s [(F.UPD_STAT_UPD_REFUSED, 1)] ∧ u.Raised s [(61, 0, 1, 0)]) ∧
    (s.pw.phase = .loader → s.pair.cloning = false → s.upd.target = some m → n ≤ slotSize part → slotSize part ≠ 0 →
      s.engineerOpen = true →
      (now.partsLeft m ≠ [] → s.Does (.firmwarePart part n g) fun u =>
        u = { now with upd := { now.upd with left := now.partsLeft m }, tx := u.tx } ∧
        u.tx = s.tx ++ [⟨.plant1, if (now.partsLeft m).contains part then .refused else .reply, [part]⟩]) ∧
      (now.partsLeft m = [] → s.Does (.firmwarePart part n g) fun u =>
        held 4 u ∧ u.upd.glue = ⟨2, 0, m.setSeq.toNat, m.crc⟩ ∧ u.upd.manifest = some m ∧ u.upd.slots = now.upd.slots)) ∧
    (s.pw.phase = .loading → s.upd.offered = false →
      (glue.state ≠ 2 → glue.state ≠ 3 → s.Does .bootCheck (fails 1 0)) ∧
      (glue.state = 2 ∨ glue.state = 3 →
        (s.upd.manifest = none → s.Does .bootCheck (fails 5 0)) ∧
        (s.upd.manifest = some m →
          (m.formatOk = false ∨ m.crc ≠ glue.crc → s.Does .bootCheck (fails 5 0)) ∧
          (m.formatOk = true → m.crc = glue.crc →
            (m.sigOk = false → s.Does .bootCheck (fails 2 0)) ∧
            (m.sigOk = true → m.entries.find? (fun e => !s.slotHolds e) = some e → s.Does .bootCheck (fails 3 e.part)) ∧
            (m.sigOk = true → (∀ e ∈ m.entries, s.slotHolds e = true) →
              (s.upd.mrtDigest = s.upd.mrtFw → s.Does .bootCheck fun u =>
                u.pw.phase = .checked ∧ u.upd.glue = { glue with state := 3 } ∧ u.words = s.words ∧ u.mem = s.mem) ∧
              (s.upd.mrtDigest ≠ s.upd.mrtFw → s.Does .bootCheck fun u =>
                u = { s with upd := { s.upd with offered := true }, tx := s.tx ++ [⟨.sealed, .train, [7]⟩] })))))) ∧
    (s.pw.phase = .loading → s.upd.offered = true →
      let takes := s.mrt.works = true ∧ s.mrt.sealOpen = true ∧ b = true ∧ s.mrt.audit.length < 1024 ∧ s.mrt.prove.busy = false
      (takes → s.Does (.mrtAnswer b) fun u =>
        u.pw.phase = .checked ∧ u.upd.mrtFw = s.upd.mrtFw ∧ u.mrt.installing = true ∧ u.mrt.part = s.upd.mrtDigest ∧
        (glue.state = 2 → u.upd.glue = { glue with state := 3 }) ∧ (glue.state ≠ 2 → u.upd.glue = glue)) ∧
      (¬takes → glue.state = 2 → glue.origin = 0 → s.Does (.mrtAnswer b) (fails 4 0)) ∧
      (¬takes → glue.state ≠ 2 ∨ glue.origin ≠ 0 → s.Does (.mrtAnswer b) fun u =>
        u.pw.phase = .checked ∧ u.upd.mrtFw = s.upd.mrtFw ∧ u.mrt.installing = s.mrt.installing ∧ u.on F.UPD_STAT_MRT_MISMATCH = true ∧
        u.Raised s [(62, 0, 0, 0)])) ∧
    (s.pw.phase = .loader → s.on F.SLOT_STAT_VALID = true → s.upd.failReason ≠ 0 → s.upd.target = none → s.pair.cloning = false → s.upd.cloneFails < 3 →
      s.cloneSource = true → s.Does .cloneStart fun u => u = { s with pair := { s.pair with cloning := true, cloneManifest := false, clone := [] } }) ∧
    (s.awake = true → s.pw.phase ≠ .loader → s.on F.DT_STAT_LINK_UP = true → s.on F.PAIR_STAT_PRESENT = true → s.partnerRole = roleLoader → glue.state = 3 →
      s.upd.manifest = some m → s.Does .cloneStart fun u =>
        u = { s with pair := u.pair, tx := u.tx } ∧ u.pair.txSeq = s.pair.txSeq + frames ∧ u.tx.length = s.tx.length + frames) ∧
    (s.upd.stopping = false → s.engineerOpen = true →
      let alone := s.role = roleSolo ∨ (s.role = roleActive ∧ (s.pair.ptnDetached = true ∨ s.on F.PAIR_STAT_PRESENT = false))
      (alone → s.ocPhase = 0 → s.Does .loadStop fun u => u = { s with upd := { s.upd with stopping := true } }) ∧
      (¬alone → s.Does .loadStop fun u =>
        u = { s with words := u.words, raised := u.raised } ∧ u.Fields s [(F.UPD_STAT_UPD_REFUSED, 1)] ∧ u.Raised s [(61, 0, 2, 0)])) ∧
    (s.upd.stopping = true → s.Does (.loadStopTransferEnd img) fun u =>
      held 4 u ∧ u.upd.stopping = false ∧ u.mram.areas = setNth (some img) s.mram.areas (1 - s.bank) ∧
      ((s.rejects img true).isNone = b → u.mram.area = if b then 1 - s.mram.area else s.mram.area))

/-- The bench port (R489–R493, R495; spec/06 R190–R192): sessions, reads, writes and denials, halting, stepping and resuming, and the lock level. -/
def Obligations.BenchPort : Prop :=
  ∀ (s : State) (space a level : Nat) (v : Word), s.awake = true →
    let lock := s.rd F.BENCH_STAT_LOCK
    let open_ := s.on F.BENCH_STAT_SESSION = true
    let l := benchLoc a
    let k : Loc := { l with area := l.area % 8 }
    let denied := fun (u : State) => u.on F.BENCH_STAT_DENIED = true ∧ u.rd F.BENCH_DENY = min F.BENCH_DENY.max (s.rd F.BENCH_DENY + 1) ∧
      u.tx = s.tx ++ [⟨.bench, .denied, [0]⟩] ∧ u.mem = s.mem ∧ u.raised = s.raised ∧ (u.prog = s.prog ∧ u.sch = s.sch)
    (s.on F.BENCH_STAT_SESSION = false → s.Does .debugSessionOpen fun u =>
      u = { s with words := u.words, raised := u.raised } ∧ u.Fields s [(F.BENCH_STAT_SESSION, 1)] ∧ u.Raised s [(63, 0, 1, 0)]) ∧
    (s.Does .debugSessionEnd fun u => u = { s with words := u.words } ∧ u.Fields s [(F.BENCH_STAT_SESSION, 0)]) ∧
    (open_ → lock < 2 → s.benchFits k = true → verdict s.prot.active (memAccess 4 0 false k 4 false) = .allowed → s.Does (.debugRead 0 a) fun u =>
      u = { s with tx := s.tx ++ [⟨.bench, .reply, [leNat (if l.area < 8 then s.bytes k 4 else s.inactiveBytes k 4)]⟩] }) ∧
    (open_ → 2 ≤ lock ∨ 5 ≤ space ∨ (space = 4 ∧ benchForbidden a = true) → space ≠ 1 ∨ benchOpenWord a = false → s.Does (.debugRead space a) denied) ∧
    (open_ → lock = 0 → s.benchFits l = true → verdict s.prot.active (memAccess 4 0 true l 4 false) = .allowed →
      (s.lp.halted = true ∨ (s.noCycle = true ∧ s.sr.jobs = []) → s.Does (.debugWrite 0 a v) fun u =>
        u.mem = msetList (cellKey s.bank l) (leBytes 4 v.toNat) s.mem ∧ ⟨.bench, .reply, [0]⟩ ∈ u.tx) ∧
      (s.lp.halted = false → s.noCycle = false → s.Does (.debugWrite 0 a v) fun u =>
        u = { s with sr := { s.sr with jobs := s.sr.jobs ++ [.bench l (leBytes 4 v.toNat)] }, tx := s.tx ++ [⟨.bench, .reply, [0]⟩] })) ∧
    (open_ → lock ≠ 0 ∨ 5 ≤ space ∨ (space = 4 ∧ benchForbidden a = true) → s.Does (.debugWrite space a v) denied) ∧
    (open_ → lock = 0 → s.benchFits l = true → verdict s.prot.active (memAccess 4 0 true l 4 false) ≠ .allowed → s.Does (.debugWrite 0 a v) denied) ∧
    (open_ → lock = 0 →
      (s.Does (.debugBreakpoint a) fun u => u = { s with lp := { s.lp with breakpoints := addNew s.lp.breakpoints [a] } }) ∧
      (s.haltRefusal = none → s.lp.halted = false → s.lp.win = none → (∀ t, s.sch.running = some t → (s.rt t).owed = false) → s.Does .debugHalt fun u =>
        u = { s with words := u.words, raised := u.raised, lp := { s.lp with halted := true, stepping := false, haltNs := s.ns } } ∧
        u.Fields s [(F.BENCH_STAT_HALTED, 1)] ∧ u.Raised s [(63, 0, 2, 0)]) ∧
      (s.haltRefusal = none → s.lp.halted = false → s.lp.win.isSome = true → s.Does .debugHalt fun u => u = { s with lp := { s.lp with stepping := true } }) ∧
      (s.role = roleActive → s.Does .debugHalt fun u =>
        u = { s with words := u.words, tx := u.tx } ∧ u.Fields s [(F.BENCH_STAT_REFUSED_ACTIVE, 1)] ∧ u.tx.length = s.tx.length + 1) ∧
      (s.lp.halted = true → s.sch.running.isSome = true → s.Does .debugStep fun u => u = { s with lp := { s.lp with stepping := true } }) ∧
      (s.lp.halted = true → s.sch.held = [] → s.Does .debugResume fun u =>
        u.lp.halted = false ∧ u.lp.stepping = false ∧ u.on F.BENCH_STAT_HALTED = false ∧ u.mem = s.mem)) ∧
    (open_ → lock ≠ 0 → ∀ i ∈ [Instr.debugBreakpoint a, .debugHalt, .debugStep, .debugResume], s.Does i fun u =>
      u = { s with tx := s.tx ++ [⟨.bench, .denied, [0]⟩] }) ∧
    (open_ → s.upd.lock < level → level ≤ 2 → s.Does (.lockLevelChange level true) fun u =>
      u = { s with words := u.words, upd := { s.upd with lock := level }, raised := u.raised } ∧ u.Fields s [(F.BENCH_STAT_LOCK, level)] ∧
      u.Raised s [(63, 0, 3, level)]) ∧
    (open_ → level < s.upd.lock → s.upd.lock ≤ 2 → s.Does (.lockLevelChange level true) fun u => u = { s with tx := s.tx ++ [⟨.bench, .denied, [0]⟩] }) ∧
    (s.engineerOpen = true → level < s.upd.lock → s.upd.lock = 2 → s.role ≠ roleLoader → s.Does (.lockLevelChange level false) fun u =>
      u = { s with tx := s.tx ++ [⟨.plant1, .refused, [level]⟩] }) ∧
    (s.engineerOpen = true → level < s.upd.lock → s.upd.lock ≤ 1 ∨ (s.upd.lock = 2 ∧ s.role = roleLoader) → s.Does (.lockLevelChange level false) fun u =>
      u.upd.lock = level ∧ u.rd F.BENCH_STAT_LOCK = level ∧ u.mem = s.mem ∧ u.Raised s [(63, 0, 3, level)]) ∧
    (s.engineerOpen = false → s.Does (.lockLevelChange level false) fun u => u = s)

/-! ## Power, clocks, reset and start-up (spec/01, spec/02) -/

/-- Feeds, the supervisor and the clock domains (R32, R34, R42–R51; spec/12 R377). -/
def Obligations.SupervisorAndClocks : Prop :=
  ∀ (s : State) (b railOut : Bool) (mv d ns e : Nat) (x : Int), mv < 2 ^ 32 →
    let feed := fun (u : State) => u.word (if b then W.FEED_B_MV else W.FEED_A_MV) = BitVec.ofNat 32 mv ∧
      u.on (if b then F.AON_STAT_FEED_B_OK else F.AON_STAT_FEED_A_OK) = (decide (19200 ≤ mv) && decide (mv ≤ 30000)) ∧ u.mem = s.mem
    let once := fun (k : Nat) (u : State) => k ∈ u.fc.conds ∧ (k ∉ s.fc.conds → ∃ y ∈ u.raised, y.src = k) ∧ (k ∈ s.fc.conds → u.raised = s.raised)
    let gone := fun (k : Nat) (u : State) => k ∉ u.fc.conds ∧ u.raised = s.raised
    let sleeps := ∃ bound, domBound d = some bound
    let starting := s.dom d = .startingGated ∨ s.dom d = .startingParked
    let failed := fun (u : State) => u.dom d = .off ∧ (u.word W.DOM_FAIL).getLsbD (d - 1) = true ∧ ∃ y ∈ u.raised, y.src = 2 ∧ y.d1 = d
    let six := fun (k : Nat) (u : State) => k ∈ u.fc.conds ∧ ((106 ∉ s.fc.conds ∧ 206 ∉ s.fc.conds) → ∃ y ∈ u.raised, y.src = 6) ∧
      (106 ∈ s.fc.conds ∨ 206 ∈ s.fc.conds → u.raised = s.raised)
    let quiet := d = 6 → ∀ e ∈ s.sch.tasks, e.2.ending = false
    let next := match s.dom d with | .gated => .startingGated | .parked => .startingParked | .off => .startingParked | m => m
    (s.Does .holdupCharged fun u => u.on F.HOLDUP_CHARGED = true ∧ gone 206 u ∧ (106 ∈ u.fc.conds ↔ 106 ∈ s.fc.conds) ∧ u.mem = s.mem) ∧
    (∀ c ∈ [Instr.feedOvervoltageDisconnect b mv, .feedOutOfRange b mv], s.Does c fun u => feed u ∧
      (30000 < mv → (if b then u.pw.cutB else u.pw.cutA) = true) ∧ (mv < 30000 → (if b then u.pw.cutB else u.pw.cutA) = false) ∧
      (19200 ≤ mv → mv ≤ 29999 → u.mrt.powered = true)) ∧
    (s.Does (.feedOutOfRange b mv) fun u =>
      (mv < 19200 ∨ 30000 < mv → once (if b then 5 else 4) u) ∧ (19200 ≤ mv → mv ≤ 30000 → gone (if b then 5 else 4) u)) ∧
    (s.Does (.boardLimitExceeded x railOut) fun u => u.rd F.BOARD_TEMP = (x % 65536).toNat ∧ u.mem = s.mem ∧
      (950 < x ∨ railOut = true → once 7 u) ∧ (x ≤ 950 → railOut = false → gone 7 u)) ∧
    (s.pw.phase ≠ .powerFail → s.pw.phase ≠ .aonOnly → s.Does (.holdupEnergyTest none) fun u =>
      u = { s with words := u.words } ∧ u.Fields s [(F.HOLDUP_TESTING, 1)]) ∧
    (s.on F.HOLDUP_TESTING = false → s.Does (.holdupEnergyTest (some e)) fun u => u = s) ∧
    (s.on F.HOLDUP_TESTING = true → s.Does (.holdupEnergyTest (some e)) fun u => u.rd F.HOLDUP_ENERGY_MJ = min 65535 e ∧ u.on F.HOLDUP_TESTING = false ∧
      (e < 1500 → six 106 u) ∧ (1500 ≤ e → gone 106 u ∧ (206 ∈ u.fc.conds ↔ 206 ∈ s.fc.conds))) ∧
    s.Does .holdupRechargeTimeout (six 206) ∧
    (s.Does .aonCrystalStop fun u => once 0 u ∧ u.on F.AON_STAT_RC_MODE = true ∧ u.on F.AON_STAT_BACKUP_VALID = false) ∧
    (s.awake = true → s.dom 7 = .run → s.Does .timeBackupAlign fun u =>
      u.pw.backupTicks = s.aonTicks ∧ u.pw.backupTime = s.timeBase ∧ u.on F.AON_STAT_BACKUP_VALID = true ∧ u.ptp = s.ptp) ∧
    (s.Does .backupCapacitorSpent fun u => u.pw.backupUnbroken = false ∧ u.on F.AON_STAT_BACKUP_VALID = false ∧ u.ptp = s.ptp ∧ u.mem = s.mem) ∧
    (s.awake = true → (100 < x.natAbs → s.Does (.refDeviationCheck x) fun u => 3 ∈ u.fc.conds ∧ u.on F.TIME_STAT_REF_SUSPECT = true ∧
      (3 ∉ s.fc.conds → ∃ y ∈ u.raised, y.src = 3)) ∧
      (x.natAbs ≤ 100 → s.Does (.refDeviationCheck x) fun u => gone 3 u ∧ u.on F.TIME_STAT_REF_SUSPECT = false)) ∧
    (1 ≤ d → d ≤ 14 →
      let can := s.on (F.CH_CFG_EN 0) = true ∨ s.on (F.CH_CFG_EN 1) = true
      (s.awake = true → d ≠ 1 → d ≠ 12 → d ≠ 11 ∨ can → quiet → s.Does (.domainStartRequest d) fun u => u.words = s.words ∧ u.dom d = next) ∧
      (d = 11 → ¬can → s.Does (.domainStartRequest d) fun u => u = s) ∧
      (s.awake = true → sleeps → d ≠ 2 → d ≠ 6 ∨ s.lp.waiting = some 6 → s.Does (.domainAccessStart d) fun u => u.words = s.words ∧ u.dom d = next) ∧
      (d = 6 → s.lp.waiting ≠ some 6 → s.Does (.domainAccessStart d) fun u => u = s) ∧
      (∀ g p, domBound d = some (g, p) →
        let bound := if s.dom d = .startingGated then g else p
        (starting → ns ≤ bound → quiet → s.Does (.domainFirstEdge d ns) fun u => u.dom d = .run ∧ u.words = s.words ∧ u.raised = s.raised ∧
          (s.lp.waiting = some d → u.lp.waiting = none ∧ u.lp.waitNs = s.lp.waitNs + ns) ∧ (s.lp.waiting ≠ some d → u.lp = s.lp)) ∧
        (starting → bound < ns → ns ≤ 4 * bound → quiet → s.Does (.domainFirstEdge d ns) fun u =>
          u.dom d = .run ∧ (u.word W.DOM_LATE).getLsbD (d - 1) = true ∧ u.rd F.LAST_LATE_DOMAIN = d ∧ u.rd F.LAST_LATE_START_NS = ns ∧
          ∃ y ∈ u.raised, y.src = 1 ∧ y.d1 = d) ∧
        (starting → 4 * bound < ns → s.Does (.domainFirstEdge d ns) failed) ∧
        (s.awake = true → s.dom d = .run → s.domBusy d = false → s.Does (.domainStop d ns) fun u => u.words = s.words ∧
          u.dom d = if p + 5000 ≤ ns ∧ (s.word W.DOM_PARK).getLsbD (d - 1) = true then .parked else .gated)) ∧
      (starting → s.Does (.domainStartFailed d) failed) ∧
      (d ≠ 1 → d ≠ 12 → s.dom d = .run → s.Does (.pllLockLoss d) failed))

/-- Insertion, release, start-up, the power-fail sequence and resets (R17, R18, R36, R38, R52–R65; spec/05 R162, R163; spec/15 R444). -/
def Obligations.PowerUpAndDown : Prop :=
  ∀ (s : State) (id a b k : Nat) (v : Word) (p : Image) (r : Session), a < 2 ^ 32 → b < 2 ^ 32 → id < 16 →
    let down := s.pw.phase = .held ∨ s.pw.phase = .aonOnly
    let ranks := fun (kind : Nat) (u : State) => u.pw.phase = .held ∧ u.pw.kind = kind ∧ u.pw.roleOut = false ∧ u.pw.alvOut = false ∧ u.pw.alvRun = false ∧
      u.sch.running = none ∧ u.mem = s.mem
    let fresh := fun (u : State) => u.rd F.RESET_CAUSE_CAUSE = s.pw.kind ∧ u.mram.bootCount = min 0xFFFFFFFF (s.mram.bootCount + 1) ∧
      u.epoch = s.storedEpoch % 2 ^ 32 ∧ u.prog = none ∧ u.fc.stack = [] ∧ u.sch.running = none ∧ u.mem = s.mem ∧ u.role = roleLoader
    let ends := fun (u : State) => u.pw.phase = .aonOnly ∧ u.pw.roleOut = false ∧ u.pw.alvOut = false ∧ u.dom 2 = .off ∧ u.mem = s.mem
    (down → s.Does (.moduleInsertion id a b) fun u => u.rd F.SLOT_STAT_ID = id ∧ u.on F.SLOT_STAT_VALID = decide (id / 2 = 5) ∧
      u.word W.FEED_A_MV = BitVec.ofNat 32 a ∧ u.word W.FEED_B_MV = BitVec.ofNat 32 b ∧ u.pw.phase = .held ∧ u.on F.HOLDUP_CHARGED = false ∧
      u.pw.kind = if s.pw.phase = .aonOnly ∧ s.pw.kind = 2 then 2 else 1) ∧
    (down → s.pw.kind ≠ 5 → s.pw.kind < 6 → s.on F.SLOT_STAT_VALID = true → s.fed = true →
      s.Does .resetRelease fun u => fresh u ∧ u.pw.phase = .loading) ∧
    (down → s.pw.kind < 6 → s.fed = true → id / 2 ≠ 5 → id / 2 ≠ 7 → s.Does (.slotIdInvalidLoader id) fun u => fresh u ∧ u.pw.phase = .loader ∧ u.on F.SLOT_STAT_VALID = false) ∧
    (s.pw.phase ≠ .held → s.pw.phase ≠ .aonOnly → id / 2 ≠ 5 → s.pw.phase ≠ .powerFail → s.Does (.extractionNotice id) fun u =>
      u.pw.phase = .powerFail ∧ u.rd F.SLOT_STAT_ID = id ∧ u.on F.SLOT_STAT_VALID = false ∧ u.vn.stopped = true) ∧
    (s.pw.phase = .running → s.ocPhase = 0 → s.pw.tasksBegan = true → s.Does .powerFailDetect fun u =>
      u.pw.phase = .powerFail ∧ u.pw.pfStep = 1 ∧ u.lp.win = none ∧ u.lp.stopped = true ∧ u.le.stopped = true ∧ u.pw.alvOut = false ∧
      u.pw.roleOut = false ∧ u.pw.alvExt = false ∧ u.vn.stopped = true ∧ u.mem = s.mem ∧
      ∃ n c, (if n % 2 = 1 then u.mram.pfA else u.mram.pfB) = some ⟨n, s.aonTicks, 0, 0, false, false, c⟩ ∧
        c = PfRec.crc32 ⟨n, s.aonTicks, 0, 0, false, false, c⟩) ∧
    (s.pw.phase = .powerFail →
      (s.pw.pfStep = 1 → s.Does .pfStepComplete fun u => u.pw.pfStep = 2 ∧ u.pw.pfDone = s.pw.pfDone ++ [1] ∧ u.recd.staging.length ≤ 1) ∧
      (s.pw.pfStep = 2 → s.pw.pfEarly = false → s.Does .pfStepComplete fun u => u.pw.pfStep = 3 ∧ u.mram.jsealed = true) ∧
      (s.pw.pfStep = 3 → s.vn.pairOn = true → s.Does .pfStepComplete fun u => u.pw.pfStep = 4) ∧
      (s.pw.pfStep = 4 → s.vn.pairOn = true → s.Does .pfStepComplete fun u => u = s) ∧
      (s.pw.pfStep = 4 → s.Does .pfStepTimeout fun u => u.pw.pfStep = 5 ∧ u.vn.pairOn = false ∧ u.pw.pfDone = s.pw.pfDone) ∧
      (s.pw.pfStep = 5 → s.Does .pfStepComplete ends) ∧
      (s.pw.pfStep = 5 → s.Does .pfStepTimeout ends) ∧
      (s.pw.pfStep = 1 → s.Does .pfStepTimeout fun u => u.pw.pfStep = 2 ∧ u.pw.pfDone = s.pw.pfDone)) ∧
    (s.awake = true → s.pw.phase ≠ .safeHold → s.pw.phase ≠ .powerFail → tfind s.plant.sessions k = some r → r.rights = .engineer →
      s.Does (.commandReset false k) (ranks 4)) ∧
    (s.awake = true → s.pw.phase ≠ .safeHold → s.pw.phase ≠ .powerFail → s.on F.BENCH_STAT_SESSION = true → s.Does (.commandReset true k) (ranks 4)) ∧
    (s.pw.phase = .checked → nth none s.mram.areas s.mram.area = some p → s.Does .firmwareStart fun u =>
      u.pw.phase = .prepared ∧ u.prog = some p ∧ u.pw.alvRun = true ∧ u.dom 2 = .run ∧ 1 ≤ u.pair.startMode ∧ u.pair.startMode ≤ 3 ∧
      u.rd F.START_INFO_PERFORMED = u.pair.startMode ∧
      ((∀ x ∈ p.tasks, x.id < 98) → u.word W.OC_VER_RUN = BitVec.ofNat 32 p.version)) ∧
    (s.pw.phase = .ready → s.on F.HOLDUP_CHARGED = true →
      (s.isActive = false → s.Does .startTaskBegin fun u => u = { s with pw := { s.pw with phase := .running, alvArmed := true, tasksBegan := true } }) ∧
      (s.isActive = true → s.prog = some p → s.pair.startMode = 1 → s.declared 96 = false → s.dom 2 = .run → s.dom 5 = .run → s.Does .startTaskBegin fun u =>
        u.pw.phase = .running ∧ u.pw.alvArmed = true ∧ u.pw.tasksBegan = true ∧ u.rd F.SCH_STAT_STATE = 2 ∧ u.sch.first = true ∧
        u.mram.ran = true ∧ u.mram.retainOk = true ∧ u.mram.journal = [] ∧ u.mram.rules = s.prot.staged)) ∧
    (∀ e, s.rd F.SCH_STAT_STATE = 1 → s.sch.tasks.find? (fun (e : Nat × TaskRt) => isStart e.1 && e.2.st == .cycle) = some e →
      s.Does .startTaskTimeout fun u => u.rd F.SCH_STAT_STATE = 3 ∧ ∃ y ∈ u.raised, y.src = 19 ∧ y.agent = e.1) ∧
    (s.awake = true → s.Does (.restartCfgWrite v) fun u => u.rd F.RESTART_CFG_AFTER_POWER = F.RESTART_CFG_AFTER_POWER.get v ∧
      u.rd F.RESTART_CFG_HOT_MAX_OUTAGE = F.RESTART_CFG_HOT_MAX_OUTAGE.get v ∧ u.mram.restartCfg = some (u.word W.RESTART_CFG) ∧ u.mem = s.mem) ∧
    (s.prog = some p → s.Does .mramCopyComplete fun u => u.on F.OC_STAT_MRAM_SYNC = true ∧ u.mram.rewriting = false ∧ u.mem = s.mem ∧
      (s.rd F.RESYNC_STAT_PHASE = 6 → u.pair.copyDone = true)) ∧
    (s.pw.alvArmed = true → s.Does .alvExtToggle fun u =>
      let lvl := !s.pw.alvExt && decide (15000 ≤ s.lio.fldMv) && !s.pw.alvLimit
      u = { s with pw := { s.pw with alvExt := lvl }, tx := s.tx ++ [⟨.field, .level, [1, bitNat lvl]⟩] })
end

