-- ==== Sys2Proof/Laws/Code.lean ====
section
/-! SUPPORT. The words of an instruction of the logic processor spell it: decoding what codeOf writes gives the instruction back. -/
namespace Sys2Proof.Laws
open Sys2Proof.Machine

theorem codeWord_bit (n : Nat) (a : BitVec 4) (d : BitVec 22) (i : Nat) :
    (codeWord n a d).getLsbD i = if i < 22 then d.getLsbD i else if i < 26 then a.getLsbD (i - 22) else (BitVec.ofNat 6 n).getLsbD (i - 26) := by
  show (BitVec.ofNat 6 n ++ a ++ d : BitVec (6 + 4 + 22)).getLsbD i = _
  rw [BitVec.getLsbD_append, BitVec.getLsbD_append]
  split
  · rfl
  · split
    · rw [if_pos (by omega)]
    · rw [if_neg (by omega), Nat.sub_sub]

theorem codeWord_op (n : Nat) (a : BitVec 4) (d : BitVec 22) : wordOp (codeWord n a d) = n % 64 := by
  have : (codeWord n a d).extractLsb' 26 6 = BitVec.ofNat 6 n := by
    apply BitVec.eq_of_getLsbD_eq; intro i h
    rw [BitVec.getLsbD_extractLsb', codeWord_bit]
    simp [h, show ¬ 26 + i < 22 by omega]
  rw [wordOp, this]; simp

theorem codeWord_area (n : Nat) (a : BitVec 4) (d : BitVec 22) : wordArea (codeWord n a d) = a := by
  apply BitVec.eq_of_getLsbD_eq; intro i h
  rw [wordArea, BitVec.getLsbD_extractLsb', codeWord_bit]
  simp [h, show 22 + i < 26 by omega]

theorem codeWord_opd (n : Nat) (a : BitVec 4) (d : BitVec 22) : wordOpd (codeWord n a d) = d := by
  apply BitVec.eq_of_getLsbD_eq; intro i h
  rw [wordOpd, BitVec.getLsbD_extractLsb', codeWord_bit]
  simp [h]

theorem argWord_arg (op fn : Nat) (o : ArgOpnd) : wordArg (argWord op fn o) = o := by
  have : (wordOpd (argWord op fn o)).extractLsb' 0 16 = o.arg := by
    rw [argWord, codeWord_opd]
    apply BitVec.eq_of_getLsbD_eq; intro i h
    rw [BitVec.getLsbD_extractLsb']
    show (decide (i < 16) && (BitVec.ofNat 6 fn ++ o.arg : BitVec (6 + 16)).getLsbD (0 + i)) = _
    rw [BitVec.getLsbD_append]; simp [h]
  rw [wordArg, this, argWord, codeWord_area]

theorem argWord_fn (op fn : Nat) (o : ArgOpnd) : wordFn (argWord op fn o) = fn % 64 := by
  have : (wordOpd (argWord op fn o)).extractLsb' 16 6 = BitVec.ofNat 6 fn := by
    rw [argWord, codeWord_opd]
    apply BitVec.eq_of_getLsbD_eq; intro i h
    rw [BitVec.getLsbD_extractLsb']
    show (decide (i < 6) && (BitVec.ofNat 6 fn ++ o.arg : BitVec (6 + 16)).getLsbD (16 + i)) = _
    rw [BitVec.getLsbD_append]; simp [h]
  rw [wordFn, this]; simp

theorem fnWord_bit (fn : Nat) (o : FnOpnd) (i : Nat) : (wordOpd (fnWord fn o)).getLsbD i =
    if i < 4 then o.cond.getLsbD i else if i < 8 then (BitVec.ofNat 4 fn).getLsbD (i - 4) else o.rest.getLsbD (i - 8) := by
  rw [fnWord, codeWord_opd]
  show (o.rest ++ BitVec.ofNat 4 fn ++ o.cond : BitVec (14 + 4 + 4)).getLsbD i = _
  rw [BitVec.getLsbD_append, BitVec.getLsbD_append]
  split
  · rfl
  · split
    · rw [if_pos (by omega)]
    · rw [if_neg (by omega), Nat.sub_sub]

theorem fnWord_cond (fn : Nat) (o : FnOpnd) : wordCond (fnWord fn o) = o := by
  have h1 : (wordOpd (fnWord fn o)).extractLsb' 8 14 = o.rest := by
    apply BitVec.eq_of_getLsbD_eq; intro i h
    rw [BitVec.getLsbD_extractLsb', fnWord_bit]; simp [h, show ¬ 8 + i < 4 by omega]
  have h2 : (wordOpd (fnWord fn o)).extractLsb' 0 4 = o.cond := by
    apply BitVec.eq_of_getLsbD_eq; intro i h
    rw [BitVec.getLsbD_extractLsb', fnWord_bit]; simp [h]
  rw [wordCond, h1, h2, fnWord, codeWord_area]

theorem fnWord_fn (fn : Nat) (o : FnOpnd) : wordFn13 (fnWord fn o) = fn % 16 := by
  have : (wordOpd (fnWord fn o)).extractLsb' 4 4 = BitVec.ofNat 4 fn := by
    apply BitVec.eq_of_getLsbD_eq; intro i h
    rw [BitVec.getLsbD_extractLsb', fnWord_bit]; simp [h, show ¬ 4 + i < 4 by omega, show 4 + i < 8 by omega]
  rw [wordFn13, this]; simp

@[simp] theorem argWord_op (op fn : Nat) (o : ArgOpnd) : wordOp (argWord op fn o) = op % 64 := codeWord_op ..
@[simp] theorem argWord_area (op fn : Nat) (o : ArgOpnd) : wordArea (argWord op fn o) = o.area := codeWord_area ..
@[simp] theorem fnWord_op (fn : Nat) (o : FnOpnd) : wordOp (fnWord fn o) = 0x13 := codeWord_op ..
@[simp] theorem fnWord_area (fn : Nat) (o : FnOpnd) : wordArea (fnWord fn o) = o.area := codeWord_area ..

/-- No bit of an instruction's words is dropped: the words of an instruction spell it, whatever its operand; what the passes report is no part of a word. -/
theorem codeInstr_codeOf (i : Instr) (w w2 : Word) (h : codeOf i = some (w, w2)) :
    ∃ rep, codeInstr rep w w2 = .ok i := by
  cases i
  all_goals first | (cases h; done) | skip
  all_goals (injection h with h; injection h with h1 h2; subst h1 h2)
  all_goals first
    | (refine ⟨⟨.same, .same, .same⟩, ?_⟩
       simp only [codeInstr, memWord, codeWord_op, codeWord_area, codeWord_opd, argWord_op, argWord_area, argWord_arg, argWord_fn, fnWord_op, fnWord_area, fnWord_cond, fnWord_fn]
       rfl)
    | (rename_i o rep; refine ⟨rep, ?_⟩
       simp only [codeInstr, argWord_op, argWord_area, argWord_arg, argWord_fn]
       rfl)
end Sys2Proof.Laws
end

