-- ==== Sys2Proof/Laws/Tables.lean ====
section
/-! SUPPORT. Laws of tables, of the system words and of memory: a read after a write, and the canonical forms. -/

namespace Sys2Proof.Laws

open Sys2Proof.Machine

/-! ## Tables -/

theorem tget_tput_same {α : Type} (d : α) (k : Nat) (v : α) (t : Tab α) : tget d (tput k v t) k = v := by
  induction t with
  | nil => simp [tput, tget]
  | cons e t ih =>
    obtain ⟨j, u⟩ := e
    simp only [tput]
    split
    · simp [tget]
    · split
      · simp [tget]
      · rename_i h1 h2
        simp only [tget]
        rw [if_neg (by omega)]
        exact ih

theorem tget_tput_other {α : Type} (d : α) {k j : Nat} (h : j ≠ k) (v : α) (t : Tab α) : tget d (tput k v t) j = tget d t j := by
  induction t with
  | nil => simp [tput, tget, Ne.symm h]
  | cons e t ih =>
    obtain ⟨i, u⟩ := e
    simp only [tput]
    split
    · simp [tget, Ne.symm h]
    · split
      · rename_i h2
        subst h2
        simp [tget, Ne.symm h]
      · simp only [tget, ih]

theorem tfind_tput_same {α : Type} (k : Nat) (v : α) (t : Tab α) : tfind (tput k v t) k = some v := by
  induction t with
  | nil => simp [tput, tfind]
  | cons e t ih =>
    obtain ⟨j, u⟩ := e
    simp only [tput]
    split
    · simp [tfind]
    · split
      · simp [tfind]
      · simp only [tfind]
        rw [if_neg (by omega)]
        exact ih

theorem tfind_tput_other {α : Type} {k j : Nat} (h : j ≠ k) (v : α) (t : Tab α) : tfind (tput k v t) j = tfind t j := by
  induction t with
  | nil => simp [tput, tfind, Ne.symm h]
  | cons e t ih =>
    obtain ⟨i, u⟩ := e
    simp only [tput]
    split
    · simp [tfind, Ne.symm h]
    · split
      · rename_i h2
        subst h2
        simp [tfind, Ne.symm h]
      · simp only [tfind, ih]

/-! ## System words -/

theorem wfind_filter_same (l : Words) (i : Nat) : wfind (l.filter fun e => e.1 != i) i = none := by
  induction l with
  | nil => rfl
  | cons e t ih =>
    obtain ⟨j, u⟩ := e
    by_cases h : j = i
    · simp [h, ih]
    · simp [h, wfind, ih]

theorem wfind_filter_other {i k : Nat} (h : k ≠ i) (l : Words) : wfind (l.filter fun e => e.1 != i) k = wfind l k := by
  induction l with
  | nil => rfl
  | cons e t ih =>
    obtain ⟨j, u⟩ := e
    by_cases hj : j = i
    · subst hj
      simp [wfind, Ne.symm h, ih]
    · simp [hj, wfind, ih]

theorem wfind_wput_same (i : Nat) (v : Word) (l : Words) : wfind (wput i v l) i = some v := by
  induction l with
  | nil => simp [wput, wfind]
  | cons e t ih =>
    obtain ⟨j, u⟩ := e
    simp only [wput]
    split
    · simp [wfind]
    · split
      · simp [wfind]
      · simp only [wfind]
        rw [if_neg (by omega)]
        exact ih

theorem wfind_wput_other {i k : Nat} (h : k ≠ i) (v : Word) (l : Words) : wfind (wput i v l) k = wfind l k := by
  induction l with
  | nil => simp [wput, wfind, Ne.symm h]
  | cons e t ih =>
    obtain ⟨j, u⟩ := e
    simp only [wput]
    split
    · simp [wfind, Ne.symm h]
    · split
      · rename_i h2
        subst h2
        simp [wfind, Ne.symm h]
      · simp only [wfind, ih]

/-- A word reads as it was last written. -/
@[simp] theorem word_setWord_same (s : State) (i : Nat) (v : Word) : (s.setWord i v).word i = v := by
  unfold State.word State.setWord wset
  split
  · simp [wfind_filter_same, *]
  · simp [wfind_wput_same]

/-- Writing a word leaves every other word. -/
theorem word_setWord_other (s : State) {i k : Nat} (h : k ≠ i) (v : Word) : (s.setWord i v).word k = s.word k := by
  unfold State.word State.setWord wset
  split
  · simp [wfind_filter_other h]
  · simp [wfind_wput_other h]

theorem word_setWord (s : State) (i k : Nat) (v : Word) : (s.setWord i v).word k = if k = i then v else s.word k := by
  by_cases h : k = i
  · subst h; simp
  · simp [h, word_setWord_other s h]

theorem wfFrom_mono {lo lo' : Nat} (h : lo' ≤ lo) (l : Words) (hl : Words.wfFrom lo l = true) : Words.wfFrom lo' l = true := by
  cases l with
  | nil => rfl
  | cons e t =>
    obtain ⟨k, b⟩ := e
    simp only [Words.wfFrom, Bool.and_eq_true, decide_eq_true_eq] at hl ⊢
    exact ⟨⟨by omega, hl.1.2⟩, hl.2⟩

theorem wfFrom_filter (p : Nat × Word → Bool) (l : Words) (lo : Nat) (h : Words.wfFrom lo l = true) :
    Words.wfFrom lo (l.filter p) = true := by
  induction l generalizing lo with
  | nil => rfl
  | cons e t ih =>
    obtain ⟨j, u⟩ := e
    simp only [Words.wfFrom, Bool.and_eq_true, decide_eq_true_eq] at h
    by_cases hp : p (j, u) = true
    · rw [List.filter_cons_of_pos hp]
      simp only [Words.wfFrom, Bool.and_eq_true, decide_eq_true_eq]
      exact ⟨h.1, ih _ h.2⟩
    · rw [List.filter_cons_of_neg hp]
      exact wfFrom_mono (by omega) _ (ih _ h.2)

theorem wfFrom_wput (l : Words) (i lo : Nat) (v : Word) (hv : v ≠ resetOf i) (hi : lo ≤ i) (h : Words.wfFrom lo l = true) :
    Words.wfFrom lo (wput i v l) = true := by
  induction l generalizing lo with
  | nil => simp [wput, Words.wfFrom, hi, hv]
  | cons e t ih =>
    obtain ⟨j, u⟩ := e
    simp only [Words.wfFrom, Bool.and_eq_true, decide_eq_true_eq] at h
    simp only [wput]
    split
    · simp only [Words.wfFrom, Bool.and_eq_true, decide_eq_true_eq]
      exact ⟨⟨hi, by simpa using hv⟩, ⟨by omega, h.1.2⟩, h.2⟩
    · split
      · rename_i h1
        subst h1
        simp only [Words.wfFrom, Bool.and_eq_true, decide_eq_true_eq]
        exact ⟨⟨hi, by simpa using hv⟩, h.2⟩
      · simp only [Words.wfFrom, Bool.and_eq_true, decide_eq_true_eq]
        exact ⟨h.1, ih _ (by omega) h.2⟩

/-- Setting a word keeps the canonical form of the words. -/
theorem words_wf_wset (l : Words) (i : Nat) (v : Word) (h : Words.wf l = true) : Words.wf (wset i v l) = true := by
  unfold wset
  split
  · exact wfFrom_filter _ l 0 h
  · exact wfFrom_wput l i 0 v (by assumption) (Nat.zero_le _) h

/-! ## Memory -/

theorem mget_filter_same (m : List Host.Cell) (k : Nat) : mget (m.filter fun c => c.1 != k) k = 0 := by
  induction m with
  | nil => rfl
  | cons e t ih =>
    obtain ⟨j, u⟩ := e
    by_cases h : j = k
    · simp [h, ih]
    · simp [h, mget, ih]

theorem mget_filter_other {i k : Nat} (h : k ≠ i) (m : List Host.Cell) : mget (m.filter fun c => c.1 != i) k = mget m k := by
  induction m with
  | nil => rfl
  | cons e t ih =>
    obtain ⟨j, u⟩ := e
    by_cases hj : j = i
    · subst hj
      simp [mget, Ne.symm h, ih]
    · simp [hj, mget, ih]

theorem mget_mput_same (k : Nat) (b : Byte) (m : List Host.Cell) : mget (mput k b m) k = b := by
  induction m with
  | nil => simp [mput, mget]
  | cons e t ih =>
    obtain ⟨j, u⟩ := e
    simp only [mput]
    split
    · simp [mget]
    · split
      · simp [mget]
      · simp only [mget]
        rw [if_neg (by omega)]
        exact ih

theorem mget_mput_other {k j : Nat} (h : j ≠ k) (b : Byte) (m : List Host.Cell) : mget (mput k b m) j = mget m j := by
  induction m with
  | nil => simp [mput, mget, Ne.symm h]
  | cons e t ih =>
    obtain ⟨i, u⟩ := e
    simp only [mput]
    split
    · simp [mget, Ne.symm h]
    · split
      · rename_i h2
        subst h2
        simp [mget, Ne.symm h]
      · simp only [mget, ih]

/-- A byte reads as it was last written. -/
@[simp] theorem mget_mset_same (k : Nat) (b : Byte) (m : List Host.Cell) : mget (mset k b m) k = b := by
  unfold mset
  split
  · simp [mget_filter_same, *]
  · exact mget_mput_same k b m

/-- Writing a byte leaves every other byte. -/
theorem mget_mset_other {k j : Nat} (h : j ≠ k) (b : Byte) (m : List Host.Cell) : mget (mset k b m) j = mget m j := by
  unfold mset
  split
  · exact mget_filter_other h m
  · exact mget_mput_other h b m

/-- Writing bytes from a key on leaves every byte outside them. -/
theorem mget_msetList_other (l : List Byte) (k j : Nat) (m : List Host.Cell) (h : j < k ∨ k + l.length ≤ j) :
    mget (msetList k l m) j = mget m j := by
  induction l generalizing k m with
  | nil => rfl
  | cons b t ih =>
    simp only [List.length_cons] at h
    simp only [msetList]
    rw [ih (k + 1) (mset k b m) (by omega), mget_mset_other (by omega)]

theorem memory_wfFrom_mono {lo lo' : Nat} (h : lo' ≤ lo) (m : List Host.Cell) (hm : Memory.wfFrom lo m = true) :
    Memory.wfFrom lo' m = true := by
  cases m with
  | nil => rfl
  | cons e t =>
    obtain ⟨k, b⟩ := e
    simp only [Memory.wfFrom, Bool.and_eq_true, decide_eq_true_eq] at hm ⊢
    exact ⟨⟨by omega, hm.1.2⟩, hm.2⟩

theorem memory_wfFrom_filter (p : Host.Cell → Bool) (m : List Host.Cell) (lo : Nat) (h : Memory.wfFrom lo m = true) :
    Memory.wfFrom lo (m.filter p) = true := by
  induction m generalizing lo with
  | nil => rfl
  | cons e t ih =>
    obtain ⟨k, b⟩ := e
    simp only [Memory.wfFrom, Bool.and_eq_true, decide_eq_true_eq] at h
    by_cases hp : p (k, b) = true
    · rw [List.filter_cons_of_pos hp]
      simp only [Memory.wfFrom, Bool.and_eq_true, decide_eq_true_eq]
      exact ⟨h.1, ih _ h.2⟩
    · rw [List.filter_cons_of_neg hp]
      exact memory_wfFrom_mono (by omega) _ (ih _ h.2)

theorem memory_wfFrom_mput (m : List Host.Cell) (k lo : Nat) (b : Byte) (hb : b ≠ 0) (hk : lo ≤ k) (h : Memory.wfFrom lo m = true) :
    Memory.wfFrom lo (mput k b m) = true := by
  induction m generalizing lo with
  | nil => simpa [mput, Memory.wfFrom, hk] using hb
  | cons e t ih =>
    obtain ⟨j, u⟩ := e
    simp only [Memory.wfFrom, Bool.and_eq_true, decide_eq_true_eq] at h
    simp only [mput]
    split
    · simp only [Memory.wfFrom, Bool.and_eq_true, decide_eq_true_eq]
      exact ⟨⟨hk, by simpa using hb⟩, ⟨by omega, h.1.2⟩, h.2⟩
    · split
      · rename_i h1
        subst h1
        simp only [Memory.wfFrom, Bool.and_eq_true, decide_eq_true_eq]
        exact ⟨⟨hk, by simpa using hb⟩, h.2⟩
      · simp only [Memory.wfFrom, Bool.and_eq_true, decide_eq_true_eq]
        exact ⟨h.1, ih _ (by omega) h.2⟩

/-- Setting a byte keeps the canonical form of a memory. -/
theorem memory_wf_mset (m : List Host.Cell) (k : Nat) (b : Byte) (h : Memory.wf m = true) : Memory.wf (mset k b m) = true := by
  unfold mset
  split
  · exact memory_wfFrom_filter _ m 0 h
  · exact memory_wfFrom_mput m k 0 b (by assumption) (Nat.zero_le _) h

/-- Setting bytes keeps the canonical form of a memory. -/
theorem memory_wf_msetList (l : List Byte) (k : Nat) (m : List Host.Cell) (h : Memory.wf m = true) :
    Memory.wf (msetList k l m) = true := by
  induction l generalizing k m with
  | nil => exact h
  | cons b t ih => exact ih (k + 1) _ (memory_wf_mset m k b h)

/-- Clearing a range keeps the canonical form of a memory. -/
theorem memory_wf_mclear (lo hi : Nat) (m : List Host.Cell) (h : Memory.wf m = true) : Memory.wf (mclear lo hi m) = true :=
  memory_wfFrom_filter _ m 0 h

/-- Writing program data keeps the canonical form of memory. -/
theorem memory_wf_setBytes (s : State) (l : Loc) (b : List Byte) (h : Memory.wf s.mem = true) : Memory.wf (s.setBytes l b).mem = true :=
  memory_wf_msetList b _ s.mem h

/-- Memory after reset has its canonical form. -/
theorem memory_wf_reset : Memory.wf State.reset.mem = true := rfl

/-- The words after reset have their canonical form. -/
theorem words_wf_reset : Words.wf State.reset.words = true := rfl

/-- Writing program data leaves every byte outside it. -/
theorem byte_setBytes_other (s : State) (l m : Loc) (b : List Byte)
    (h : cellKey s.bank m < cellKey s.bank l ∨ cellKey s.bank l + b.length ≤ cellKey s.bank m) :
    (s.setBytes l b).byte m = s.byte m :=
  mget_msetList_other b _ _ s.mem h

/-! ## Fields of words -/

/-- The number that a field leaves of a word. -/
theorem Fld.set_toNat (f : Fld) (h : Fld.ok f = true) (w : Word) (n : Nat) :
    (f.set w n).toNat = w.toNat - f.get w * 2 ^ f.lo + n % 2 ^ (f.hi - f.lo + 1) * 2 ^ f.lo := by
  obtain ⟨i, hi, lo⟩ := f
  simp only [Fld.ok, Bool.and_eq_true, decide_eq_true_eq] at h
  simp only [Fld.set, Fld.get, BitVec.toNat_ofNat]
  apply Nat.mod_eq_of_lt
  have hw := w.isLt
  set W := w.toNat
  have hp : 2 ^ lo * 2 ^ (hi - lo + 1) ∣ 2 ^ 32 := by
    rw [← pow_add]
    exact pow_dvd_pow 2 (by omega)
  obtain ⟨q, hq⟩ := hp
  have h1 : n % 2 ^ (hi - lo + 1) < 2 ^ (hi - lo + 1) := Nat.mod_lt _ (by positivity)
  have hd : W / 2 ^ lo / 2 ^ (hi - lo + 1) < q := by
    rw [Nat.div_div_eq_div_mul]
    exact Nat.div_lt_of_lt_mul (by omega)
  have e1 : W = 2 ^ lo * (W / 2 ^ lo) + W % 2 ^ lo := (Nat.div_add_mod _ _).symm
  have e2 := (Nat.div_add_mod (W / 2 ^ lo) (2 ^ (hi - lo + 1))).symm
  set A := W / 2 ^ lo
  set B := A / 2 ^ (hi - lo + 1)
  set C := A % 2 ^ (hi - lo + 1)
  set D := n % 2 ^ (hi - lo + 1)
  set P := 2 ^ (hi - lo + 1)
  have hr : W % 2 ^ lo < 2 ^ lo := Nat.mod_lt _ (by positivity)
  set R := W % 2 ^ lo
  set L := 2 ^ lo
  have e3 : W - C * L = L * P * B + R := by
    rw [e1, e2]
    have : L * (P * B + C) + R = L * P * B + R + C * L := by ring
    omega
  rw [e3]
  have h2 : R + D * L < L * P := by
    have : (D + 1) * L ≤ P * L := Nat.mul_le_mul_right _ h1
    nlinarith
  have h3 : L * P * (B + 1) ≤ L * P * q := Nat.mul_le_mul_left _ hd
  rw [hq]
  nlinarith

/-- A field reads as it was last set. -/
theorem Fld.get_set (f : Fld) (h : Fld.ok f = true) (w : Word) (n : Nat) : f.get (f.set w n) = n % 2 ^ (f.hi - f.lo + 1) := by
  unfold Fld.get
  rw [Fld.set_toNat f h]
  unfold Fld.get
  set W := w.toNat
  set L := 2 ^ f.lo
  set P := 2 ^ (f.hi - f.lo + 1)
  have hL : 0 < L := by positivity
  have hP : 0 < P := by positivity
  have e1 : W = L * (W / L) + W % L := (Nat.div_add_mod _ _).symm
  have e2 := (Nat.div_add_mod (W / L) P).symm
  have hr : W % L < L := Nat.mod_lt _ hL
  set A := W / L
  set B := A / P
  set C := A % P
  set R := W % L
  have e3 : W - C * L = L * (P * B) + R := by
    rw [e1, e2]
    have : L * (P * B + C) + R = L * (P * B) + R + C * L := by ring
    omega
  rw [e3]
  have e4 : L * (P * B) + R + n % P * L = R + L * (P * B + n % P) := by ring
  rw [e4, Nat.add_mul_div_left _ _ hL, Nat.div_eq_of_lt hr, Nat.zero_add, Nat.mul_add_mod, Nat.mod_mod]

/-- Setting a field leaves every field that shares no bit with it. -/
theorem Fld.get_set_apart (f g : Fld) (h : Fld.ok f = true) (w : Word) (n : Nat) (hg : g.hi < f.lo ∨ f.hi < g.lo) (hk : g.lo ≤ g.hi) :
    g.get (f.set w n) = g.get w := by
  have hs := Fld.set_toNat f h w n
  simp only [Fld.ok, Bool.and_eq_true, decide_eq_true_eq] at h
  have e1 : w.toNat = 2 ^ f.lo * (w.toNat / 2 ^ f.lo) + w.toNat % 2 ^ f.lo := (Nat.div_add_mod _ _).symm
  have e2 := (Nat.div_add_mod (w.toNat / 2 ^ f.lo) (2 ^ (f.hi - f.lo + 1))).symm
  have hL : 0 < 2 ^ f.lo := by positivity
  have hr : w.toNat % 2 ^ f.lo < 2 ^ f.lo := Nat.mod_lt _ hL
  have h1 : n % 2 ^ (f.hi - f.lo + 1) < 2 ^ (f.hi - f.lo + 1) := Nat.mod_lt _ (by positivity)
  have e3 : (f.set w n).toNat = w.toNat % 2 ^ f.lo + 2 ^ f.lo *
      (2 ^ (f.hi - f.lo + 1) * (w.toNat / 2 ^ f.lo / 2 ^ (f.hi - f.lo + 1)) + n % 2 ^ (f.hi - f.lo + 1)) := by
    rw [hs, Fld.get]
    generalize w.toNat = W at *
    generalize hB : W / 2 ^ f.lo / 2 ^ (f.hi - f.lo + 1) = B at *
    generalize hC : W / 2 ^ f.lo % 2 ^ (f.hi - f.lo + 1) = C at *
    generalize n % 2 ^ (f.hi - f.lo + 1) = D at *
    generalize hA : W / 2 ^ f.lo = A at *
    generalize W % 2 ^ f.lo = R at *
    generalize 2 ^ (f.hi - f.lo + 1) = P at *
    generalize 2 ^ f.lo = L at *
    subst e2
    have : W = L * (P * B) + R + C * L := by rw [e1]; ring
    have e5 : R + L * (P * B + D) = L * (P * B) + R + D * L := by ring
    omega
  rcases hg with hg | hg
  · have hm : (f.set w n).toNat % 2 ^ f.lo = w.toNat % 2 ^ f.lo := by
      rw [e3, Nat.add_mul_mod_self_left, Nat.mod_mod]
    have key : ∀ x : Nat, x / 2 ^ g.lo % 2 ^ (g.hi - g.lo + 1) = x % 2 ^ f.lo / 2 ^ g.lo % 2 ^ (g.hi - g.lo + 1) := by
      intro x
      obtain ⟨d, hd⟩ : ∃ d, f.lo = g.lo + (g.hi - g.lo + 1) + d := ⟨f.lo - g.hi - 1, by omega⟩
      generalize g.hi - g.lo + 1 = k at hd ⊢
      rw [hd, pow_add, pow_add, mul_assoc, Nat.mod_mul_right_div_self, Nat.mod_mul_right_mod]
    unfold Fld.get
    rw [key (f.set w n).toNat, key w.toNat, hm]
  · have hd : (f.set w n).toNat / 2 ^ (f.hi + 1) = w.toNat / 2 ^ (f.hi + 1) := by
      have hp : (2 : Nat) ^ (f.hi + 1) = 2 ^ f.lo * 2 ^ (f.hi - f.lo + 1) := by rw [← pow_add]; congr 1; omega
      rw [hp, ← Nat.div_div_eq_div_mul, ← Nat.div_div_eq_div_mul, e3, Nat.add_mul_div_left _ _ hL, Nat.div_eq_of_lt hr, Nat.zero_add,
        Nat.mul_add_div (by positivity), Nat.div_eq_of_lt h1, Nat.add_zero]
    have key : ∀ x : Nat, x / 2 ^ g.lo = x / 2 ^ (f.hi + 1) / 2 ^ (g.lo - (f.hi + 1)) := by
      intro x
      rw [Nat.div_div_eq_div_mul, ← pow_add]
      congr 2
      omega
    unfold Fld.get
    rw [key (f.set w n).toNat, key w.toNat, hd]

/-- A field of a state reads as it was last set. -/
theorem rd_wr_same (s : State) (f : Fld) (h : Fld.ok f = true) (n : Nat) : (s.wr f n).rd f = n % 2 ^ (f.hi - f.lo + 1) := by
  simp only [State.wr, State.rd, word_setWord_same, Fld.get_set f h]

/-- Setting a field leaves every other word. -/
theorem word_wr_other (s : State) (f : Fld) (n : Nat) {k : Nat} (h : k ≠ f.idx) : (s.wr f n).word k = s.word k :=
  word_setWord_other s h _

/-- Setting a field leaves every field of another word. -/
theorem rd_wr_other (s : State) (f g : Fld) (n : Nat) (h : g.idx ≠ f.idx) : (s.wr f n).rd g = s.rd g := by
  simp only [State.rd, word_wr_other s f n h]

/-- Setting a field leaves every field that shares no bit with it, of any word. -/
theorem rd_wr_apart (s : State) (f g : Fld) (n : Nat) (hf : Fld.ok f = true) (hg : Fld.ok g = true) (h : g.Apart f) :
    (s.wr f n).rd g = s.rd g := by
  by_cases e : g.idx = f.idx
  · simp only [Fld.ok, Bool.and_eq_true, decide_eq_true_eq] at hg
    have ha : g.hi < f.lo ∨ f.hi < g.lo := by
      rcases h with h | h
      · exact absurd e h
      · exact h
    simp only [State.wr, State.rd, e, word_setWord_same]
    exact Fld.get_set_apart f g hf (s.word f.idx) n ha hg.1
  · exact rd_wr_other s f g n e

/-- Nothing written, nothing changed. -/
theorem fields_refl (s : State) : s.Fields s [] := ⟨by simp, fun _ _ _ => rfl⟩
/-- Sharing no bit goes both ways. -/
theorem Fld.apart_symm {f g : Fld} (h : f.Apart g) : g.Apart f := by
  unfold Fld.Apart at *; rcases h with h | h | h
  · exact .inl (Ne.symm h)
  · exact .inr (.inr h)
  · exact .inr (.inl h)

/-- Setting a field adds it to the fields written. -/
theorem fields_wr {t s : State} {l : List (Fld × Nat)} (h : t.Fields s l) (f : Fld) (n : Nat) (hf : f.ok = true)
    (hn : n < 2 ^ (f.hi - f.lo + 1)) (hl : ∀ p ∈ l, p.1.ok = true ∧ p.1.Apart f) : (t.wr f n).Fields s (l ++ [(f, n)]) := by
  refine ⟨fun p hp => ?_, fun g hg ha => ?_⟩
  · rcases List.mem_append.1 hp with hp | hp
    · rw [rd_wr_apart t f p.1 n hf (hl p hp).1 (hl p hp).2]; exact h.1 p hp
    · simp at hp; subst hp; simp only; rw [rd_wr_same t f hf, Nat.mod_eq_of_lt hn]
  · rw [rd_wr_apart t f g n hf hg (ha (f, n) (by simp))]
    exact h.2 g hg fun p hp => ha p (by simp [hp])

end Sys2Proof.Laws
end

