-- ==== Sys2Proof/Laws/State.lean ====
section
/-! SUPPORT. What each named update of the state leaves, field by field. -/

namespace Sys2Proof.Laws

open Sys2Proof.Machine

@[simp] theorem setWord_pending (s : State) (i : Nat) (v : Word) : (s.setWord i v).pending = s.pending := rfl
@[simp] theorem setWord_ns (s : State) (i : Nat) (v : Word) : (s.setWord i v).ns = s.ns := rfl
@[simp] theorem setWord_mem (s : State) (i : Nat) (v : Word) : (s.setWord i v).mem = s.mem := rfl
@[simp] theorem setWord_freeCtr (s : State) (i : Nat) (v : Word) : (s.setWord i v).freeCtr = s.freeCtr := rfl
@[simp] theorem setWord_openState (s : State) (i : Nat) (v : Word) : (s.setWord i v).openState = s.openState := rfl
@[simp] theorem setWord_raised (s : State) (i : Nat) (v : Word) : (s.setWord i v).raised = s.raised := rfl
@[simp] theorem setWord_tx (s : State) (i : Nat) (v : Word) : (s.setWord i v).tx = s.tx := rfl
@[simp] theorem setWord_prog (s : State) (i : Nat) (v : Word) : (s.setWord i v).prog = s.prog := rfl
@[simp] theorem setWord_pw (s : State) (i : Nat) (v : Word) : (s.setWord i v).pw = s.pw := rfl
@[simp] theorem setWord_mram (s : State) (i : Nat) (v : Word) : (s.setWord i v).mram = s.mram := rfl
@[simp] theorem setWord_sch (s : State) (i : Nat) (v : Word) : (s.setWord i v).sch = s.sch := rfl
@[simp] theorem setWord_lp (s : State) (i : Nat) (v : Word) : (s.setWord i v).lp = s.lp := rfl
@[simp] theorem setWord_prot (s : State) (i : Nat) (v : Word) : (s.setWord i v).prot = s.prot := rfl
@[simp] theorem setWord_fc (s : State) (i : Nat) (v : Word) : (s.setWord i v).fc = s.fc := rfl
@[simp] theorem setWord_recd (s : State) (i : Nat) (v : Word) : (s.setWord i v).recd = s.recd := rfl
@[simp] theorem setWord_pair (s : State) (i : Nat) (v : Word) : (s.setWord i v).pair = s.pair := rfl
@[simp] theorem setWord_ring (s : State) (i : Nat) (v : Word) : (s.setWord i v).ring = s.ring := rfl
@[simp] theorem setWord_plant (s : State) (i : Nat) (v : Word) : (s.setWord i v).plant = s.plant := rfl
@[simp] theorem setWord_ptp (s : State) (i : Nat) (v : Word) : (s.setWord i v).ptp = s.ptp := rfl
@[simp] theorem setWord_sr (s : State) (i : Nat) (v : Word) : (s.setWord i v).sr = s.sr := rfl
@[simp] theorem setWord_le (s : State) (i : Nat) (v : Word) : (s.setWord i v).le = s.le := rfl
@[simp] theorem setWord_mrt (s : State) (i : Nat) (v : Word) : (s.setWord i v).mrt = s.mrt := rfl
@[simp] theorem setWord_lio (s : State) (i : Nat) (v : Word) : (s.setWord i v).lio = s.lio := rfl
@[simp] theorem setWord_oc (s : State) (i : Nat) (v : Word) : (s.setWord i v).oc = s.oc := rfl
@[simp] theorem setWord_can (s : State) (i : Nat) (v : Word) : (s.setWord i v).can = s.can := rfl
@[simp] theorem setWord_vn (s : State) (i : Nat) (v : Word) : (s.setWord i v).vn = s.vn := rfl
@[simp] theorem setWord_upd (s : State) (i : Nat) (v : Word) : (s.setWord i v).upd = s.upd := rfl

@[simp] theorem wr_pending (s : State) (f : Fld) (n : Nat) : (s.wr f n).pending = s.pending := rfl
@[simp] theorem wr_ns (s : State) (f : Fld) (n : Nat) : (s.wr f n).ns = s.ns := rfl
@[simp] theorem wr_mem (s : State) (f : Fld) (n : Nat) : (s.wr f n).mem = s.mem := rfl
@[simp] theorem wr_freeCtr (s : State) (f : Fld) (n : Nat) : (s.wr f n).freeCtr = s.freeCtr := rfl
@[simp] theorem wr_openState (s : State) (f : Fld) (n : Nat) : (s.wr f n).openState = s.openState := rfl
@[simp] theorem wr_raised (s : State) (f : Fld) (n : Nat) : (s.wr f n).raised = s.raised := rfl
@[simp] theorem wr_tx (s : State) (f : Fld) (n : Nat) : (s.wr f n).tx = s.tx := rfl
@[simp] theorem wr_prog (s : State) (f : Fld) (n : Nat) : (s.wr f n).prog = s.prog := rfl
@[simp] theorem wr_pw (s : State) (f : Fld) (n : Nat) : (s.wr f n).pw = s.pw := rfl
@[simp] theorem wr_mram (s : State) (f : Fld) (n : Nat) : (s.wr f n).mram = s.mram := rfl
@[simp] theorem wr_sch (s : State) (f : Fld) (n : Nat) : (s.wr f n).sch = s.sch := rfl
@[simp] theorem wr_lp (s : State) (f : Fld) (n : Nat) : (s.wr f n).lp = s.lp := rfl
@[simp] theorem wr_prot (s : State) (f : Fld) (n : Nat) : (s.wr f n).prot = s.prot := rfl
@[simp] theorem wr_fc (s : State) (f : Fld) (n : Nat) : (s.wr f n).fc = s.fc := rfl
@[simp] theorem wr_recd (s : State) (f : Fld) (n : Nat) : (s.wr f n).recd = s.recd := rfl
@[simp] theorem wr_pair (s : State) (f : Fld) (n : Nat) : (s.wr f n).pair = s.pair := rfl
@[simp] theorem wr_ring (s : State) (f : Fld) (n : Nat) : (s.wr f n).ring = s.ring := rfl
@[simp] theorem wr_plant (s : State) (f : Fld) (n : Nat) : (s.wr f n).plant = s.plant := rfl
@[simp] theorem wr_ptp (s : State) (f : Fld) (n : Nat) : (s.wr f n).ptp = s.ptp := rfl
@[simp] theorem wr_sr (s : State) (f : Fld) (n : Nat) : (s.wr f n).sr = s.sr := rfl
@[simp] theorem wr_le (s : State) (f : Fld) (n : Nat) : (s.wr f n).le = s.le := rfl
@[simp] theorem wr_mrt (s : State) (f : Fld) (n : Nat) : (s.wr f n).mrt = s.mrt := rfl
@[simp] theorem wr_lio (s : State) (f : Fld) (n : Nat) : (s.wr f n).lio = s.lio := rfl
@[simp] theorem wr_oc (s : State) (f : Fld) (n : Nat) : (s.wr f n).oc = s.oc := rfl
@[simp] theorem wr_can (s : State) (f : Fld) (n : Nat) : (s.wr f n).can = s.can := rfl
@[simp] theorem wr_vn (s : State) (f : Fld) (n : Nat) : (s.wr f n).vn = s.vn := rfl
@[simp] theorem wr_upd (s : State) (f : Fld) (n : Nat) : (s.wr f n).upd = s.upd := rfl

@[simp] theorem flag_pending (s : State) (f : Fld) (b : Bool) : (s.flag f b).pending = s.pending := rfl
@[simp] theorem flag_ns (s : State) (f : Fld) (b : Bool) : (s.flag f b).ns = s.ns := rfl
@[simp] theorem flag_mem (s : State) (f : Fld) (b : Bool) : (s.flag f b).mem = s.mem := rfl
@[simp] theorem flag_freeCtr (s : State) (f : Fld) (b : Bool) : (s.flag f b).freeCtr = s.freeCtr := rfl
@[simp] theorem flag_openState (s : State) (f : Fld) (b : Bool) : (s.flag f b).openState = s.openState := rfl
@[simp] theorem flag_raised (s : State) (f : Fld) (b : Bool) : (s.flag f b).raised = s.raised := rfl
@[simp] theorem flag_tx (s : State) (f : Fld) (b : Bool) : (s.flag f b).tx = s.tx := rfl
@[simp] theorem flag_prog (s : State) (f : Fld) (b : Bool) : (s.flag f b).prog = s.prog := rfl
@[simp] theorem flag_pw (s : State) (f : Fld) (b : Bool) : (s.flag f b).pw = s.pw := rfl
@[simp] theorem flag_mram (s : State) (f : Fld) (b : Bool) : (s.flag f b).mram = s.mram := rfl
@[simp] theorem flag_sch (s : State) (f : Fld) (b : Bool) : (s.flag f b).sch = s.sch := rfl
@[simp] theorem flag_lp (s : State) (f : Fld) (b : Bool) : (s.flag f b).lp = s.lp := rfl
@[simp] theorem flag_prot (s : State) (f : Fld) (b : Bool) : (s.flag f b).prot = s.prot := rfl
@[simp] theorem flag_fc (s : State) (f : Fld) (b : Bool) : (s.flag f b).fc = s.fc := rfl
@[simp] theorem flag_recd (s : State) (f : Fld) (b : Bool) : (s.flag f b).recd = s.recd := rfl
@[simp] theorem flag_pair (s : State) (f : Fld) (b : Bool) : (s.flag f b).pair = s.pair := rfl
@[simp] theorem flag_ring (s : State) (f : Fld) (b : Bool) : (s.flag f b).ring = s.ring := rfl
@[simp] theorem flag_plant (s : State) (f : Fld) (b : Bool) : (s.flag f b).plant = s.plant := rfl
@[simp] theorem flag_ptp (s : State) (f : Fld) (b : Bool) : (s.flag f b).ptp = s.ptp := rfl
@[simp] theorem flag_sr (s : State) (f : Fld) (b : Bool) : (s.flag f b).sr = s.sr := rfl
@[simp] theorem flag_le (s : State) (f : Fld) (b : Bool) : (s.flag f b).le = s.le := rfl
@[simp] theorem flag_mrt (s : State) (f : Fld) (b : Bool) : (s.flag f b).mrt = s.mrt := rfl
@[simp] theorem flag_lio (s : State) (f : Fld) (b : Bool) : (s.flag f b).lio = s.lio := rfl
@[simp] theorem flag_oc (s : State) (f : Fld) (b : Bool) : (s.flag f b).oc = s.oc := rfl
@[simp] theorem flag_can (s : State) (f : Fld) (b : Bool) : (s.flag f b).can = s.can := rfl
@[simp] theorem flag_vn (s : State) (f : Fld) (b : Bool) : (s.flag f b).vn = s.vn := rfl
@[simp] theorem flag_upd (s : State) (f : Fld) (b : Bool) : (s.flag f b).upd = s.upd := rfl

@[simp] theorem emit_pending (s : State) (l : Link) (k : TxKind) (d : List Nat) : (s.emit l k d).pending = s.pending := rfl
@[simp] theorem emit_ns (s : State) (l : Link) (k : TxKind) (d : List Nat) : (s.emit l k d).ns = s.ns := rfl
@[simp] theorem emit_words (s : State) (l : Link) (k : TxKind) (d : List Nat) : (s.emit l k d).words = s.words := rfl
@[simp] theorem emit_mem (s : State) (l : Link) (k : TxKind) (d : List Nat) : (s.emit l k d).mem = s.mem := rfl
@[simp] theorem emit_freeCtr (s : State) (l : Link) (k : TxKind) (d : List Nat) : (s.emit l k d).freeCtr = s.freeCtr := rfl
@[simp] theorem emit_openState (s : State) (l : Link) (k : TxKind) (d : List Nat) : (s.emit l k d).openState = s.openState := rfl
@[simp] theorem emit_raised (s : State) (l : Link) (k : TxKind) (d : List Nat) : (s.emit l k d).raised = s.raised := rfl
@[simp] theorem emit_tx (s : State) (l : Link) (k : TxKind) (d : List Nat) : (s.emit l k d).tx = s.tx ++ [⟨l, k, d⟩] := rfl
@[simp] theorem emit_prog (s : State) (l : Link) (k : TxKind) (d : List Nat) : (s.emit l k d).prog = s.prog := rfl
@[simp] theorem emit_pw (s : State) (l : Link) (k : TxKind) (d : List Nat) : (s.emit l k d).pw = s.pw := rfl
@[simp] theorem emit_mram (s : State) (l : Link) (k : TxKind) (d : List Nat) : (s.emit l k d).mram = s.mram := rfl
@[simp] theorem emit_sch (s : State) (l : Link) (k : TxKind) (d : List Nat) : (s.emit l k d).sch = s.sch := rfl
@[simp] theorem emit_lp (s : State) (l : Link) (k : TxKind) (d : List Nat) : (s.emit l k d).lp = s.lp := rfl
@[simp] theorem emit_prot (s : State) (l : Link) (k : TxKind) (d : List Nat) : (s.emit l k d).prot = s.prot := rfl
@[simp] theorem emit_fc (s : State) (l : Link) (k : TxKind) (d : List Nat) : (s.emit l k d).fc = s.fc := rfl
@[simp] theorem emit_recd (s : State) (l : Link) (k : TxKind) (d : List Nat) : (s.emit l k d).recd = s.recd := rfl
@[simp] theorem emit_pair (s : State) (l : Link) (k : TxKind) (d : List Nat) : (s.emit l k d).pair = s.pair := rfl
@[simp] theorem emit_ring (s : State) (l : Link) (k : TxKind) (d : List Nat) : (s.emit l k d).ring = s.ring := rfl
@[simp] theorem emit_plant (s : State) (l : Link) (k : TxKind) (d : List Nat) : (s.emit l k d).plant = s.plant := rfl
@[simp] theorem emit_ptp (s : State) (l : Link) (k : TxKind) (d : List Nat) : (s.emit l k d).ptp = s.ptp := rfl
@[simp] theorem emit_sr (s : State) (l : Link) (k : TxKind) (d : List Nat) : (s.emit l k d).sr = s.sr := rfl
@[simp] theorem emit_le (s : State) (l : Link) (k : TxKind) (d : List Nat) : (s.emit l k d).le = s.le := rfl
@[simp] theorem emit_mrt (s : State) (l : Link) (k : TxKind) (d : List Nat) : (s.emit l k d).mrt = s.mrt := rfl
@[simp] theorem emit_lio (s : State) (l : Link) (k : TxKind) (d : List Nat) : (s.emit l k d).lio = s.lio := rfl
@[simp] theorem emit_oc (s : State) (l : Link) (k : TxKind) (d : List Nat) : (s.emit l k d).oc = s.oc := rfl
@[simp] theorem emit_can (s : State) (l : Link) (k : TxKind) (d : List Nat) : (s.emit l k d).can = s.can := rfl
@[simp] theorem emit_vn (s : State) (l : Link) (k : TxKind) (d : List Nat) : (s.emit l k d).vn = s.vn := rfl
@[simp] theorem emit_upd (s : State) (l : Link) (k : TxKind) (d : List Nat) : (s.emit l k d).upd = s.upd := rfl

@[simp] theorem raise_pending (s : State) (a b c d : Nat) : (s.raise a b c d).pending = s.pending := rfl
@[simp] theorem raise_ns (s : State) (a b c d : Nat) : (s.raise a b c d).ns = s.ns := rfl
@[simp] theorem raise_words (s : State) (a b c d : Nat) : (s.raise a b c d).words = s.words := rfl
@[simp] theorem raise_mem (s : State) (a b c d : Nat) : (s.raise a b c d).mem = s.mem := rfl
@[simp] theorem raise_freeCtr (s : State) (a b c d : Nat) : (s.raise a b c d).freeCtr = s.freeCtr := rfl
@[simp] theorem raise_openState (s : State) (a b c d : Nat) : (s.raise a b c d).openState = s.openState := rfl
@[simp] theorem raise_tx (s : State) (a b c d : Nat) : (s.raise a b c d).tx = s.tx := rfl
@[simp] theorem raise_prog (s : State) (a b c d : Nat) : (s.raise a b c d).prog = s.prog := rfl
@[simp] theorem raise_pw (s : State) (a b c d : Nat) : (s.raise a b c d).pw = s.pw := rfl
@[simp] theorem raise_mram (s : State) (a b c d : Nat) : (s.raise a b c d).mram = s.mram := rfl
@[simp] theorem raise_sch (s : State) (a b c d : Nat) : (s.raise a b c d).sch = s.sch := rfl
@[simp] theorem raise_lp (s : State) (a b c d : Nat) : (s.raise a b c d).lp = s.lp := rfl
@[simp] theorem raise_prot (s : State) (a b c d : Nat) : (s.raise a b c d).prot = s.prot := rfl
@[simp] theorem raise_fc (s : State) (a b c d : Nat) : (s.raise a b c d).fc = s.fc := rfl
@[simp] theorem raise_recd (s : State) (a b c d : Nat) : (s.raise a b c d).recd = s.recd := rfl
@[simp] theorem raise_pair (s : State) (a b c d : Nat) : (s.raise a b c d).pair = s.pair := rfl
@[simp] theorem raise_ring (s : State) (a b c d : Nat) : (s.raise a b c d).ring = s.ring := rfl
@[simp] theorem raise_plant (s : State) (a b c d : Nat) : (s.raise a b c d).plant = s.plant := rfl
@[simp] theorem raise_ptp (s : State) (a b c d : Nat) : (s.raise a b c d).ptp = s.ptp := rfl
@[simp] theorem raise_sr (s : State) (a b c d : Nat) : (s.raise a b c d).sr = s.sr := rfl
@[simp] theorem raise_le (s : State) (a b c d : Nat) : (s.raise a b c d).le = s.le := rfl
@[simp] theorem raise_mrt (s : State) (a b c d : Nat) : (s.raise a b c d).mrt = s.mrt := rfl
@[simp] theorem raise_lio (s : State) (a b c d : Nat) : (s.raise a b c d).lio = s.lio := rfl
@[simp] theorem raise_oc (s : State) (a b c d : Nat) : (s.raise a b c d).oc = s.oc := rfl
@[simp] theorem raise_can (s : State) (a b c d : Nat) : (s.raise a b c d).can = s.can := rfl
@[simp] theorem raise_vn (s : State) (a b c d : Nat) : (s.raise a b c d).vn = s.vn := rfl
@[simp] theorem raise_upd (s : State) (a b c d : Nat) : (s.raise a b c d).upd = s.upd := rfl

@[simp] theorem drawn_pending (s : State) : (s.drawn).pending = s.pending := rfl
@[simp] theorem drawn_ns (s : State) : (s.drawn).ns = s.ns := rfl
@[simp] theorem drawn_words (s : State) : (s.drawn).words = s.words := rfl
@[simp] theorem drawn_mem (s : State) : (s.drawn).mem = s.mem := rfl
@[simp] theorem drawn_freeCtr (s : State) : (s.drawn).freeCtr = s.freeCtr + 1 := rfl
@[simp] theorem drawn_openState (s : State) : (s.drawn).openState = s.openState := rfl
@[simp] theorem drawn_raised (s : State) : (s.drawn).raised = s.raised := rfl
@[simp] theorem drawn_tx (s : State) : (s.drawn).tx = s.tx := rfl
@[simp] theorem drawn_prog (s : State) : (s.drawn).prog = s.prog := rfl
@[simp] theorem drawn_pw (s : State) : (s.drawn).pw = s.pw := rfl
@[simp] theorem drawn_mram (s : State) : (s.drawn).mram = s.mram := rfl
@[simp] theorem drawn_sch (s : State) : (s.drawn).sch = s.sch := rfl
@[simp] theorem drawn_lp (s : State) : (s.drawn).lp = s.lp := rfl
@[simp] theorem drawn_prot (s : State) : (s.drawn).prot = s.prot := rfl
@[simp] theorem drawn_fc (s : State) : (s.drawn).fc = s.fc := rfl
@[simp] theorem drawn_recd (s : State) : (s.drawn).recd = s.recd := rfl
@[simp] theorem drawn_pair (s : State) : (s.drawn).pair = s.pair := rfl
@[simp] theorem drawn_ring (s : State) : (s.drawn).ring = s.ring := rfl
@[simp] theorem drawn_plant (s : State) : (s.drawn).plant = s.plant := rfl
@[simp] theorem drawn_ptp (s : State) : (s.drawn).ptp = s.ptp := rfl
@[simp] theorem drawn_sr (s : State) : (s.drawn).sr = s.sr := rfl
@[simp] theorem drawn_le (s : State) : (s.drawn).le = s.le := rfl
@[simp] theorem drawn_mrt (s : State) : (s.drawn).mrt = s.mrt := rfl
@[simp] theorem drawn_lio (s : State) : (s.drawn).lio = s.lio := rfl
@[simp] theorem drawn_oc (s : State) : (s.drawn).oc = s.oc := rfl
@[simp] theorem drawn_can (s : State) : (s.drawn).can = s.can := rfl
@[simp] theorem drawn_vn (s : State) : (s.drawn).vn = s.vn := rfl
@[simp] theorem drawn_upd (s : State) : (s.drawn).upd = s.upd := rfl

@[simp] theorem setBytes_pending (s : State) (l : Loc) (b : List Byte) : (s.setBytes l b).pending = s.pending := rfl
@[simp] theorem setBytes_ns (s : State) (l : Loc) (b : List Byte) : (s.setBytes l b).ns = s.ns := rfl
@[simp] theorem setBytes_words (s : State) (l : Loc) (b : List Byte) : (s.setBytes l b).words = s.words := rfl
@[simp] theorem setBytes_mem (s : State) (l : Loc) (b : List Byte) : (s.setBytes l b).mem = msetList (cellKey s.bank l) b s.mem := rfl
@[simp] theorem setBytes_freeCtr (s : State) (l : Loc) (b : List Byte) : (s.setBytes l b).freeCtr = s.freeCtr := rfl
@[simp] theorem setBytes_openState (s : State) (l : Loc) (b : List Byte) : (s.setBytes l b).openState = s.openState := rfl
@[simp] theorem setBytes_raised (s : State) (l : Loc) (b : List Byte) : (s.setBytes l b).raised = s.raised := rfl
@[simp] theorem setBytes_tx (s : State) (l : Loc) (b : List Byte) : (s.setBytes l b).tx = s.tx := rfl
@[simp] theorem setBytes_prog (s : State) (l : Loc) (b : List Byte) : (s.setBytes l b).prog = s.prog := rfl
@[simp] theorem setBytes_pw (s : State) (l : Loc) (b : List Byte) : (s.setBytes l b).pw = s.pw := rfl
@[simp] theorem setBytes_mram (s : State) (l : Loc) (b : List Byte) : (s.setBytes l b).mram = s.mram := rfl
@[simp] theorem setBytes_sch (s : State) (l : Loc) (b : List Byte) : (s.setBytes l b).sch = s.sch := rfl
@[simp] theorem setBytes_lp (s : State) (l : Loc) (b : List Byte) : (s.setBytes l b).lp = s.lp := rfl
@[simp] theorem setBytes_prot (s : State) (l : Loc) (b : List Byte) : (s.setBytes l b).prot = s.prot := rfl
@[simp] theorem setBytes_fc (s : State) (l : Loc) (b : List Byte) : (s.setBytes l b).fc = s.fc := rfl
@[simp] theorem setBytes_recd (s : State) (l : Loc) (b : List Byte) : (s.setBytes l b).recd = s.recd := rfl
@[simp] theorem setBytes_ring (s : State) (l : Loc) (b : List Byte) : (s.setBytes l b).ring = s.ring := rfl
@[simp] theorem setBytes_plant (s : State) (l : Loc) (b : List Byte) : (s.setBytes l b).plant = s.plant := rfl
@[simp] theorem setBytes_ptp (s : State) (l : Loc) (b : List Byte) : (s.setBytes l b).ptp = s.ptp := rfl
@[simp] theorem setBytes_sr (s : State) (l : Loc) (b : List Byte) : (s.setBytes l b).sr = s.sr := rfl
@[simp] theorem setBytes_le (s : State) (l : Loc) (b : List Byte) : (s.setBytes l b).le = s.le := rfl
@[simp] theorem setBytes_mrt (s : State) (l : Loc) (b : List Byte) : (s.setBytes l b).mrt = s.mrt := rfl
@[simp] theorem setBytes_lio (s : State) (l : Loc) (b : List Byte) : (s.setBytes l b).lio = s.lio := rfl
@[simp] theorem setBytes_oc (s : State) (l : Loc) (b : List Byte) : (s.setBytes l b).oc = s.oc := rfl
@[simp] theorem setBytes_can (s : State) (l : Loc) (b : List Byte) : (s.setBytes l b).can = s.can := rfl
@[simp] theorem setBytes_vn (s : State) (l : Loc) (b : List Byte) : (s.setBytes l b).vn = s.vn := rfl
@[simp] theorem setBytes_upd (s : State) (l : Loc) (b : List Byte) : (s.setBytes l b).upd = s.upd := rfl

@[simp] theorem setRt_pending (s : State) (t : Nat) (r : TaskRt) : (s.setRt t r).pending = s.pending := rfl
@[simp] theorem setRt_ns (s : State) (t : Nat) (r : TaskRt) : (s.setRt t r).ns = s.ns := rfl
@[simp] theorem setRt_words (s : State) (t : Nat) (r : TaskRt) : (s.setRt t r).words = s.words := rfl
@[simp] theorem setRt_mem (s : State) (t : Nat) (r : TaskRt) : (s.setRt t r).mem = s.mem := rfl
@[simp] theorem setRt_freeCtr (s : State) (t : Nat) (r : TaskRt) : (s.setRt t r).freeCtr = s.freeCtr := rfl
@[simp] theorem setRt_openState (s : State) (t : Nat) (r : TaskRt) : (s.setRt t r).openState = s.openState := rfl
@[simp] theorem setRt_raised (s : State) (t : Nat) (r : TaskRt) : (s.setRt t r).raised = s.raised := rfl
@[simp] theorem setRt_tx (s : State) (t : Nat) (r : TaskRt) : (s.setRt t r).tx = s.tx := rfl
@[simp] theorem setRt_prog (s : State) (t : Nat) (r : TaskRt) : (s.setRt t r).prog = s.prog := rfl
@[simp] theorem setRt_pw (s : State) (t : Nat) (r : TaskRt) : (s.setRt t r).pw = s.pw := rfl
@[simp] theorem setRt_mram (s : State) (t : Nat) (r : TaskRt) : (s.setRt t r).mram = s.mram := rfl
@[simp] theorem setRt_lp (s : State) (t : Nat) (r : TaskRt) : (s.setRt t r).lp = s.lp := rfl
@[simp] theorem setRt_prot (s : State) (t : Nat) (r : TaskRt) : (s.setRt t r).prot = s.prot := rfl
@[simp] theorem setRt_fc (s : State) (t : Nat) (r : TaskRt) : (s.setRt t r).fc = s.fc := rfl
@[simp] theorem setRt_recd (s : State) (t : Nat) (r : TaskRt) : (s.setRt t r).recd = s.recd := rfl
@[simp] theorem setRt_pair (s : State) (t : Nat) (r : TaskRt) : (s.setRt t r).pair = s.pair := rfl
@[simp] theorem setRt_ring (s : State) (t : Nat) (r : TaskRt) : (s.setRt t r).ring = s.ring := rfl
@[simp] theorem setRt_plant (s : State) (t : Nat) (r : TaskRt) : (s.setRt t r).plant = s.plant := rfl
@[simp] theorem setRt_ptp (s : State) (t : Nat) (r : TaskRt) : (s.setRt t r).ptp = s.ptp := rfl
@[simp] theorem setRt_sr (s : State) (t : Nat) (r : TaskRt) : (s.setRt t r).sr = s.sr := rfl
@[simp] theorem setRt_le (s : State) (t : Nat) (r : TaskRt) : (s.setRt t r).le = s.le := rfl
@[simp] theorem setRt_mrt (s : State) (t : Nat) (r : TaskRt) : (s.setRt t r).mrt = s.mrt := rfl
@[simp] theorem setRt_lio (s : State) (t : Nat) (r : TaskRt) : (s.setRt t r).lio = s.lio := rfl
@[simp] theorem setRt_oc (s : State) (t : Nat) (r : TaskRt) : (s.setRt t r).oc = s.oc := rfl
@[simp] theorem setRt_can (s : State) (t : Nat) (r : TaskRt) : (s.setRt t r).can = s.can := rfl
@[simp] theorem setRt_vn (s : State) (t : Nat) (r : TaskRt) : (s.setRt t r).vn = s.vn := rfl
@[simp] theorem setRt_upd (s : State) (t : Nat) (r : TaskRt) : (s.setRt t r).upd = s.upd := rfl

@[simp] theorem putWin_pending (s : State) (w : Win) : (s.putWin w).pending = s.pending := rfl
@[simp] theorem putWin_ns (s : State) (w : Win) : (s.putWin w).ns = s.ns := rfl
@[simp] theorem putWin_words (s : State) (w : Win) : (s.putWin w).words = s.words := rfl
@[simp] theorem putWin_mem (s : State) (w : Win) : (s.putWin w).mem = s.mem := rfl
@[simp] theorem putWin_freeCtr (s : State) (w : Win) : (s.putWin w).freeCtr = s.freeCtr := rfl
@[simp] theorem putWin_openState (s : State) (w : Win) : (s.putWin w).openState = s.openState := rfl
@[simp] theorem putWin_raised (s : State) (w : Win) : (s.putWin w).raised = s.raised := rfl
@[simp] theorem putWin_tx (s : State) (w : Win) : (s.putWin w).tx = s.tx := rfl
@[simp] theorem putWin_prog (s : State) (w : Win) : (s.putWin w).prog = s.prog := rfl
@[simp] theorem putWin_pw (s : State) (w : Win) : (s.putWin w).pw = s.pw := rfl
@[simp] theorem putWin_mram (s : State) (w : Win) : (s.putWin w).mram = s.mram := rfl
@[simp] theorem putWin_sch (s : State) (w : Win) : (s.putWin w).sch = s.sch := rfl
@[simp] theorem putWin_prot (s : State) (w : Win) : (s.putWin w).prot = s.prot := rfl
@[simp] theorem putWin_fc (s : State) (w : Win) : (s.putWin w).fc = s.fc := rfl
@[simp] theorem putWin_recd (s : State) (w : Win) : (s.putWin w).recd = s.recd := rfl
@[simp] theorem putWin_pair (s : State) (w : Win) : (s.putWin w).pair = s.pair := rfl
@[simp] theorem putWin_ring (s : State) (w : Win) : (s.putWin w).ring = s.ring := rfl
@[simp] theorem putWin_plant (s : State) (w : Win) : (s.putWin w).plant = s.plant := rfl
@[simp] theorem putWin_ptp (s : State) (w : Win) : (s.putWin w).ptp = s.ptp := rfl
@[simp] theorem putWin_sr (s : State) (w : Win) : (s.putWin w).sr = s.sr := rfl
@[simp] theorem putWin_le (s : State) (w : Win) : (s.putWin w).le = s.le := rfl
@[simp] theorem putWin_mrt (s : State) (w : Win) : (s.putWin w).mrt = s.mrt := rfl
@[simp] theorem putWin_lio (s : State) (w : Win) : (s.putWin w).lio = s.lio := rfl
@[simp] theorem putWin_oc (s : State) (w : Win) : (s.putWin w).oc = s.oc := rfl
@[simp] theorem putWin_can (s : State) (w : Win) : (s.putWin w).can = s.can := rfl
@[simp] theorem putWin_vn (s : State) (w : Win) : (s.putWin w).vn = s.vn := rfl
@[simp] theorem putWin_upd (s : State) (w : Win) : (s.putWin w).upd = s.upd := rfl

@[simp] theorem setPair_pending (s : State) (x : Pair) : (s.setPair x).pending = s.pending := rfl
@[simp] theorem setPair_ns (s : State) (x : Pair) : (s.setPair x).ns = s.ns := rfl
@[simp] theorem setPair_words (s : State) (x : Pair) : (s.setPair x).words = s.words := rfl
@[simp] theorem setPair_mem (s : State) (x : Pair) : (s.setPair x).mem = s.mem := rfl
@[simp] theorem setPair_freeCtr (s : State) (x : Pair) : (s.setPair x).freeCtr = s.freeCtr := rfl
@[simp] theorem setPair_openState (s : State) (x : Pair) : (s.setPair x).openState = s.openState := rfl
@[simp] theorem setPair_raised (s : State) (x : Pair) : (s.setPair x).raised = s.raised := rfl
@[simp] theorem setPair_tx (s : State) (x : Pair) : (s.setPair x).tx = s.tx := rfl
@[simp] theorem setPair_prog (s : State) (x : Pair) : (s.setPair x).prog = s.prog := rfl
@[simp] theorem setPair_pw (s : State) (x : Pair) : (s.setPair x).pw = s.pw := rfl
@[simp] theorem setPair_mram (s : State) (x : Pair) : (s.setPair x).mram = s.mram := rfl
@[simp] theorem setPair_sch (s : State) (x : Pair) : (s.setPair x).sch = s.sch := rfl
@[simp] theorem setPair_lp (s : State) (x : Pair) : (s.setPair x).lp = s.lp := rfl
@[simp] theorem setPair_prot (s : State) (x : Pair) : (s.setPair x).prot = s.prot := rfl
@[simp] theorem setPair_fc (s : State) (x : Pair) : (s.setPair x).fc = s.fc := rfl
@[simp] theorem setPair_recd (s : State) (x : Pair) : (s.setPair x).recd = s.recd := rfl
@[simp] theorem setPair_pair (s : State) (x : Pair) : (s.setPair x).pair = x := rfl
@[simp] theorem setPair_ring (s : State) (x : Pair) : (s.setPair x).ring = s.ring := rfl
@[simp] theorem setPair_plant (s : State) (x : Pair) : (s.setPair x).plant = s.plant := rfl
@[simp] theorem setPair_ptp (s : State) (x : Pair) : (s.setPair x).ptp = s.ptp := rfl
@[simp] theorem setPair_sr (s : State) (x : Pair) : (s.setPair x).sr = s.sr := rfl
@[simp] theorem setPair_le (s : State) (x : Pair) : (s.setPair x).le = s.le := rfl
@[simp] theorem setPair_mrt (s : State) (x : Pair) : (s.setPair x).mrt = s.mrt := rfl
@[simp] theorem setPair_lio (s : State) (x : Pair) : (s.setPair x).lio = s.lio := rfl
@[simp] theorem setPair_oc (s : State) (x : Pair) : (s.setPair x).oc = s.oc := rfl
@[simp] theorem setPair_can (s : State) (x : Pair) : (s.setPair x).can = s.can := rfl
@[simp] theorem setPair_vn (s : State) (x : Pair) : (s.setPair x).vn = s.vn := rfl
@[simp] theorem setPair_upd (s : State) (x : Pair) : (s.setPair x).upd = s.upd := rfl

@[simp] theorem setOc_pending (s : State) (x : Online) : (s.setOc x).pending = s.pending := rfl
@[simp] theorem setOc_ns (s : State) (x : Online) : (s.setOc x).ns = s.ns := rfl
@[simp] theorem setOc_words (s : State) (x : Online) : (s.setOc x).words = s.words := rfl
@[simp] theorem setOc_mem (s : State) (x : Online) : (s.setOc x).mem = s.mem := rfl
@[simp] theorem setOc_freeCtr (s : State) (x : Online) : (s.setOc x).freeCtr = s.freeCtr := rfl
@[simp] theorem setOc_openState (s : State) (x : Online) : (s.setOc x).openState = s.openState := rfl
@[simp] theorem setOc_raised (s : State) (x : Online) : (s.setOc x).raised = s.raised := rfl
@[simp] theorem setOc_tx (s : State) (x : Online) : (s.setOc x).tx = s.tx := rfl
@[simp] theorem setOc_prog (s : State) (x : Online) : (s.setOc x).prog = s.prog := rfl
@[simp] theorem setOc_pw (s : State) (x : Online) : (s.setOc x).pw = s.pw := rfl
@[simp] theorem setOc_mram (s : State) (x : Online) : (s.setOc x).mram = s.mram := rfl
@[simp] theorem setOc_sch (s : State) (x : Online) : (s.setOc x).sch = s.sch := rfl
@[simp] theorem setOc_lp (s : State) (x : Online) : (s.setOc x).lp = s.lp := rfl
@[simp] theorem setOc_prot (s : State) (x : Online) : (s.setOc x).prot = s.prot := rfl
@[simp] theorem setOc_fc (s : State) (x : Online) : (s.setOc x).fc = s.fc := rfl
@[simp] theorem setOc_recd (s : State) (x : Online) : (s.setOc x).recd = s.recd := rfl
@[simp] theorem setOc_pair (s : State) (x : Online) : (s.setOc x).pair = s.pair := rfl
@[simp] theorem setOc_ring (s : State) (x : Online) : (s.setOc x).ring = s.ring := rfl
@[simp] theorem setOc_plant (s : State) (x : Online) : (s.setOc x).plant = s.plant := rfl
@[simp] theorem setOc_ptp (s : State) (x : Online) : (s.setOc x).ptp = s.ptp := rfl
@[simp] theorem setOc_sr (s : State) (x : Online) : (s.setOc x).sr = s.sr := rfl
@[simp] theorem setOc_le (s : State) (x : Online) : (s.setOc x).le = s.le := rfl
@[simp] theorem setOc_mrt (s : State) (x : Online) : (s.setOc x).mrt = s.mrt := rfl
@[simp] theorem setOc_lio (s : State) (x : Online) : (s.setOc x).lio = s.lio := rfl
@[simp] theorem setOc_oc (s : State) (x : Online) : (s.setOc x).oc = x := rfl
@[simp] theorem setOc_can (s : State) (x : Online) : (s.setOc x).can = s.can := rfl
@[simp] theorem setOc_vn (s : State) (x : Online) : (s.setOc x).vn = s.vn := rfl
@[simp] theorem setOc_upd (s : State) (x : Online) : (s.setOc x).upd = s.upd := rfl

@[simp] theorem setMrt_pending (s : State) (x : Mrt) : (s.setMrt x).pending = s.pending := rfl
@[simp] theorem setMrt_ns (s : State) (x : Mrt) : (s.setMrt x).ns = s.ns := rfl
@[simp] theorem setMrt_words (s : State) (x : Mrt) : (s.setMrt x).words = s.words := rfl
@[simp] theorem setMrt_mem (s : State) (x : Mrt) : (s.setMrt x).mem = s.mem := rfl
@[simp] theorem setMrt_freeCtr (s : State) (x : Mrt) : (s.setMrt x).freeCtr = s.freeCtr := rfl
@[simp] theorem setMrt_openState (s : State) (x : Mrt) : (s.setMrt x).openState = s.openState := rfl
@[simp] theorem setMrt_raised (s : State) (x : Mrt) : (s.setMrt x).raised = s.raised := rfl
@[simp] theorem setMrt_tx (s : State) (x : Mrt) : (s.setMrt x).tx = s.tx := rfl
@[simp] theorem setMrt_prog (s : State) (x : Mrt) : (s.setMrt x).prog = s.prog := rfl
@[simp] theorem setMrt_pw (s : State) (x : Mrt) : (s.setMrt x).pw = s.pw := rfl
@[simp] theorem setMrt_mram (s : State) (x : Mrt) : (s.setMrt x).mram = s.mram := rfl
@[simp] theorem setMrt_sch (s : State) (x : Mrt) : (s.setMrt x).sch = s.sch := rfl
@[simp] theorem setMrt_lp (s : State) (x : Mrt) : (s.setMrt x).lp = s.lp := rfl
@[simp] theorem setMrt_prot (s : State) (x : Mrt) : (s.setMrt x).prot = s.prot := rfl
@[simp] theorem setMrt_fc (s : State) (x : Mrt) : (s.setMrt x).fc = s.fc := rfl
@[simp] theorem setMrt_recd (s : State) (x : Mrt) : (s.setMrt x).recd = s.recd := rfl
@[simp] theorem setMrt_pair (s : State) (x : Mrt) : (s.setMrt x).pair = s.pair := rfl
@[simp] theorem setMrt_ring (s : State) (x : Mrt) : (s.setMrt x).ring = s.ring := rfl
@[simp] theorem setMrt_plant (s : State) (x : Mrt) : (s.setMrt x).plant = s.plant := rfl
@[simp] theorem setMrt_ptp (s : State) (x : Mrt) : (s.setMrt x).ptp = s.ptp := rfl
@[simp] theorem setMrt_sr (s : State) (x : Mrt) : (s.setMrt x).sr = s.sr := rfl
@[simp] theorem setMrt_le (s : State) (x : Mrt) : (s.setMrt x).le = s.le := rfl
@[simp] theorem setMrt_mrt (s : State) (x : Mrt) : (s.setMrt x).mrt = x := rfl
@[simp] theorem setMrt_lio (s : State) (x : Mrt) : (s.setMrt x).lio = s.lio := rfl
@[simp] theorem setMrt_oc (s : State) (x : Mrt) : (s.setMrt x).oc = s.oc := rfl
@[simp] theorem setMrt_can (s : State) (x : Mrt) : (s.setMrt x).can = s.can := rfl
@[simp] theorem setMrt_vn (s : State) (x : Mrt) : (s.setMrt x).vn = s.vn := rfl
@[simp] theorem setMrt_upd (s : State) (x : Mrt) : (s.setMrt x).upd = s.upd := rfl

@[simp] theorem setUpd_pending (s : State) (x : Upd) : (s.setUpd x).pending = s.pending := rfl
@[simp] theorem setUpd_ns (s : State) (x : Upd) : (s.setUpd x).ns = s.ns := rfl
@[simp] theorem setUpd_words (s : State) (x : Upd) : (s.setUpd x).words = s.words := rfl
@[simp] theorem setUpd_mem (s : State) (x : Upd) : (s.setUpd x).mem = s.mem := rfl
@[simp] theorem setUpd_freeCtr (s : State) (x : Upd) : (s.setUpd x).freeCtr = s.freeCtr := rfl
@[simp] theorem setUpd_openState (s : State) (x : Upd) : (s.setUpd x).openState = s.openState := rfl
@[simp] theorem setUpd_raised (s : State) (x : Upd) : (s.setUpd x).raised = s.raised := rfl
@[simp] theorem setUpd_tx (s : State) (x : Upd) : (s.setUpd x).tx = s.tx := rfl
@[simp] theorem setUpd_prog (s : State) (x : Upd) : (s.setUpd x).prog = s.prog := rfl
@[simp] theorem setUpd_pw (s : State) (x : Upd) : (s.setUpd x).pw = s.pw := rfl
@[simp] theorem setUpd_mram (s : State) (x : Upd) : (s.setUpd x).mram = s.mram := rfl
@[simp] theorem setUpd_sch (s : State) (x : Upd) : (s.setUpd x).sch = s.sch := rfl
@[simp] theorem setUpd_lp (s : State) (x : Upd) : (s.setUpd x).lp = s.lp := rfl
@[simp] theorem setUpd_prot (s : State) (x : Upd) : (s.setUpd x).prot = s.prot := rfl
@[simp] theorem setUpd_fc (s : State) (x : Upd) : (s.setUpd x).fc = s.fc := rfl
@[simp] theorem setUpd_recd (s : State) (x : Upd) : (s.setUpd x).recd = s.recd := rfl
@[simp] theorem setUpd_pair (s : State) (x : Upd) : (s.setUpd x).pair = s.pair := rfl
@[simp] theorem setUpd_ring (s : State) (x : Upd) : (s.setUpd x).ring = s.ring := rfl
@[simp] theorem setUpd_plant (s : State) (x : Upd) : (s.setUpd x).plant = s.plant := rfl
@[simp] theorem setUpd_ptp (s : State) (x : Upd) : (s.setUpd x).ptp = s.ptp := rfl
@[simp] theorem setUpd_sr (s : State) (x : Upd) : (s.setUpd x).sr = s.sr := rfl
@[simp] theorem setUpd_le (s : State) (x : Upd) : (s.setUpd x).le = s.le := rfl
@[simp] theorem setUpd_mrt (s : State) (x : Upd) : (s.setUpd x).mrt = s.mrt := rfl
@[simp] theorem setUpd_lio (s : State) (x : Upd) : (s.setUpd x).lio = s.lio := rfl
@[simp] theorem setUpd_oc (s : State) (x : Upd) : (s.setUpd x).oc = s.oc := rfl
@[simp] theorem setUpd_can (s : State) (x : Upd) : (s.setUpd x).can = s.can := rfl
@[simp] theorem setUpd_vn (s : State) (x : Upd) : (s.setUpd x).vn = s.vn := rfl
@[simp] theorem setUpd_upd (s : State) (x : Upd) : (s.setUpd x).upd = x := rfl

@[simp] theorem setLio_pending (s : State) (x : Lio) : (s.setLio x).pending = s.pending := rfl
@[simp] theorem setLio_ns (s : State) (x : Lio) : (s.setLio x).ns = s.ns := rfl
@[simp] theorem setLio_words (s : State) (x : Lio) : (s.setLio x).words = s.words := rfl
@[simp] theorem setLio_mem (s : State) (x : Lio) : (s.setLio x).mem = s.mem := rfl
@[simp] theorem setLio_freeCtr (s : State) (x : Lio) : (s.setLio x).freeCtr = s.freeCtr := rfl
@[simp] theorem setLio_openState (s : State) (x : Lio) : (s.setLio x).openState = s.openState := rfl
@[simp] theorem setLio_raised (s : State) (x : Lio) : (s.setLio x).raised = s.raised := rfl
@[simp] theorem setLio_tx (s : State) (x : Lio) : (s.setLio x).tx = s.tx := rfl
@[simp] theorem setLio_prog (s : State) (x : Lio) : (s.setLio x).prog = s.prog := rfl
@[simp] theorem setLio_pw (s : State) (x : Lio) : (s.setLio x).pw = s.pw := rfl
@[simp] theorem setLio_mram (s : State) (x : Lio) : (s.setLio x).mram = s.mram := rfl
@[simp] theorem setLio_sch (s : State) (x : Lio) : (s.setLio x).sch = s.sch := rfl
@[simp] theorem setLio_lp (s : State) (x : Lio) : (s.setLio x).lp = s.lp := rfl
@[simp] theorem setLio_prot (s : State) (x : Lio) : (s.setLio x).prot = s.prot := rfl
@[simp] theorem setLio_fc (s : State) (x : Lio) : (s.setLio x).fc = s.fc := rfl
@[simp] theorem setLio_recd (s : State) (x : Lio) : (s.setLio x).recd = s.recd := rfl
@[simp] theorem setLio_pair (s : State) (x : Lio) : (s.setLio x).pair = s.pair := rfl
@[simp] theorem setLio_ring (s : State) (x : Lio) : (s.setLio x).ring = s.ring := rfl
@[simp] theorem setLio_plant (s : State) (x : Lio) : (s.setLio x).plant = s.plant := rfl
@[simp] theorem setLio_ptp (s : State) (x : Lio) : (s.setLio x).ptp = s.ptp := rfl
@[simp] theorem setLio_sr (s : State) (x : Lio) : (s.setLio x).sr = s.sr := rfl
@[simp] theorem setLio_le (s : State) (x : Lio) : (s.setLio x).le = s.le := rfl
@[simp] theorem setLio_mrt (s : State) (x : Lio) : (s.setLio x).mrt = s.mrt := rfl
@[simp] theorem setLio_lio (s : State) (x : Lio) : (s.setLio x).lio = x := rfl
@[simp] theorem setLio_oc (s : State) (x : Lio) : (s.setLio x).oc = s.oc := rfl
@[simp] theorem setLio_can (s : State) (x : Lio) : (s.setLio x).can = s.can := rfl
@[simp] theorem setLio_vn (s : State) (x : Lio) : (s.setLio x).vn = s.vn := rfl
@[simp] theorem setLio_upd (s : State) (x : Lio) : (s.setLio x).upd = s.upd := rfl

@[simp] theorem setPtp_pending (s : State) (x : Ptp) : (s.setPtp x).pending = s.pending := rfl
@[simp] theorem setPtp_ns (s : State) (x : Ptp) : (s.setPtp x).ns = s.ns := rfl
@[simp] theorem setPtp_words (s : State) (x : Ptp) : (s.setPtp x).words = s.words := rfl
@[simp] theorem setPtp_mem (s : State) (x : Ptp) : (s.setPtp x).mem = s.mem := rfl
@[simp] theorem setPtp_freeCtr (s : State) (x : Ptp) : (s.setPtp x).freeCtr = s.freeCtr := rfl
@[simp] theorem setPtp_openState (s : State) (x : Ptp) : (s.setPtp x).openState = s.openState := rfl
@[simp] theorem setPtp_raised (s : State) (x : Ptp) : (s.setPtp x).raised = s.raised := rfl
@[simp] theorem setPtp_tx (s : State) (x : Ptp) : (s.setPtp x).tx = s.tx := rfl
@[simp] theorem setPtp_prog (s : State) (x : Ptp) : (s.setPtp x).prog = s.prog := rfl
@[simp] theorem setPtp_pw (s : State) (x : Ptp) : (s.setPtp x).pw = s.pw := rfl
@[simp] theorem setPtp_mram (s : State) (x : Ptp) : (s.setPtp x).mram = s.mram := rfl
@[simp] theorem setPtp_sch (s : State) (x : Ptp) : (s.setPtp x).sch = s.sch := rfl
@[simp] theorem setPtp_lp (s : State) (x : Ptp) : (s.setPtp x).lp = s.lp := rfl
@[simp] theorem setPtp_prot (s : State) (x : Ptp) : (s.setPtp x).prot = s.prot := rfl
@[simp] theorem setPtp_fc (s : State) (x : Ptp) : (s.setPtp x).fc = s.fc := rfl
@[simp] theorem setPtp_recd (s : State) (x : Ptp) : (s.setPtp x).recd = s.recd := rfl
@[simp] theorem setPtp_pair (s : State) (x : Ptp) : (s.setPtp x).pair = s.pair := rfl
@[simp] theorem setPtp_ring (s : State) (x : Ptp) : (s.setPtp x).ring = s.ring := rfl
@[simp] theorem setPtp_plant (s : State) (x : Ptp) : (s.setPtp x).plant = s.plant := rfl
@[simp] theorem setPtp_ptp (s : State) (x : Ptp) : (s.setPtp x).ptp = x := rfl
@[simp] theorem setPtp_sr (s : State) (x : Ptp) : (s.setPtp x).sr = s.sr := rfl
@[simp] theorem setPtp_le (s : State) (x : Ptp) : (s.setPtp x).le = s.le := rfl
@[simp] theorem setPtp_mrt (s : State) (x : Ptp) : (s.setPtp x).mrt = s.mrt := rfl
@[simp] theorem setPtp_lio (s : State) (x : Ptp) : (s.setPtp x).lio = s.lio := rfl
@[simp] theorem setPtp_oc (s : State) (x : Ptp) : (s.setPtp x).oc = s.oc := rfl
@[simp] theorem setPtp_can (s : State) (x : Ptp) : (s.setPtp x).can = s.can := rfl
@[simp] theorem setPtp_vn (s : State) (x : Ptp) : (s.setPtp x).vn = s.vn := rfl
@[simp] theorem setPtp_upd (s : State) (x : Ptp) : (s.setPtp x).upd = s.upd := rfl

@[simp] theorem setRing_pending (s : State) (x : Ring) : (s.setRing x).pending = s.pending := rfl
@[simp] theorem setRing_ns (s : State) (x : Ring) : (s.setRing x).ns = s.ns := rfl
@[simp] theorem setRing_words (s : State) (x : Ring) : (s.setRing x).words = s.words := rfl
@[simp] theorem setRing_mem (s : State) (x : Ring) : (s.setRing x).mem = s.mem := rfl
@[simp] theorem setRing_freeCtr (s : State) (x : Ring) : (s.setRing x).freeCtr = s.freeCtr := rfl
@[simp] theorem setRing_openState (s : State) (x : Ring) : (s.setRing x).openState = s.openState := rfl
@[simp] theorem setRing_raised (s : State) (x : Ring) : (s.setRing x).raised = s.raised := rfl
@[simp] theorem setRing_tx (s : State) (x : Ring) : (s.setRing x).tx = s.tx := rfl
@[simp] theorem setRing_prog (s : State) (x : Ring) : (s.setRing x).prog = s.prog := rfl
@[simp] theorem setRing_pw (s : State) (x : Ring) : (s.setRing x).pw = s.pw := rfl
@[simp] theorem setRing_mram (s : State) (x : Ring) : (s.setRing x).mram = s.mram := rfl
@[simp] theorem setRing_sch (s : State) (x : Ring) : (s.setRing x).sch = s.sch := rfl
@[simp] theorem setRing_lp (s : State) (x : Ring) : (s.setRing x).lp = s.lp := rfl
@[simp] theorem setRing_prot (s : State) (x : Ring) : (s.setRing x).prot = s.prot := rfl
@[simp] theorem setRing_fc (s : State) (x : Ring) : (s.setRing x).fc = s.fc := rfl
@[simp] theorem setRing_recd (s : State) (x : Ring) : (s.setRing x).recd = s.recd := rfl
@[simp] theorem setRing_pair (s : State) (x : Ring) : (s.setRing x).pair = s.pair := rfl
@[simp] theorem setRing_ring (s : State) (x : Ring) : (s.setRing x).ring = x := rfl
@[simp] theorem setRing_plant (s : State) (x : Ring) : (s.setRing x).plant = s.plant := rfl
@[simp] theorem setRing_ptp (s : State) (x : Ring) : (s.setRing x).ptp = s.ptp := rfl
@[simp] theorem setRing_sr (s : State) (x : Ring) : (s.setRing x).sr = s.sr := rfl
@[simp] theorem setRing_le (s : State) (x : Ring) : (s.setRing x).le = s.le := rfl
@[simp] theorem setRing_mrt (s : State) (x : Ring) : (s.setRing x).mrt = s.mrt := rfl
@[simp] theorem setRing_lio (s : State) (x : Ring) : (s.setRing x).lio = s.lio := rfl
@[simp] theorem setRing_oc (s : State) (x : Ring) : (s.setRing x).oc = s.oc := rfl
@[simp] theorem setRing_can (s : State) (x : Ring) : (s.setRing x).can = s.can := rfl
@[simp] theorem setRing_vn (s : State) (x : Ring) : (s.setRing x).vn = s.vn := rfl
@[simp] theorem setRing_upd (s : State) (x : Ring) : (s.setRing x).upd = s.upd := rfl

@[simp] theorem setVn_pending (s : State) (x : Veneer) : (s.setVn x).pending = s.pending := rfl
@[simp] theorem setVn_ns (s : State) (x : Veneer) : (s.setVn x).ns = s.ns := rfl
@[simp] theorem setVn_words (s : State) (x : Veneer) : (s.setVn x).words = s.words := rfl
@[simp] theorem setVn_mem (s : State) (x : Veneer) : (s.setVn x).mem = s.mem := rfl
@[simp] theorem setVn_freeCtr (s : State) (x : Veneer) : (s.setVn x).freeCtr = s.freeCtr := rfl
@[simp] theorem setVn_openState (s : State) (x : Veneer) : (s.setVn x).openState = s.openState := rfl
@[simp] theorem setVn_raised (s : State) (x : Veneer) : (s.setVn x).raised = s.raised := rfl
@[simp] theorem setVn_tx (s : State) (x : Veneer) : (s.setVn x).tx = s.tx := rfl
@[simp] theorem setVn_prog (s : State) (x : Veneer) : (s.setVn x).prog = s.prog := rfl
@[simp] theorem setVn_pw (s : State) (x : Veneer) : (s.setVn x).pw = s.pw := rfl
@[simp] theorem setVn_mram (s : State) (x : Veneer) : (s.setVn x).mram = s.mram := rfl
@[simp] theorem setVn_sch (s : State) (x : Veneer) : (s.setVn x).sch = s.sch := rfl
@[simp] theorem setVn_lp (s : State) (x : Veneer) : (s.setVn x).lp = s.lp := rfl
@[simp] theorem setVn_prot (s : State) (x : Veneer) : (s.setVn x).prot = s.prot := rfl
@[simp] theorem setVn_fc (s : State) (x : Veneer) : (s.setVn x).fc = s.fc := rfl
@[simp] theorem setVn_recd (s : State) (x : Veneer) : (s.setVn x).recd = s.recd := rfl
@[simp] theorem setVn_pair (s : State) (x : Veneer) : (s.setVn x).pair = s.pair := rfl
@[simp] theorem setVn_ring (s : State) (x : Veneer) : (s.setVn x).ring = s.ring := rfl
@[simp] theorem setVn_plant (s : State) (x : Veneer) : (s.setVn x).plant = s.plant := rfl
@[simp] theorem setVn_ptp (s : State) (x : Veneer) : (s.setVn x).ptp = s.ptp := rfl
@[simp] theorem setVn_sr (s : State) (x : Veneer) : (s.setVn x).sr = s.sr := rfl
@[simp] theorem setVn_le (s : State) (x : Veneer) : (s.setVn x).le = s.le := rfl
@[simp] theorem setVn_mrt (s : State) (x : Veneer) : (s.setVn x).mrt = s.mrt := rfl
@[simp] theorem setVn_lio (s : State) (x : Veneer) : (s.setVn x).lio = s.lio := rfl
@[simp] theorem setVn_oc (s : State) (x : Veneer) : (s.setVn x).oc = s.oc := rfl
@[simp] theorem setVn_can (s : State) (x : Veneer) : (s.setVn x).can = s.can := rfl
@[simp] theorem setVn_vn (s : State) (x : Veneer) : (s.setVn x).vn = x := rfl
@[simp] theorem setVn_upd (s : State) (x : Veneer) : (s.setVn x).upd = s.upd := rfl

@[simp] theorem setPw_pending (s : State) (x : Power) : (s.setPw x).pending = s.pending := rfl
@[simp] theorem setPw_ns (s : State) (x : Power) : (s.setPw x).ns = s.ns := rfl
@[simp] theorem setPw_words (s : State) (x : Power) : (s.setPw x).words = s.words := rfl
@[simp] theorem setPw_mem (s : State) (x : Power) : (s.setPw x).mem = s.mem := rfl
@[simp] theorem setPw_freeCtr (s : State) (x : Power) : (s.setPw x).freeCtr = s.freeCtr := rfl
@[simp] theorem setPw_openState (s : State) (x : Power) : (s.setPw x).openState = s.openState := rfl
@[simp] theorem setPw_raised (s : State) (x : Power) : (s.setPw x).raised = s.raised := rfl
@[simp] theorem setPw_tx (s : State) (x : Power) : (s.setPw x).tx = s.tx := rfl
@[simp] theorem setPw_prog (s : State) (x : Power) : (s.setPw x).prog = s.prog := rfl
@[simp] theorem setPw_pw (s : State) (x : Power) : (s.setPw x).pw = x := rfl
@[simp] theorem setPw_mram (s : State) (x : Power) : (s.setPw x).mram = s.mram := rfl
@[simp] theorem setPw_sch (s : State) (x : Power) : (s.setPw x).sch = s.sch := rfl
@[simp] theorem setPw_lp (s : State) (x : Power) : (s.setPw x).lp = s.lp := rfl
@[simp] theorem setPw_prot (s : State) (x : Power) : (s.setPw x).prot = s.prot := rfl
@[simp] theorem setPw_fc (s : State) (x : Power) : (s.setPw x).fc = s.fc := rfl
@[simp] theorem setPw_recd (s : State) (x : Power) : (s.setPw x).recd = s.recd := rfl
@[simp] theorem setPw_pair (s : State) (x : Power) : (s.setPw x).pair = s.pair := rfl
@[simp] theorem setPw_ring (s : State) (x : Power) : (s.setPw x).ring = s.ring := rfl
@[simp] theorem setPw_plant (s : State) (x : Power) : (s.setPw x).plant = s.plant := rfl
@[simp] theorem setPw_ptp (s : State) (x : Power) : (s.setPw x).ptp = s.ptp := rfl
@[simp] theorem setPw_sr (s : State) (x : Power) : (s.setPw x).sr = s.sr := rfl
@[simp] theorem setPw_le (s : State) (x : Power) : (s.setPw x).le = s.le := rfl
@[simp] theorem setPw_mrt (s : State) (x : Power) : (s.setPw x).mrt = s.mrt := rfl
@[simp] theorem setPw_lio (s : State) (x : Power) : (s.setPw x).lio = s.lio := rfl
@[simp] theorem setPw_oc (s : State) (x : Power) : (s.setPw x).oc = s.oc := rfl
@[simp] theorem setPw_can (s : State) (x : Power) : (s.setPw x).can = s.can := rfl
@[simp] theorem setPw_vn (s : State) (x : Power) : (s.setPw x).vn = s.vn := rfl
@[simp] theorem setPw_upd (s : State) (x : Power) : (s.setPw x).upd = s.upd := rfl

@[simp] theorem setLoop_pending (s : State) (n : Nat) (r : LoopRt) : (s.setLoop n r).pending = s.pending := rfl
@[simp] theorem setLoop_ns (s : State) (n : Nat) (r : LoopRt) : (s.setLoop n r).ns = s.ns := rfl
@[simp] theorem setLoop_words (s : State) (n : Nat) (r : LoopRt) : (s.setLoop n r).words = s.words := rfl
@[simp] theorem setLoop_mem (s : State) (n : Nat) (r : LoopRt) : (s.setLoop n r).mem = s.mem := rfl
@[simp] theorem setLoop_freeCtr (s : State) (n : Nat) (r : LoopRt) : (s.setLoop n r).freeCtr = s.freeCtr := rfl
@[simp] theorem setLoop_openState (s : State) (n : Nat) (r : LoopRt) : (s.setLoop n r).openState = s.openState := rfl
@[simp] theorem setLoop_raised (s : State) (n : Nat) (r : LoopRt) : (s.setLoop n r).raised = s.raised := rfl
@[simp] theorem setLoop_tx (s : State) (n : Nat) (r : LoopRt) : (s.setLoop n r).tx = s.tx := rfl
@[simp] theorem setLoop_prog (s : State) (n : Nat) (r : LoopRt) : (s.setLoop n r).prog = s.prog := rfl
@[simp] theorem setLoop_pw (s : State) (n : Nat) (r : LoopRt) : (s.setLoop n r).pw = s.pw := rfl
@[simp] theorem setLoop_mram (s : State) (n : Nat) (r : LoopRt) : (s.setLoop n r).mram = s.mram := rfl
@[simp] theorem setLoop_sch (s : State) (n : Nat) (r : LoopRt) : (s.setLoop n r).sch = s.sch := rfl
@[simp] theorem setLoop_lp (s : State) (n : Nat) (r : LoopRt) : (s.setLoop n r).lp = s.lp := rfl
@[simp] theorem setLoop_prot (s : State) (n : Nat) (r : LoopRt) : (s.setLoop n r).prot = s.prot := rfl
@[simp] theorem setLoop_fc (s : State) (n : Nat) (r : LoopRt) : (s.setLoop n r).fc = s.fc := rfl
@[simp] theorem setLoop_recd (s : State) (n : Nat) (r : LoopRt) : (s.setLoop n r).recd = s.recd := rfl
@[simp] theorem setLoop_pair (s : State) (n : Nat) (r : LoopRt) : (s.setLoop n r).pair = s.pair := rfl
@[simp] theorem setLoop_ring (s : State) (n : Nat) (r : LoopRt) : (s.setLoop n r).ring = s.ring := rfl
@[simp] theorem setLoop_plant (s : State) (n : Nat) (r : LoopRt) : (s.setLoop n r).plant = s.plant := rfl
@[simp] theorem setLoop_ptp (s : State) (n : Nat) (r : LoopRt) : (s.setLoop n r).ptp = s.ptp := rfl
@[simp] theorem setLoop_sr (s : State) (n : Nat) (r : LoopRt) : (s.setLoop n r).sr = s.sr := rfl
@[simp] theorem setLoop_mrt (s : State) (n : Nat) (r : LoopRt) : (s.setLoop n r).mrt = s.mrt := rfl
@[simp] theorem setLoop_lio (s : State) (n : Nat) (r : LoopRt) : (s.setLoop n r).lio = s.lio := rfl
@[simp] theorem setLoop_oc (s : State) (n : Nat) (r : LoopRt) : (s.setLoop n r).oc = s.oc := rfl
@[simp] theorem setLoop_can (s : State) (n : Nat) (r : LoopRt) : (s.setLoop n r).can = s.can := rfl
@[simp] theorem setLoop_vn (s : State) (n : Nat) (r : LoopRt) : (s.setLoop n r).vn = s.vn := rfl
@[simp] theorem setLoop_upd (s : State) (n : Nat) (r : LoopRt) : (s.setLoop n r).upd = s.upd := rfl

end Sys2Proof.Laws
end

