-- ==== Sys2Proof/Laws/Lp.lean ====
section
/-! SUPPORT. What one instruction of the logic processor can do, and what follows a command that leaves nothing to follow. -/

namespace Sys2Proof.Laws

open Sys2Proof.Machine

/-- Everything an instruction can do: it is turned away, closes the window for want of room, meets CODE_END, has its effect, meets a fault,
or waits. -/
theorem lpInstr_cases (base need : Nat) (f : LpCtx → LpRes) (s : State) :
    (s.lpTask = none ∧ lpInstr base need f s = s) ∨
    ∃ t, s.lpTask = some t ∧
      ((256 < (s.curWin t).entries + need ∧ lpInstr base need f s = s.putWin { s.curWin t with closed := some .buffer }) ∨
       ((s.curWin t).entries + need ≤ 256 ∧ s.codeLen ≤ (s.rt t).regs.ip.toNat ∧
         lpInstr base need f s = s.applyFault t (s.curWin t) cCodeEnd base) ∨
       (s.LpReady t need ∧
         ((∃ e, f (s.lpCtx t) = .ok e ∧ lpInstr base need f s = s.applyEff t (s.curWin t) e) ∨
          (∃ c s1, f (s.lpCtx t) = .fault c s1 ∧ lpInstr base need f s = s1.applyFault t (s.curWin t) c base) ∨
          (∃ s1, f (s.lpCtx t) = .wait s1 ∧ lpInstr base need f s = s1)))) := by
  unfold lpInstr
  split
  · left; exact ⟨by assumption, rfl⟩
  · rename_i t ht
    right
    refine ⟨t, ht, ?_⟩
    by_cases h1 : 256 < (s.curWin t).entries + need
    · left; exact ⟨h1, by simp [h1]⟩
    · right
      by_cases h2 : s.codeLen ≤ (s.rt t).regs.ip.toNat
      · left; exact ⟨by omega, h2, by simp [h1, h2]⟩
      · right
        refine ⟨⟨ht, by omega, by omega⟩, ?_⟩
        simp only [h1, h2, if_false]
        change (∃ e, f (s.lpCtx t) = .ok e ∧ (match f (s.lpCtx t) with
          | .ok e => s.applyEff t (s.curWin t) e | .fault c s1 => s1.applyFault t (s.curWin t) c base | .wait s1 => s1) = _) ∨ _
        cases h : f (s.lpCtx t) with
        | ok e => left; exact ⟨e, rfl, rfl⟩
        | fault c s1 =>
          right; left
          refine ⟨c, s1, rfl, ?_⟩
          change (match f (s.lpCtx t) with
            | .ok e => s.applyEff t (s.curWin t) e | .fault c s1 => s1.applyFault t (s.curWin t) c base | .wait s1 => s1) = _
          rw [h]
        | wait s1 =>
          right; right
          refine ⟨s1, rfl, ?_⟩
          change (match f (s.lpCtx t) with
            | .ok e => s.applyEff t (s.curWin t) e | .fault c s1 => s1.applyFault t (s.curWin t) c base | .wait s1 => s1) = _
          rw [h]

/-- An instruction that can be taken and meets no fault has its effect. -/
theorem lpInstr_ok {base need : Nat} {f : LpCtx → LpRes} {s : State} {t : Nat} {e : Eff} (hr : s.LpReady t need)
    (he : f (s.lpCtx t) = .ok e) : lpInstr base need f s = s.applyEff t (s.curWin t) e := by
  obtain ⟨h1, h2, h3⟩ := hr
  have he' : f ⟨s, t, (s.rt t).regs, (s.rt t).calls⟩ = .ok e := he
  unfold lpInstr
  rw [h1]
  simp only [if_neg (Nat.not_lt.mpr h2), if_neg (Nat.not_le.mpr h3), he']

/-- An instruction that can be taken and meets a fault closes the window with it. -/
theorem lpInstr_fault {base need : Nat} {f : LpCtx → LpRes} {s : State} {t c : Nat} {s1 : State} (hr : s.LpReady t need)
    (he : f (s.lpCtx t) = .fault c s1) : lpInstr base need f s = s1.applyFault t (s.curWin t) c base := by
  obtain ⟨h1, h2, h3⟩ := hr
  have he' : f ⟨s, t, (s.rt t).regs, (s.rt t).calls⟩ = .fault c s1 := he
  unfold lpInstr
  rw [h1]
  simp only [if_neg (Nat.not_lt.mpr h2), if_neg (Nat.not_le.mpr h3), he']

/-- With no task that can take it, an instruction is turned away. -/
theorem lpInstr_none {base need : Nat} {f : LpCtx → LpRes} {s : State} (h : s.lpTask = none) : lpInstr base need f s = s := by
  unfold lpInstr
  rw [h]

/-- The collector with nothing raised does nothing. -/
theorem drain_nil (n : Nat) (s : State) (h : s.raised = []) : State.drain n s = s := by
  cases n with
  | zero => rfl
  | succ n => simp [State.drain, h]

end Sys2Proof.Laws
end

