-- ==== Sys2Proof/Laws/Records.lean ====
section
/-! SUPPORT. A record kept in two alternating copies reads back as it was last written. -/

namespace Sys2Proof.Laws

open Sys2Proof.Machine

/-- The newer of two copies, by their sequence numbers. -/
def newer {α : Type} (seq : α → Nat) (a b : Option α) : Option α :=
  a.elim b fun x => b.elim (some x) fun y => if seq x < seq y then some y else some x

/-- A copy whose number is one above the newer one's is the newer beside either of the two. -/
theorem newer_written {α : Type} (seq : α → Nat) (a b : Option α) (c : α) (hn : seq c = ((newer seq a b).map seq).getD 0 + 1) :
    newer seq (some c) b = some c ∧ newer seq a (some c) = some c := by
  rcases a with _ | x <;> rcases b with _ | y <;> simp [newer] at hn ⊢
  · omega
  · omega
  · by_cases h : seq x < seq y <;> simp [h] at hn <;> exact ⟨fun h1 => by omega, by omega⟩

theorem glueNewest_eq (u : Upd) : u.glueNewest = newer GlueCopy.seq (GlueCopy.passed u.glueA) (GlueCopy.passed u.glueB) := by
  unfold Upd.glueNewest newer; cases GlueCopy.passed u.glueA <;> cases GlueCopy.passed u.glueB <;> rfl

theorem pfNewest_eq (s : State) : s.pfNewest = newer PfRec.seq (PfRec.passed s.mram.pfA) (PfRec.passed s.mram.pfB) := by
  unfold State.pfNewest newer; cases PfRec.passed s.mram.pfA <;> cases PfRec.passed s.mram.pfB <;> rfl

theorem vnRec_eq (s : State) : s.vnRec = newer VnRec.seq (VnRec.passed s.mram.vnRecA) (VnRec.passed s.mram.vnRecB) := by
  unfold State.vnRec newer; cases VnRec.passed s.mram.vnRecA <;> cases VnRec.passed s.mram.vnRecB <;> rfl

/-- The Glue-up record reads as it was written (spec/17 R479). -/
theorem putGlue_glue (u : Upd) (g : Glue) : (u.putGlue g).glue = g := by
  let n := ((u.glueNewest.map (·.seq)).getD 0) + 1
  let c : GlueCopy := { (⟨n, g, 0⟩ : GlueCopy) with crc := GlueCopy.crc32 ⟨n, g, 0⟩ }
  have hp : GlueCopy.passed (some c) = some c := by
    have : (c.crc == c.crc32) = true := by rw [beq_iff_eq]; rfl
    simp [GlueCopy.passed, Option.filter, this]
  have k := newer_written GlueCopy.seq (GlueCopy.passed u.glueA) (GlueCopy.passed u.glueB) c (by rw [← glueNewest_eq])
  have e : u.putGlue g = if n % 2 = 1 then { u with glueA := some c } else { u with glueB := some c } := rfl
  have h : (u.putGlue g).glueNewest = some c := by
    rw [e]
    split
    · rw [glueNewest_eq]; dsimp only; rw [hp]; exact k.1
    · rw [glueNewest_eq]; dsimp only; rw [hp]; exact k.2
  unfold Upd.glue; rw [h]

/-- The power-fail record reads as it was written, under the next sequence number and its CRC (spec/02 R54). -/
theorem pfWrite_pfNewest (s : State) (r : PfRec) :
    let n := ((s.pfNewest.map (·.seq)).getD 0) + 1
    (s.pfWrite r).pfNewest = some { r with seq := n, crc := PfRec.crc32 { r with seq := n } } := by
  intro n
  let c : PfRec := { r with seq := n, crc := PfRec.crc32 { r with seq := n } }
  have hp : PfRec.passed (some c) = some c := by
    have : (c.crc == c.crc32) = true := by rw [beq_iff_eq]; rfl
    simp [PfRec.passed, Option.filter, this]
  have k := newer_written PfRec.seq (PfRec.passed s.mram.pfA) (PfRec.passed s.mram.pfB) c (by rw [← pfNewest_eq])
  have e : s.pfWrite r = if n % 2 = 1 then { s with mram := { s.mram with pfA := some c } } else { s with mram := { s.mram with pfB := some c } } := rfl
  rw [e]
  split
  · rw [pfNewest_eq]; dsimp only; rw [hp]; exact k.1
  · rw [pfNewest_eq]; dsimp only; rw [hp]; exact k.2

/-- The Veneer's state record reads as it was written (spec/14 R419). -/
theorem vnRecord_vnRec (s : State) (busy : Bool) :
    let n := ((s.vnRec.map (·.seq)).getD 0) + 1
    let r : VnRec := ⟨n, busy, s.vn.mask, s.rd F.VN_STAT_BAND, s.vn.done, s.vn.cur, 0⟩
    (s.vnRecord busy).vnRec = some { r with crc := r.crc32 } := by
  intro n r
  let c : VnRec := { r with crc := r.crc32 }
  have hp : VnRec.passed (some c) = some c := by
    have : (c.crc == c.crc32) = true := by rw [beq_iff_eq]; rfl
    simp [VnRec.passed, Option.filter, this]
  have k := newer_written VnRec.seq (VnRec.passed s.mram.vnRecA) (VnRec.passed s.mram.vnRecB) c (by rw [← vnRec_eq])
  have e : s.vnRecord busy = if n % 2 = 1 then { s with mram := { s.mram with vnRecA := some c } } else { s with mram := { s.mram with vnRecB := some c } } := rfl
  rw [e]
  split
  · rw [vnRec_eq]; dsimp only; rw [hp]; exact k.1
  · rw [vnRec_eq]; dsimp only; rw [hp]; exact k.2

end Sys2Proof.Laws
end

