-- ==== Sys2Proof/Tests/Slice0.lean ====
section
/-! SUPPORT. The model's own tests: terms that the checks of WellFormed refuse, states that meet the hypotheses of every statement, and results
that the spec's examples and tables give. -/

namespace Sys2Proof.Tests

open Sys2Proof Sys2Proof.Machine

/-! ## Small states -/

/-- A program: cyclic tasks 0 and 1, event task 40, block D12, a timer, a counter and two loops. -/
def img : Image :=
  { version := 7, lineage := 1, format := 1, intact := true, code := List.replicate 8 0#32
    tasks := [⟨0, 0, 64, false⟩, ⟨1, 4, 64, true⟩, ⟨40, 3, 64, false⟩], blocks := [(12, 256)], insts := [⟨5, 17, 1, 101⟩, ⟨6, 5, 1, 102⟩]
    ids := [], init := [], segs := [], stations := [], loops := [], rings := [⟨18, 12, 0, 2⟩], dataBytes := 0 }

/-- A module in SOLO that runs the program. -/
def up : State := ({ State.reset with pw := { State.reset.pw with phase := .running, tasksBegan := true, doms := List.replicate 14 .run }, prog := some img }).wr F.MOD_STAT_ROLE roleSolo

/-- Fields of a state set one after the other. -/
def wrs (s : State) (l : List (Fld × Nat)) : State := l.foldl (fun (s : State) p => s.wr p.1 p.2) s

/-- Task 0 in its cycle with registers `r`, in DUAL mode. -/
def lpWith (r : Regs) : State := { up with sch := { up.sch with running := some 0, tasks := [(0, { st := .cycle, regs := r })] } }

/-- Registers at a cycle's start, at index 0. -/
def regs0 : Regs := ⟨false, 0, 0, false, false, false, false, [], 0, 0⟩

/-- Task 0 about to take its first instruction. -/
def lp : State := lpWith regs0

/-- A bit operand in area M, a word operand of 16 bits there, and a short immediate. -/
def bitM (off bit : Nat) : Opnd := ⟨2, BitVec.ofNat 22 (8 * off + bit), 0⟩
def wordM (off : Nat) : Opnd := ⟨2, BitVec.ofNat 22 (2 ^ 19 + off), 0⟩
def imm (n : Nat) : Opnd := ⟨8, BitVec.ofNat 22 n, 0⟩

/-! ## States that meet the hypotheses: Ebgen -/

theorem witness_StepTakesFront : ({ up with pending := [.nop ⟨0, 0⟩] } : State).pending = .nop ⟨0, 0⟩ :: [] := by decide

theorem witness_IdleAndWords : State.reset.pending = [] := by decide

theorem witness_SettledKept : up.Settled := by unfold State.Settled; decide

theorem witness_CanonicalKept : up.canonical = true ∧ step up = .next { up with ns := up.ns + 1000 } := ⟨by decide, rfl⟩

theorem witness_CalmStays : up.Calm := by unfold State.Calm State.Settled; decide

theorem witness_LoadAndCombine : lp.LpReady 0 0 ∧ bitOperand (lp.lpCtx 0) (bitM 3 7) bitReadAreas = .ok (.mem ⟨2, 0, 3⟩ 7) ∧
    readBit (lp.lpCtx 0) (.mem ⟨2, 0, 3⟩ 7) = .got false lp 0 [] := by
  unfold State.LpReady; refine ⟨by decide, by rfl, by rfl⟩

theorem witness_Nesting : (lpWith { regs0 with ns := List.replicate 15 9 }).LpReady 0 0 ∧ (lpWith { regs0 with ns := List.replicate 16 9 }).LpReady 0 0 ∧
    BitVec.ofNat 4 (8 * bitNat true + 4 * bitNat false + 1) = 9 := by unfold State.LpReady; decide

theorem witness_Accumulator : lp.LpReady 0 0 ∧ (9#4).toNat < 10 ∧ 10 ≤ (10#4).toNat := by unfold State.LpReady; decide

theorem witness_BitStores : lp.LpReady 0 1 ∧ bitOperand (lp.lpCtx 0) (bitM 65535 7) storeAreas = .ok (.mem ⟨2, 0, 65535⟩ 7) ∧
    bitOperand (lp.lpCtx 0) ⟨7, 0x4241F#22, 0⟩ storeAreas = .ok (.sys 0x2120 31) := by unfold State.LpReady; refine ⟨by decide, by rfl, by rfl⟩

theorem witness_OperandFaults : lp.LpReady 0 1 ∧ bitOperand (lp.lpCtx 0) ⟨9, 0, 0⟩ bitReadAreas = .error 2 ∧
    wordOperand (lp.lpCtx 0) ⟨9, 0, 0⟩ bitReadAreas false = .error 2 := by unfold State.LpReady; refine ⟨by decide, by rfl, by rfl⟩

theorem witness_OperandFaults_functions : lp.LpReady 0 4 ∧ wordOperand (lp.lpCtx 0) ⟨9, 0, 0⟩ storeAreas true = .error 2 ∧
    wordOperand (lp.lpCtx 0) ⟨9, 0, 0⟩ storeAreas false = .error 2 ∧ (ArgOpnd.mk 1 0).area ≠ 0 ∧ 63 < (ArgOpnd.mk 0 64).arg.toNat ∧
    (4#4).toNat ≠ 5 ∧ (6#4).toNat = 6 ∧ 8192 ≤ (8192#22).toNat := by
  unfold State.LpReady; refine ⟨by decide, by rfl, by rfl, by decide, by decide, by decide, by decide, by decide⟩

theorem witness_Jumps : lp.LpReady 0 0 ∧ (7#22).toNat < lp.codeLen ∧ lp.codeLen ≤ (8#22).toNat ∧ (lp.regs 0).ba = false ∧
    ((lpWith { regs0 with ba := true }).regs 0).ba = true := by unfold State.LpReady; decide

theorem witness_SaturateArithmetic : (BitVec.intMin 64).toInt - (1#64).toInt < -2 ^ 63 ∧ 2 ^ 63 ≤ (BitVec.intMax 64).toInt + (1#64).toInt := by decide

theorem witness_DivisionAndFormats : (BitVec.intMin 64).toInt = -2 ^ 63 ∧ (-1#64).toInt = -1 ∧ (1#64) ≠ 0 := by decide

theorem witness_WordArithmetic : lp.LpReady 0 0 ∧ wordOperand (lp.lpCtx 0) (imm 5) bitReadAreas false = .ok (.const 5) ∧
    readWord (lp.lpCtx 0) (.const 5) = .got 5 lp 0 [] := by unfold State.LpReady; refine ⟨by decide, by rfl, by rfl⟩

theorem witness_WordStores : lp.LpReady 0 1 ∧ wordOperand (lp.lpCtx 0) (wordM 16) storeAreas true = .ok (.mem ⟨2, 0, 16⟩ 2 false) ∧
    wordOperand (lp.lpCtx 0) (wordM 16) storeAreas false = .ok (.mem ⟨2, 0, 16⟩ 2 false) ∧
    wordOperand (lp.lpCtx 0) ⟨7, BitVec.ofNat 22 (2 ^ 20 + 5), 0⟩ storeAreas true = .ok (.sys 5 false) ∧
    wordOperand (lp.lpCtx 0) ⟨7, BitVec.ofNat 22 (2 ^ 20 + 5), 0⟩ storeAreas false = .ok (.sys 5 false) := by
  unfold State.LpReady; refine ⟨by decide, by rfl, by rfl, by rfl, by rfl⟩

theorem witness_MovesAndWidths : lp.LpReady 0 0 ∧ (63#16).toNat ≤ 63 ∧ 63 < (64#16).toNat ∧ (2#16).toNat ≤ 2 := by unfold State.LpReady; decide

/-- Task 0 with an instance's bytes in memory. -/
def lpInst (area n kind : Nat) : State := { lp with mem := msetList (cellKey lp.bank ⟨area, 0, 32 * n⟩) (if area = 5 then
  leBytes 8 1 ++ leBytes 22 0 ++ leBytes 2 (4096 * kind) else leBytes 8 1 ++ leBytes 16 0 ++ leBytes 8 (4096 * kind)) [] }

theorem witness_Timers : ∀ k ∈ [0, 1, 2, 3], (lpInst 5 17 k).LpReady 0 4 ∧ (timerOf ((lpInst 5 17 k).lpCtx 0 |>.instBytes 5 17).1).kind = k := by
  unfold State.LpReady; decide

theorem witness_CountersAndEdges : (∀ k ∈ [0, 1, 2, 3], (lpInst 6 5 k).LpReady 0 3 ∧ (counterOf ((lpInst 6 5 k).lpCtx 0 |>.instBytes 6 5).1).kind = k) ∧
    bitOperand (lp.lpCtx 0) (bitM 3 7) edgeAreas = .ok (.mem ⟨2, 0, 3⟩ 7) := ⟨by unfold State.LpReady; decide, by rfl⟩

/-- Task 0 with calls in progress. -/
def lpCalls (l : List (Nat × BitVec 16)) (r : Regs) : State :=
  { up with sch := { up.sch with running := some 0, tasks := [(0, { st := .cycle, regs := r, calls := l })] } }

theorem witness_CallsAndReturns : (lpCalls (List.replicate 31 (1, 0)) regs0).LpReady 0 0 ∧ (lpCalls (List.replicate 32 (1, 0)) regs0).LpReady 0 0 ∧
    (lpCalls [] { regs0 with ns := [9], ba := true }).LpReady 0 0 ∧ blockWord 0xFC00000C = .ok 12 ∧ (regs0.ip.toNat + 1 < lp.codeLen) ∧
    blockWord 0x0000000C = .error 3 ∧ (lpWith { regs0 with ip := 7 }).LpReady 0 0 ∧ lp.codeLen ≤ 7 + 1 := by
  unfold State.LpReady; refine ⟨by decide, by decide, by decide, by rfl, by decide, by rfl, by decide, by decide⟩

theorem witness_TasksAndBarriers : lp.LpReady 0 1 ∧ lp.declared 40 = true ∧ lp.declared 95 = false ∧
    (65535#64).toInt ≤ 65535 ∧ 65535 < (65536#64).toInt ∧ (-1#64).toInt < 0 ∧ (lp.regs 0).ns = [] ∧ (lpWith { regs0 with ns := [9] }).LpReady 0 0 ∧
    (lp.rt 0).mode = 2 ∧ (lp.curWin 0).task = 0 ∧ (lp.curWin 0).log = [] ∧ (lp.curWin 0).fault = none ∧ lp.lp.stepping = false ∧ lp.lp.breakpoints = [] ∧
    lp.on F.FC_JIG_STAT_ARMED = false ∧ lp.ocPhase = 0 ∧ lp.shadowing = false ∧ lp.le.tab = [] ∧ lp.hostPending 0 = false ∧ (lp.rt 0).again = false ∧
    ∀ e ∈ lp.sch.tasks, e.2.preempted = false := by unfold State.LpReady; decide

/-- A program with one loop, AUTO, hosted by task 0. -/
def looped : State := { lp with le := { lp.le with tab := [(3, { f := setNth 2 loopReset 0, pub := loopReset, host := 0, div := 1, lph := 0 })], resident := [3] } }

theorem witness_LoopInstructions : looped.LpReady 0 1 ∧ looped.loopField 3 64 ≠ none ∧ looped.loopField 3 255 = none ∧ looped.loopField 4095 0 = none ∧ 2 ^ 20 ≤ (0x100000#22).toNat := by
  unfold State.LpReady; decide

theorem witness_Rpost : lp.LpReady 0 5 ∧ lp.svcTake 0 = none ∧ lp.shadowing = false ∧ lp.ringRoom 0 = true ∧
    (lp.wr (F.RNG_PI 0) 64).ringRoom 0 = false ∧ (lp.access (memAccess 0 0 false ⟨2, 0, 64⟩ 32 false)).1 = true ∧
    postOperand (lp.lpCtx 0) ⟨2, 64, 0⟩ = .ok (0, ⟨2, 0, 64⟩) ∧ postOperand (lp.lpCtx 0) ⟨1, 64, 0⟩ = .error 2 := by
  unfold State.LpReady; refine ⟨by decide, by decide, by decide, by decide, by decide, by decide, by rfl, by rfl⟩

theorem witness_NoStoreBeforeCommit : inWindow (.sta (wordM 16)) = true := by decide

/-! ## States that meet the hypotheses: cycles, windows and the scheduler -/

/-- A window of task 0, full, with one store in its log. -/
def due (mode : Nat) : State :=
  { up with
    sch := { up.sch with running := some 0, tasks := [(0, { st := .cycle, mode := mode })] }
    lp := { up.lp with win := some { (freshWin 0 {}) with count := 64, cycles := 64, closed := some .full, entries := 1
                                                          log := [.mem ⟨2, 0, 16⟩ 2 0x1234] } } }

/-- The same with an empty log. -/
def due0 : State := { due 2 with lp := { up.lp with win := some { (freshWin 0 {}) with count := 64, cycles := 64, closed := some .full } } }

theorem witness_WindowsCommit : ∀ m ∈ [1, 2, 3], (due m).WindowDue 0 ((due m).curWin 0) ∧ ((due m).curWin 0).log ≠ [] ∧ ((due m).rt 0).mode = m ∧
    (due m).ocPhase = 0 ∧ verdict (due m).prot.active (memAccess 0 0 true ⟨2, 0, 16⟩ 2 false) = .allowed := by
  unfold State.WindowDue; decide

/-- An outcome that differs from the true one: another window length. -/
def odd : Outcome := { due0.trueOutcome (due0.curWin 0) with count := 63 }

theorem witness_WindowsDiffer : due0.WindowDue 0 (due0.curWin 0) ∧ (due0.rt 0).mode = 2 ∧ agree (due0.trueOutcome (due0.curWin 0)) odd = false ∧
    (due0.curWin 0).log = [] ∧ due0.ocPhase = 0 ∧ (due0.wr F.RX_CFG_MM_LIMIT 0).rd F.RX_CFG_MM_LIMIT = 0 := by
  unfold State.WindowDue; decide

theorem witness_Checkers : up.awake = true ∧ (0x00000000#32).toNat % 4 = 0 ∧ ((0x8001#32).toNat % 4 = 1 ∧ up.on (F.XMODE_NONCRIT 97) = false) ∧
    (due 2).sch.running = some 0 ∧ (due 2).lp.stopped = false ∧ ((due 2).curWin 0).task = 0 := by decide

theorem witness_TicksAndCycles : up.awake = true ∧ up.netUp = true ∧ up.pair.handover = none ∧ up.shadowing = false ∧ up.sch.tasks = [] ∧
    up.sch.first = false ∧ up.sch.held = [] ∧ up.sch.due = [] ∧ up.tick + 1 < 2 ^ 64 := by decide

/-- Task 1 ready on a module with nothing in its cycle, and task 0 running with task 1 of higher priority ready. -/
def ready : State := { up.wr F.SCH_STAT_STATE 2 with sch := { up.sch with tasks := [(1, { st := .ready, prio := 5 })] } }
def outrun : State := { ready with sch := { ready.sch with running := some 0, tasks := [(0, { st := .cycle }), (1, { st := .ready, prio := 5 })] } }

theorem witness_TicksAndCycles_start : ready.lpReady = true ∧ (ready.bestReady.map (·.1)) = some 1 ∧ ready.bestPreempted.isNone = true ∧
    ready.pair.inputs = [] ∧ ready.pair.extwrites = [] ∧ ready.sr.jobs = [] ∧ outrun.lp.win.isNone = true ∧ (outrun.bestReady.map (·.1)) = some 1 ∧
    outrun.bestReady.all (fun e => outprio e.2 (outrun.rt 0)) = true ∧ (outrun.rt 0).st ≠ .idle ∧ (outrun.rt 0).owed = false := by decide

/-- Event task 40 enabled, triggered by a source with an argument. -/
def eventTask (src arg : Nat) : State :=
  wrs up [(F.SCH_STAT_STATE, 2), (F.TCFG_EN 40, 1), (fTrigSrc 40, src), (fTrigArg 40, arg)]

theorem witness_Triggers : (∀ src ∈ [1, 2, 3, 4, 5], let s := eventTask src 17
    s.isActive = true ∧ (s.rt 40).trigNs ≠ some s.ns ∧ (s.setRt 40 { trigNs := some s.ns }).rt 40 = { trigNs := some s.ns } ∧
    s.mayRelease = true ∧ s.declared 40 = true ∧ s.enabled 40 = true ∧ (s.rt 40).st = .idle ∧ s.rd (fTrigSrc 40) = src ∧
    trigMatches src (s.rd (fTrigArg 40)) 17 = true) := by decide

/-- The event timer of task 40 armed and due. -/
def armed : State := { eventTask 6 0 with sch := { up.sch with tasks := [(40, { armed := some 0 })] } }

theorem witness_Triggers_timer : (armed.rt 40).armed = some 0 ∧ 0 ≤ armed.tick ∧ armed.rd (fTrigSrc 40) = 6 ∧ armed.mayRelease = true ∧ armed.isActive = true ∧
    armed.declared 40 = true ∧ armed.enabled 40 = true ∧ (armed.rt 40).st = .idle ∧ (armed.rt 40).trigNs ≠ some armed.ns ∧ armed.tick < 1 ∧
    armed.sch.due.contains 40 = false ∧ (armed.wr F.SCH_STAT_STATE 0).mayRelease = false ∧ (eventTask 1 1).rd (fTrigSrc 40) ≠ 6 := by decide

theorem witness_SchedulerSettings : up.awake = true ∧ up.declared 0 = true ∧ up.declared 2 = false ∧ 0 < up.rd (F.TPER_N 0) ∧
    trigOk 1 63 = true ∧ trigOk 1 64 = false ∧ up.rd F.FC_CFG_FAULT_TASK ≠ 40 := by decide


/-! ## States that meet the hypotheses: online change and the loop engine -/

/-- The program's next version, of the same lineage, and the same with damaged code. -/
def img2 : Image := { img with version := 8 }
def imgBad : Image := { img2 with intact := false }

/-- The sessions of a module with one engineer. -/
def engineers : Tab Session := [(4, ⟨.engineer, false, 90, [90], 0⟩)]

/-- A module whose online change of image `p` stands in phase `ph`, with the scheduler cycling. -/
def change (p : Image) (ph : Nat) : State :=
  { wrs up [(F.SCH_STAT_STATE, 2), (F.OC_STAT_PHASE, ph), (F.OC_STAT_LOADED, 1), (F.OC_CFG_ALLOW, 1), (F.HOLDUP_CHARGED, 1)] with
    mram := { up.mram with areas := [some img, some p] }, sch := { up.sch with first := false }, plant := { up.plant with sessions := engineers } }

theorem witness_OnlinePhases (h : Config.formatSupported 1 = true) : up.awake = true ∧ up.role ≠ roleActive ∧ (change img2 0).ocPhase = 0 ∧ (change img2 0).engineerOpen = true ∧ up.engineerOpen = false ∧
    (∀ ph ∈ [0, 1], (change img2 ph).awake = true ∧ (change img2 ph).ocPhase = ph ∧ (change img2 ph).newImage = some img2 ∧
      (change img2 ph).on F.OC_STAT_LOADED = true ∧ (change img2 ph).rejects img2 false = none ∧
      (change imgBad ph).newImage = some imgBad ∧ (change imgBad ph).rejects imgBad false = some (3, none) ∧ (change img2 ph).engineerOpen = true ∧ (change imgBad ph).engineerOpen = true) ∧
    (∀ ph ∈ [2, 3, 4], (change img2 ph).ocPhase = ph ∧ (change img2 ph).oc.trial ≠ 1) := by
  refine ⟨by decide, by decide, by decide, by decide, by decide, ?_, by decide⟩
  intro ph hp
  have e : (change img2 ph).rejects img2 false = none := by
    unfold State.rejects; rw [show img2.format = 1 from rfl, h]; revert ph; decide
  refine ⟨?_, ?_, ?_, ?_, e, ?_⟩ <;> clear e <;> revert ph <;> decide

/-- A change at a quiet point, one whose switch runs, and a trial on a standby and on an active of a pair. -/
def switching : State := { change img2 5 with oc := { up.oc with t0 := 100 } }
def trying : State := wrs (change img2 0) [(F.MOD_STAT_ROLE, roleUnsync), (F.OC_STAT_TRIAL, 1)]
def tried : State := { change img2 4 with oc := { up.oc with trial := 1 } }

theorem witness_OnlineSwitch : (let s := change img2 4; s.awake = true ∧ s.ocPhase = 4 ∧ s.role = roleSolo ∧ s.oc.trial = 0 ∧ s.quiet = true ∧
      s.on F.OC_CFG_ALLOW = true ∧ s.on F.HOLDUP_CHARGED = true) ∧
    (let s := switching; s.ocPhase = 5 ∧ s.newImage = some img2 ∧ s.oc.toTrial = false ∧ s.le.queue = [] ∧ s.le.cur = none ∧ s.sch.held = []) ∧
    trying.on F.OC_STAT_TRIAL = true ∧ (tried.on F.OC_STAT_TRIAL = false ∧ tried.ocPhase = 4 ∧ tried.oc.trial = 1) := by decide

/-- A loop in MODE `m` whose evaluation is requested, with OUTMIN −100 and OUTMAX 100, and the same while it is evaluated. -/
def asked (m : Nat) : State :=
  let f := setNth (BitVec.ofNat 32 m) (setNth 100#32 (setNth (-100#32) loopReset 15) 14) 0
  let r : LoopRt := { f := f, pub := f, host := 0, div := 1, lph := 0 }
  { up.wr (F.TCFG_EN 0) 1 with le := { up.le with tab := [(3, r)], resident := [3], queue := [⟨3, 0, 10, [some 7], false⟩] } }
def evaluating : State := { asked 1 with le := { (asked 1).le with queue := [], cur := some ⟨⟨3, 0, 10, [], false⟩, 10, loopReset⟩ } }

theorem witness_LoopEngine : (∀ m ∈ [1, 2, 3], let s := asked m; s.awake = true ∧ s.engineRuns = true ∧ s.le.cur = none ∧ (s.loop 3).isSome = true ∧
      s.le.resident.contains 3 = true ∧ ∀ r, s.loop 3 = some r → r.batches = [] ∧ s.loopRuns r = true ∧ lMode r.f = m ∧ lq r.f 16 = 0 ∧ lq r.f 15 ≤ lq r.f 14) ∧
    evaluating.awake = true ∧ evaluating.dom 6 = .run ∧ (∀ q ∈ (asked 1).le.queue, q.denied = false) ∧ (evaluating.loop 3).isSome = true ∧ evaluating.le.cur.map (·.req.loop) = some 3 ∧ evaluating.on F.FC_JIG_STAT_ARMED = false := by
  refine ⟨?_, by decide, by decide, by decide, by decide, by decide, by decide⟩
  intro m hm; refine ⟨?_, ?_, ?_, ?_, ?_, ?_⟩
  all_goals first | (intro r hr; obtain rfl : _ = r := Option.some.inj hr; clear hr) | skip
  all_goals revert m; decide

/-! ## States that meet the hypotheses: the redundant pair -/

/-- A partner's heartbeat with its role. -/
def hbOf (role : Nat) : HbData := ⟨1, 0, role, 5, 250, 1, 1, 7, 0, true, true, 0, 0, 2, true⟩

/-- A module in a role with its Dovetail link up and a partner in another role. -/
def paired (role partner : Nat) : State :=
  { wrs up [(F.MOD_STAT_ROLE, role), (F.DT_STAT_LINK_UP, 1), (F.DT_STAT_PROTO_OK, 1), (F.SCH_STAT_STATE, 2), (F.PAIR_STAT_PARTNER_ROLE, partner),
      (F.EPOCH, 3), (F.EPOCH_SEEN, 3), (F.PAIR_STAT_HB_OK, 1), (F.HOLDUP_CHARGED, 1)] with
    pair := { up.pair with partner := some (hbOf partner), hbRun := 3, txSeq := 5, rxSeq := 8, replay := [⟨4, 20, .release, [1, 2]⟩, ⟨5, 20, .release, [1, 3]⟩] }
    pw := { up.pw with alvRun := true } }

theorem witness_PairPresence : let s := paired roleActive roleSync;
    s.pw.alvRun = true ∧ s.on F.PAIR_STAT_HB_OK = true ∧ s.pair.deciding = false ∧ s.pairUp = true ∧ s.dtMute = false ∧ s.awake = true ∧
    s.on F.DT_STAT_LINK_UP = true ∧ s.on F.FC_JIG_STAT_ARMED = false ∧ s.on F.PAIR_STAT_SEATED = false ∧ s.pair.hbRun ≠ 0 ∧ s.shadowing = false ∧
    s.pair.linkFault = false ∧ s.pair.naks < 3 ∧ 5 ≤ s.pair.txSeq ∧ (∃ f ∈ s.pair.replay, f.seq = 5) ∧
    (∀ f ∈ s.pair.replay, 5 ≤ f.seq → tget 0 s.pair.resent f.seq < 3) ∧ 3 ≤ s.epoch ∧ 3 ≤ s.rd F.EPOCH_SEEN ∧ 0 ≤ s.pair.acked ∧
    s.pair.verdict = false := by decide

/-- A module that decides its role: `mode` is its restart mode. -/
def starting (deciding claimed : Bool) (mode : Nat) : State :=
  { wrs up [(F.MOD_STAT_ROLE, roleUnsync), (F.EPOCH_SEEN, 3)] with
    pw := { up.pw with phase := .prepared, alvRun := true }
    pair := { up.pair with deciding := deciding, claimed := claimed, startMode := mode } }

/-- Changes of the pair's own data. -/
def pairWith (s : State) (f : Pair → Pair) : State := { s with pair := f s.pair }

theorem witness_PairDecision :
    (let s := starting false false 0; s.awake = true ∧ s.pw.alvRun = true ∧ s.pw.phase = .prepared ∧ s.partnerActs = false ∧ s.on F.PAIR_STAT_CLAIM = false ∧
      (s.wr F.PAIR_STAT_CLAIM 1).on F.PAIR_STAT_CLAIM = true) ∧
    (let s := (starting true false 2).wr F.DT_STAT_LINK_UP 1; s.pair.deciding = true ∧ s.on F.DT_STAT_LINK_UP = true ∧
      max (s.rd F.EPOCH_SEEN) 9 < 0xFFFFFFFE ∧ s.pair.partner.isNone = true ∧ 1 < s.pair.startMode ∧ ¬3 < s.pair.startMode ∧ 3 ≠ s.pair.startMode) ∧
    (let s := starting true false 2; s.pair.claimed = false ∧ s.aloneNow = true) ∧
    (let s := (starting true true 2).wr F.SLOT_STAT_ID 1; s.pair.deciding = true ∧ s.pair.claimed = true ∧ s.rd F.EPOCH_SEEN < 0xFFFFFFFE ∧
      s.inSlot2 = true ∧ ((starting true true 2).wr F.SLOT_STAT_ID 2).inSlot2 = false) ∧
    (let s := { paired roleSync roleActive with pair := { up.pair with verdict := true } }; s.pair.verdict = true ∧ s.pair.alvIgnored = false) ∧
    (let s := paired roleActive roleSync; s.isActive = true ∧ s.pw.alvRun = true ∧ s.epoch < 4 ∧ 2 < s.epoch ∧ 2 ≤ s.rd F.EPOCH_SEEN) ∧
    (let s := (paired roleFenced roleActive).wr F.PAIR_CFG_RESYNC_AUTO 0; s.role = roleFenced ∧ s.on F.PAIR_CFG_RESYNC_AUTO = false) ∧
    (let s := wrs (paired roleUnsync roleActive) [(F.PAIR_CFG_RESYNC_AUTO, 0), (F.PAIR_CFG_ORPHAN_START, 0), (F.PAIR_STAT_PRESENT, 0)];
      s.isActive = false ∧ s.role = roleUnsync ∧ s.shadowing = false ∧ s.pair.deciding = false ∧ s.pair.orphaned = false ∧
      s.on F.PAIR_STAT_PRESENT = false ∧ s.on F.PAIR_CFG_ORPHAN_START = false) ∧
    (let s := { paired roleSync roleActive with pair := { up.pair with witTick := some (paired 0 0).tick } };
      s.isStandby = true ∧ s.pair.witTick = some s.tick ∧ s.pair.hbLost = false) ∧
    (let s := { (paired roleSync roleActive).wr F.PAIR_STAT_HB_OK 0 with pair := { up.pair with missed := 1, hbLost := true } };
      s.role = roleSync ∧ s.pair.witTick ≠ some s.tick ∧ s.on F.PAIR_STAT_HB_OK = false ∧ 1 ≤ s.pair.missed ∧ s.pair.hbLost = true ∧
      s.on F.RESYNC_STAT_DETACHED = false ∧ s.rd F.EPOCH_SEEN < 0xFFFFFFFE) ∧
    (let s := starting false false 0; s.isActive = false ∧ s.partnerActs = false ∧ s.shadowing = false ∧ (paired roleSync roleActive).partnerActs = true) := by decide

/-- The next frame in order. -/
def inOrder : DtHdr := ⟨9, 3, 0, false⟩

/-- A synchronised standby with its own hash of cycle 4 of task 0, and one that waits for it. -/
def hashed : State := pairWith (paired roleSync roleActive) fun p => { p with ours := [⟨0, 4, 0, 0x77⟩] }
def lagging : State := pairWith (paired roleSync roleActive) fun p => { p with theirs := [⟨0, 4, 0, 0x77⟩] }

theorem witness_PairStream : hashed.Accepts inOrder ∧ hashed.shadowing = true ∧ hashed.InSync ∧ hashed.pair.theirs = [] ∧
    (∀ o ∈ lagging.pair.ours, ¬(o.task = 0 ∧ o.cycle = 4)) ∧ lagging.Accepts inOrder ∧ lagging.InSync ∧ (∃ x ∈ lagging.pair.theirs, x.task = 0 ∧ x.cycle = 4) ∧
    inOrder.seq < 11 ∧ 0 ≤ hashed.pair.acked ∧ 3 ≤ hashed.epoch := by
  unfold State.Accepts State.InSync; decide

/-- A standby that waits to try again, and an active that waits for its cutover point. -/
def retrying : State := pairWith (paired roleUnsync roleActive) fun p => { p with retryWait := true }
def cutting : State := pairWith (paired roleActive roleUnsync) fun p => { p with cutover := true }

/-- A standby whose resynchronisation stands in a phase, and one about to end it. -/
def resyncing (ph : Nat) : State := (paired roleUnsync roleActive).wr F.RESYNC_STAT_PHASE ph
def agreed : State := pairWith (resyncing 6) fun p => { p with agreed := List.range 32, agreeCnt := 1000, copyDone := true }

theorem witness_PairControl :
    (let s := paired roleActive roleSync; s.awake = true ∧ s.role = roleActive ∧ s.partnerRole = roleSync ∧ s.on F.DT_STAT_LINK_UP = true ∧
      s.pair.handover = none ∧ (s.wr F.PAIR_CFG_RINGDOWN_HO 1).on F.PAIR_CFG_RINGDOWN_HO = true ∧ s.on F.RING_STAT_LINK_A = false ∧
      s.on F.RING_STAT_LINK_B = false ∧ (s.pair.partner.map (·.linkA)) = some true ∧ s.isActive = true) ∧
    up.role ≠ roleActive ∧ up.role ≠ roleSync ∧ (paired roleActive roleUnsync).partnerRole ≠ roleSync ∧ (resyncing 4).rd F.RESYNC_STAT_ROUNDS < 8 ∧
    (let s := paired roleSync roleActive; s.on F.RESYNC_STAT_DETACHED = false ∧ s.pw.alvRun = true ∧ s.rd F.EPOCH_SEEN < 0xFFFFFFFE) := by decide

theorem witness_PairControl_frames : (paired roleActive roleSync).Accepts inOrder ∧ (paired roleSync roleActive).InSync ∧
    (paired roleSync roleActive).Accepts inOrder ∧ tried.isActive = true ∧ tried.ocPhase ≠ 0 ∧ tried.oc.trial = 1 ∧
    (∀ ph ∈ [1, 3, 4, 5], let s := resyncing ph; s.role = roleUnsync ∧ s.rd F.RESYNC_STAT_PHASE = ph ∧ s.Accepts inOrder) ∧
    (∀ ph ∈ [1, 3, 4, 5], let s := resyncing ph; s.pair.marking = false ∧ s.on F.DT_STAT_PROTO_OK = true) := by
  unfold State.Accepts State.InSync; decide

theorem witness_PairControl_resync : agreed.role = roleUnsync ∧ agreed.rd F.RESYNC_STAT_PHASE = 6 ∧
    (∀ v < 32, agreed.enabled v = true → v ∈ agreed.pair.agreed) ∧ 1000 ≤ agreed.pair.agreeCnt ∧ agreed.pair.copyDone = true ∧
    agreed.on F.HOLDUP_CHARGED = true ∧
    (let s := retrying; s.pair.retryWait = true ∧ s.mayResync = true ∧ s.budgetSpent = false) ∧
    (let s := cutting; s.role = roleActive ∧ s.pair.cutover = true ∧ s.quiet = true ∧ s.lp.halted = false) := by decide

/-! ## States that meet the hypotheses: the Mortise -/

/-- A configured run with single pulse train and KF 1000, and a parameter set with it. -/
def oneRun : RunParams := { noRun with configured := true, kf := 1000 }
def parSet : MrtParams := ⟨[oneRun, oneRun], [], 500, 60, false, [true, true, true, true]⟩

/-- A working Mortise with those parameters, a pulse in run 0 and flow. -/
def works : Mrt :=
  { (up.mrt) with
    powered := true, starting := false, par := parSet, clkValid := true, sealCnt := 4
    run0 := { a := 10, flowing := true, batch := 6, bGsv := 70, bMass := 80 } }

/-- A module with a Mortise, its link up. -/
def mort (m : Mrt) : State := { wrs up [(F.MB_STAT_LINK_OK, 1), (F.TIME_STAT_STATE, 2)] with mrt := m }

/-- The same with request CODE asked, REQ_ARG0 and REQ_ARG1. -/
def ask (m : Mrt) (code a0 a1 : Nat) : State :=
  wrs (mort m) [(F.REQ_RESP_STATE, 1), (F.REQ_RESP_CODE, code), (⟨W.REQ_ARG 0, 31, 0⟩, a0), (⟨W.REQ_ARG 1, 31, 0⟩, a1)]

/-- Proving in a state. -/
def proving (st : Nat) : Mrt := { works with prove := { st := st, mf := 12345 } }

theorem witness_MortiseMeasures : (let m := works; m.powered = true ∧ m.failed = false ∧ m.installing = false ∧ m.starting = false ∧ m.prove.busy = false ∧
      m.next = none ∧ (m.rp 0).configured = true ∧ (m.rp 0).twin = false ∧ (m.rp 0).trainB = false ∧ 0 < (m.rp 0).kf ∧
      (m.rp 0).kf ∣ (m.run 0).a * 10 ^ 9 * 2 ^ 32 ∧ (m.run 0).rIv < 2 ^ 32 ∧ (m.run 0).iv + (m.run 0).a * 10 ^ 9 / (m.rp 0).kf + 1 < 2 ^ 64 ∧
      m.clkValid = true ∧ m.sealOpen = false) ∧
    (let s := mort works; s.awake = true ∧ s.on F.FC_JIG_STAT_ARMED = false ∧ s.on F.MB_STAT_LINK_OK = true ∧ s.rd F.TIME_STAT_STATE = 2 ∧
      s.vn.started = false) ∧
    (proving 1).prove.st = 1 ∧ (proving 1).prove.busy = true ∧ (proving 2).prove.st = 2 ∧ (proving 2).prove.tB = none ∧
    State.reset.mrt.powered = false ∧ State.reset.mrt.recs.length < 64 := by decide

theorem witness_MortiseRequests : (ask works 1 0 5).refusal 1 true true false = 0 ∧ (ask works 1 1 5).refusal 1 true true false = 4 ∧
    (ask (proving 2) 2 0 0).refusal 2 false true false = 0 ∧ (proving 2).prove.busy = true ∧
    ((proving 3).prove.st = 3 ∧ (proving 3).prove.mf = 12345 ∧ (ask (proving 3) 3 0 12345).refusal 3 true true true = 0 ∧ (proving 3).next = none ∧
      0 < (proving 3).par.runs.length ∧ (proving 3).prove.run = 0) ∧
    ((ask works 4 0 0).refusal 4 true true false = 0 ∧ works.tickets.length < 64) ∧
    (∀ c ∈ [1, 2, 3, 4], let s := ask works c 1 5; s.mrt.powered = true ∧ s.rd F.REQ_RESP_STATE = 1 ∧ s.rd F.REQ_RESP_CODE = c ∧
      (s.word (W.REQ_ARG 0)).toNat = 1 ∧ (s.word (W.REQ_ARG 1)).toNat = 5) ∧ (mort works).rd F.REQ_RESP_STATE ≠ 1 := by decide

/-- The seal open with a parameter set staged that differs in two parameters. -/
def opened : Mrt := { works with sealOpen := true, staged := some { parSet with repeatLim := 600, detTimeoutS := 61 } }

theorem witness_MortiseRequests_seal : opened.powered = true ∧ opened.sealOpen = true ∧ opened.prove.busy = false ∧ opened.staged.isSome = true ∧
    (changesOf opened.par.flat ((opened.staged.getD parSet).flat)).length = 2 ∧ opened.audit.length + 2 ≤ 1024 ∧
    works.sealOpen = false ∧ works.sealCnt < 2 ^ 32 - 1 ∧
    (let s := { up with pw := { up.pw with phase := .loading }, upd := { up.upd with offered := true } }; s.upd.offered = true ∧ s.pw.phase = .loading) ∧
    ({ works with installing := true } : Mrt).audit.length < 1024 := by decide

/-- An audit trail that two more entries would overfill. -/
def fullAudit : Mrt := { opened with audit := List.replicate 1023 ⟨1, 0, 0, 0, 0, 0, 0⟩ }

theorem witness_MortiseRequests_full : 1024 < fullAudit.audit.length + 2 := by
  show 1024 < (List.replicate 1023 _).length + 2; rw [List.length_replicate]; decide

/-- A copy in FRAM whose stored CRC is that of its content, changed by `d`. -/
def framOf (seq : Nat) (d : Word) : Fram :=
  let c : Fram := { seq := seq, run0 := { iv := 7 }, run1 := { gsv := 9 }, tickets := [], recs := [], recSeq := 0, recLost := 0 }
  { c with crc := c.check ^^^ d }

/-- A Mortise that starts with these copies, one with a frame on its way, and one with records to send. -/
def startsWith (c0 c1 : Option Fram) : Mrt := { works with starting := true, fram0 := c0, fram1 := c1 }
def framed : State := mort { works with frame := some [(0x1410, 77#32), (W.MB_STAT, 5#32)] }
def withRecs : State := mort { works with recs := [[12, 1, 2, 3, 4, 5, 6, 7], [3]] }

theorem witness_MortiseMeasures_link : works.countsFrom ≤ (mort works).ns ∧ (mort works).ns < ({ works with countsFrom := 100 } : Mrt).countsFrom ∧
    (let s := framed; s.awake = true ∧ s.mrt.frame = some [(0x1410, 77#32), (W.MB_STAT, 5#32)] ∧
      ([(0x1410, 77#32), (W.MB_STAT, 5#32)].map Prod.fst).Nodup ∧ (∀ e ∈ [(0x1410, 77#32), (W.MB_STAT, 5#32)], e.1 ≠ W.REQ_RESP) ∧
      s.on F.FC_JIG_STAT_ARMED = false ∧ s.fc.conds.contains 32 = false) ∧
    (let s := withRecs; s.awake = true ∧ s.mrt.recs = [12, 1, 2, 3, 4, 5, 6, 7] :: [[3]] ∧ s.on F.MB_STAT_LINK_OK = true) ∧
    (∀ m ∈ [{ works with starting := true }, { works with installing := true }, { works with failed := true }], (m : Mrt).powered = true ∧
      ¬(m.powered = true ∧ m.failed = false ∧ m.installing = false ∧ m.starting = false)) ∧
    (mort { works with clk := 10 ^ 12 }).mrtTime ≠ (mort works).mrtTime ∧ ({ mort works with vn := { started := true } } : State).vn.started = true ∧
    (startsWith none none).starting = true ∧ (startsWith none none).fram0 = none ∧ (startsWith none none).fram1 = none := by decide

theorem witness_MortiseMeasures_copies : (framOf 2 0).crc ^^^ nth 0 ([] : List Word) 0 = (framOf 2 0).check ∧
    (framOf 1 0).seq ≤ (framOf 2 0).seq ∧ (framOf 2 1).crc ^^^ nth 0 ([] : List Word) 0 ≠ (framOf 2 1).check ∧
    (framOf 3 1).crc ^^^ nth 0 ([] : List Word) 1 ≠ (framOf 3 1).check ∧
    (startsWith (some (framOf 2 0)) (some (framOf 1 0))).fram1 = some (framOf 1 0) ∧
    (startsWith (some (framOf 2 1)) (some (framOf 3 1))).fram0 = some (framOf 2 1) := by
  have e : ∀ k d, (framOf k d).crc = (framOf k d).check ^^^ d := fun _ _ => rfl
  have n : ∀ x : Word, x ^^^ 1 ^^^ 0 ≠ x := by intro x h; have := congrArg (fun y : Word => y.getLsbD 0) h; simp at this
  refine ⟨by rw [e]; simp [nth], by decide, by rw [e]; exact n _, by rw [e]; exact n _, rfl, rfl⟩

/-- The same module with a session of METROLOGY rights. -/
def metro (s : State) : State := { s with plant := { s.plant with sessions := [(4, ⟨.metrology, false, 90, [90], 0⟩)] } }

theorem witness_MortiseRequests_path : (∀ m ∈ [works, opened], (metro (mort m)).awake = true ∧ (metro (mort m)).mrt = m ∧
      ∃ e ∈ (metro (mort m)).plant.sessions, e.2.rights = .metrology) ∧ ¬(∃ e ∈ (mort works).plant.sessions, e.2.rights = .metrology) ∧
    works.sealOpen = false ∧ ({ works with powered := false } : Mrt).powered = false ∧
    (let s : State := { mort opened with pw := { up.pw with phase := .loading }, upd := { up.upd with offered := true } }
     s.upd.offered = true ∧ s.pw.phase = .loading ∧ s.mrt.sealOpen = true ∧ s.mrt.audit.length < 1024 ∧ s.mrt.prove.busy = false) := by decide

theorem witness_MortiseRequests_noroom : ({ works with installing := true, audit := List.replicate 1024 ⟨1, 0, 0, 0, 0, 0, 0⟩ } : Mrt).installing = true ∧
    1024 ≤ ({ works with installing := true, audit := List.replicate 1024 ⟨1, 0, 0, 0, 0, 0, 0⟩ } : Mrt).audit.length := by
  refine ⟨rfl, ?_⟩; show 1024 ≤ (List.replicate 1024 _).length; rw [List.length_replicate]

/-! ## States that meet the hypotheses: field inputs and outputs -/

/-- A module whose DI channel 2, universal channel 5 and words are as given. -/
def fieldIn (d : DiSt) (x : UcSt) (l : List (Fld × Nat)) : State :=
  { wrs up l with lio := { up.lio with di := setNth d up.lio.di 2, uc := setNth x up.lio.uc 5 } }

theorem witness_FieldInputs :
    (let s := fieldIn {} {} [(F.DI_CFG_CNT_EN 2, 0), (F.DI_CFG_DEB_US 2, 0)]
     (s.diCh 2).level ≠ true ∧ s.on (F.DI_CFG_CNT_EN 2) = false ∧ s.rd (F.DI_CFG_DEB_US 2) = 0 ∧ (s.diCh 2).deb ≠ true ∧ s.lio.edges.length < 64) ∧
    (let s := fieldIn {} {} [(F.DI_CFG_CNT_EN 2, 0), (F.DI_CFG_DEB_US 2, 1000)]
     (s.diCh 2).level ≠ true ∧ s.on (F.DI_CFG_CNT_EN 2) = false ∧ s.rd (F.DI_CFG_DEB_US 2) ≠ 0 ∧ (s.diCh 2).changes + 1 < 16) ∧
    (let s := fieldIn {} {} [(F.DI_CFG_CNT_EN 2, 1)]; (s.diCh 2).level = false ∧ s.on (F.DI_CFG_CNT_EN 2) = true ∧ (s.diCh 2).lastRise = none) ∧
    (let s := fieldIn { waiting := true, deb := true } {} [(F.DI_CFG_WB_EN 2, 1), (F.DI_STUCK 2, 5000)]
     (s.diCh 2).waiting = true ∧ s.on (F.DI_CFG_WB_EN 2) = true ∧ s.bitOf F.DI_LIVE_WBRK 2 = false ∧ s.rd (F.DI_STUCK 2) ≠ 0 ∧ (s.diCh 2).deb = true ∧
       s.bitOf F.DI_LIVE_STUCK 2 = false ∧ s.awake = true ∧ s.on F.FC_JIG_STAT_ARMED = false ∧ s.lio.edges = []) := by decide

theorem witness_FieldInputs_uc : ((fieldIn {} { settling := true } []).ucCh 5).settling = true ∧
    (∀ m ∈ [1, 3, 11, 13], let x := (fieldIn {} { mode := m } [(F.UC_CFG_CJ_FIXED 5, 0)]).ucCh 5; x.mode = m ∧ x.settling = false ∧ x.opened = false ∧
      x.cjFail = false ∧ x.almLo = false) ∧ (fieldIn {} {} [(F.UC_CFG_CJ_FIXED 5, 0)]).on (F.UC_CFG_CJ_FIXED 5) = false ∧
    (-32768 : Int) ≤ -1 ∧ ({ up with lio := { up.lio with lossNs := some 0, missed := 2 } } : State).lio.lossNs.isSome = true ∧ up.lio.held = false := by decide

/-- Digital output 5 with its checks on, and the field side with a frame handed on. -/
def fieldOut : State :=
  { wrs up [(F.DO_CFG_OPEN_EN 5, 1), (F.DO_CFG_RB_CHK 5, 1)] with
    lio := { up.lio with doCmd := 32, everValid := true, out := some (List.replicate 24 0x21#8), fldOk := true } }

/-- A HART transaction of channel 3: its descriptor in ring 4 and the two request bytes in program data, and the channel waiting for its reply. -/
def hartDesc : List Byte := leBytes 8 0 ++ [3#8, 0#8, 2#8, 0#8] ++ leBytes 8 0 ++ leBytes 4 0x40 ++ List.replicate 40 0#8
def hartPosted : State :=
  { wrs up [(F.RNG_CI 4, 1)] with sr := { up.sr with slots := [(65536 * 4, hartDesc)], ready := [4] } }
def hartWaits (k : Nat) : State := { hartPosted with lio := { up.lio with hart := some (3, k, [1, 2]) } }

theorem witness_FieldOutputs : fieldOut.bitOf F.DO_LIVE_OFF 5 = false ∧ fieldOut.on (F.DO_CFG_OPEN_EN 5) = true ∧ fieldOut.lio.doCmd.testBit 5 = true ∧
    fieldOut.bitOf F.DO_LIVE_OPEN 5 = false ∧ fieldOut.on (F.DO_CFG_RB_CHK 5) = true ∧ fieldOut.bitOf F.DO_LIVE_MISMATCH 5 = false ∧
    fieldOut.awake = true ∧ fieldOut.lio.fldOk = true ∧ fieldOut.lio.everValid = true ∧ fieldOut.lio.failApplied = false ∧ fieldOut.pw.phase = .running ∧
    fieldOut.lio.out.isSome = true ∧ fieldOut.isActive = true ∧ fieldOut.upd.stopping = false ∧ (86400000#32).toNat % 2 ^ 27 ≤ 86400000 ∧
    86400000 < (86400001#32).toNat % 2 ^ 27 := by decide

theorem witness_FieldOutputs_hart : hartPosted.taken 4 = some hartDesc ∧ hartPosted.isActive = true ∧ hartPosted.sr.ready.contains 4 = true ∧
    dNat hartDesc 8 1 = 3 ∧ (hartPosted.dmaRead (dNat hartDesc 20 4) (dNat hartDesc 10 1)).1.isSome = true ∧
    (hartWaits 2).taken 4 = some hartDesc ∧ (hartWaits 2).lio.hart = some (3, 2, [1, 2]) ∧ (hartWaits 0).lio.hart = some (3, 0, [1, 2]) := by decide

theorem witness_FieldInputs_more : up.on F.FC_JIG_STAT_ARMED = false ∧
    (let s := fieldIn { changes := 15 } {} [(F.DI_CFG_CNT_EN 2, 0), (F.DI_CFG_DEB_US 2, 1000)]
     (s.diCh 2).level ≠ true ∧ s.on (F.DI_CFG_CNT_EN 2) = false ∧ s.rd (F.DI_CFG_DEB_US 2) ≠ 0 ∧ (s.diCh 2).changes = 15) ∧
    (let s := fieldIn { lastRise := some 0 } {} [(F.DI_CFG_CNT_EN 2, 1)]
     (s.diCh 2).level = false ∧ s.on (F.DI_CFG_CNT_EN 2) = true ∧ (s.diCh 2).lastRise = some 0 ∧ 9950 / 25 * 25 - 0 < 9975) ∧
    (fieldIn {} { mode := 13, cjFail := true } []).rd (F.UC_CFG_MODE 5) < 16 ∧ (3600000 : Int) ≤ 3600000 ∧ (21000000 : Int) ≤ 21000000 := by decide

/-- Output 5 with the field supply there; the field side in its fail values; and one that receives no OUTPUT record. -/
def supplied : State := { fieldOut with lio := { fieldOut.lio with fldMv := 15000 } }
def failedOut (good : Nat) : State := { fieldOut with lio := { fieldOut.lio with failApplied := true, fieldGood := good } }

theorem witness_FieldOutputs_more : 15000 ≤ supplied.lio.fldMv ∧ supplied.lio.doCmd.testBit 5 = true ∧ supplied.bitOf F.DO_LIVE_OFF 5 = false ∧
    fieldOut.lio.fldMv < 15000 ∧ 14999 < 15000 ∧ fieldOut.lio.out = some (List.replicate 24 0x21#8) ∧ fieldOut.drivesField = true ∧
    (fieldOut.wr F.MOD_STAT_ROLE roleUnsync).drivesField = false ∧ ((failedOut 7).lio.failApplied = true ∧ (failedOut 7).lio.fieldGood < 8) ∧
    (8 ≤ (failedOut 8).lio.fieldGood ∧ (failedOut 8).drivesField = true) := by decide

/-! ## States that meet the hypotheses: the ring, the plant ports and PTP -/

/-- A program with one station, and the active of a pair with both ring ports up that runs it. -/
def imgStn : Image := { img with stations := [⟨9, 77, 2, 4, 8, 8⟩] }
def ringed (l : List (Fld × Nat)) : State :=
  { wrs (paired roleActive roleSync) ([(F.SLOT_STAT_VALID, 1), (F.RING_STAT_LINK_A, 1), (F.RING_STAT_LINK_B, 1), (F.RING_STAT_RATE_A, 2), (F.RING_STAT_RATE_B, 2)] ++ l) with
    prog := some imgStn }

/-- The same with station 9 admitted and enabled. -/
def admitted9 : State := ringed [(F.STN_STAT_ADMITTED 9, 1), (F.STN_CFG_EN 9, 1)]

/-- A ring frame of a kind from station 9, and one from the other slot of the pair. -/
def from9 (kind : Nat) : RingHdr := ⟨9, false, false, 3, 4, 5, 7, true, true, 1, kind, true⟩
def fromPair : RingHdr := { from9 1 with src := 0xFFFF, slot := !(ringed []).inSlot2 }

/-- A HELLO of station 9 as the program declares it, and one of a tag it does not. -/
def helloOf (tag : Nat) : HelloBody := ⟨tag, 0xABC, 2, 4, 8, 8⟩

theorem witness_RingFrames : (let s := ringed []; let h := from9 3
      s.awake = true ∧ s.netUp = true ∧ h.valid = true ∧ s.ownFrame h = false ∧ h.epoch = s.epoch ∧ h.epoch ≤ s.rd F.EPOCH_SEEN ∧
      s.on F.RING_STAT_LINK_A = true ∧ s.on F.RING_STAT_LINK_B = true ∧ ({ h with fcsOk := false } : RingHdr).fcsOk = false ∧
      s.ownFrame { fromPair with slot := s.inSlot2 } = true ∧ ({ fromPair with slot := s.inSlot2 } : RingHdr).valid = true) ∧
    (let s := (paired roleSync roleActive); fromPair.src = 0xFFFF ∧ fromPair.slot ≠ s.inSlot2 ∧ s.isActive = false ∧ s.pair.deciding = false ∧
      s.pair.witTick = none) ∧
    (let s := admitted9; s.admitted (from9 3).src = true ∧ s.on (F.STN_CFG_EN (from9 3).src) = true ∧ (s.stn 9).inCycle = none) := by decide +kernel

theorem witness_RingFrames_first : (paired roleSync roleActive).RingFirst fromPair 1 ∧ admitted9.RingFirst (from9 3) 3 ∧ admitted9.RingFirst (from9 4) 4 ∧
    (ringed []).RingFirst (from9 8) 8 := by unfold State.RingFirst; refine ⟨?_, ?_, ?_, ?_⟩ <;> decide +kernel

theorem witness_RingFrames_hello : ((ringed []).ringTake (from9 8) 8).1 = true ∧
    (let s1 := ((ringed []).ringTake (from9 8) 8).2; s1.refuse ⟨77, 0xABC, 2, 4, 8, 8, 0⟩ = 0 ∧ s1.refuse ⟨78, 0xABC, 2, 4, 8, 8, 0⟩ ≠ 0) ∧
    ((ringed []).stnTable.find? (·.tag == 77)).map (·.n) = some 9 ∧ (ringed []).ring.reserve.length < 16 ∧ 0xABC ∉ (ringed []).ring.refused ∧
    (ringed []).ring.reserve = [] ∧ (ringed []).isActive = true := by decide +kernel

/-- A posted acyclic descriptor for station 9 in ring 0, and one in flight. -/
def acycDesc : List Byte := List.replicate 8 0#8 ++ leBytes 2 9 ++ List.replicate 54 0#8
def acycPosted : State := { admitted9.wr (F.RNG_CI 0) 1 with sr := { up.sr with slots := [(0, acycDesc)], ready := [0] } }
def acycFlies (k : Nat) : State := { acycPosted with ring := { up.ring with flight := [⟨6, 0, 9, acycDesc, [], k⟩] } }

theorem witness_RingFrames_acyc : (let s := acycPosted; s.awake = true ∧ s.taken 0 = some acycDesc ∧ s.isActive = true ∧ s.sr.ready.contains 0 = true ∧
      ringKind 0 = 1 ∧ s.admitted (dNat acycDesc 8 2) = true ∧ s.inFlight < 128 ∧
      (s.ring.flight.filter (fun (x : Acyc) => x.station == dNat acycDesc 8 2)).length < 4 ∧ dNat acycDesc 10 1 ≠ 2) ∧
    (acycFlies 0).ring.flight = [⟨6, 0, 9, acycDesc, [], 0⟩] ∧ (acycFlies 2).ring.flight = [⟨6, 0, 9, acycDesc, [], 2⟩] ∧
    F.RING_CFG_RC.get (up.word W.RING_CFG) = 20 ∧ F.RING_CFG_LOST_CYCLES.get (up.word W.RING_CFG) ≠ 0 ∧
    10 ≤ F.RING_CFG_ACYC_TMO.get (up.word W.RING_CFG) ∧ F.RING_CFG_ACYC_TMO.get (up.word W.RING_CFG) ≤ 10000 ∧ up.schedule none = [] ∧
    F.RING_CFG_RC.get 0 < 2 := by decide +kernel

theorem witness_RingFrames_rsp : (acycFlies 2).RingFirst (from9 6) 6 := by unfold State.RingFirst; decide +kernel

/-- A module with sessions, and a session. -/
def session (r : Rights) : Session := ⟨r, false, 90, [90], 0⟩
def inSession (l : List (Nat × Session)) : State := { up.wr F.PLANT_CFG_PAIR_EN 1 with plant := { up.plant with sessions := l, announces := 2 } }

theorem witness_PlantSessions : up.awake = true ∧ up.netUp = true ∧ 64 ≤ (inSession ((List.range 64).map (·, session .read))).plant.sessions.length ∧
    (inSession [(4, session .read)]).plant.sessions.length < 64 ∧ (up.wr F.PLANT_CFG_SES_EN 0).on F.PLANT_CFG_SES_EN = false ∧
    (let s := inSession [(4, session .operate)]; tfind s.plant.sessions 4 = some (session .operate) ∧ (session .operate).high < 91 + 64 ∧
      91 ∉ (session .operate).seen ∧ 90 ∈ (session .operate).seen ∧ [PlantOp.writeWord 0 0].all (fun o => o.permitted .operate) = false ∧
      s.opFits (.readData ⟨2, 0, 40⟩ 4) = true ∧ s.opFits (.writeData ⟨2, 0, 40⟩ [1, 2]) = true ∧ s.isActive = true ∧ s.noCycle = true ∧ s.sr.jobs = [] ∧
      verdict s.prot.active (memAccess 3 4 false ⟨2, 0, 40⟩ 4 false) = .allowed ∧ verdict s.prot.active (memAccess 3 4 true ⟨2, 0, 40⟩ 2 false) = .allowed ∧
      0 < s.plant.announces ∧ s.on F.PLANT_CFG_PAIR_EN = true ∧ (s.wr F.MOD_STAT_ROLE roleUnsync).isActive = false) := by decide

/-- A module that hears PTP on port 1, with its servo in a state. -/
def timed (l : List (Fld × Nat)) : State := wrs up ([(F.PTP_CFG_EN, 1), (F.PTP_CFG_PORT_LOCK, 0), (F.TIME_STAT_PORT, 0), (F.TIME_STAT_REF_SUSPECT, 0)] ++ l)

theorem witness_PtpClock : (let s := timed [(F.TIME_STAT_STEPPED, 0)]; s.ptpOn = true ∧ s.on F.TIME_STAT_PORT = false ∧ s.on F.PTP_CFG_PORT_LOCK = false ∧
      s.on F.TIME_STAT_STEPPED = false ∧ s.ptp.gm1 = none ∧ s.ptp.gm2 = none) ∧
    (∀ st ∈ [1, 2], let s := timed [(F.TIME_STAT_STEPPED, 1), (F.TIME_STAT_STATE, st)]; s.ptpOn = true ∧ s.on F.TIME_STAT_PORT = false ∧
      s.on F.PTP_CFG_PORT_LOCK = false ∧ s.on F.TIME_STAT_STEPPED = true ∧ s.rd F.TIME_STAT_STATE = st ∧ s.on F.TIME_STAT_REF_SUSPECT = false ∧
      s.on F.TIME_STAT_SLEWING = false) ∧ (1000 : Int).natAbs ≤ 1000 ∧ (1000000 : Int) < 2 ^ 31 - 1 := by decide

theorem witness_RingFrames_more : (let h : RingHdr := { from9 3 with rcrcOk := false }; h.fcsOk = true ∧ h.rcrcOk = false ∧ (ringed []).netUp = true ∧
      (ringed []).on F.RING_STAT_LINK_A = true) ∧ (0 : Nat) ≤ 3 ∧ fromPair.src = 0xFFFF ∧ (from9 6).src = 9 := by decide +kernel

/-- A module with one session and two banks of its program's versions. -/
def twoBanks : State := { inSession [(4, session .read)] with mram := { up.mram with areas := [some img, some img2] } }

theorem witness_PlantSessions_more : twoBanks.opFits (.readBank ⟨2, 0, 40⟩ 4) = true ∧ twoBanks.opFits (.readData ⟨2, 0, 40⟩ 4) = true ∧
    verdict twoBanks.prot.active (memAccess 3 4 false ⟨2, 0, 40⟩ 4 false) = .allowed ∧ tfind twoBanks.plant.sessions 7 = none ∧
    (session .read).high < 91 + 64 ∧ 91 ∉ (session .read).seen ∧ ¬(session .read).high < 26 + 64 ∧ 20 + 64 ≤ (session .read).high := by decide

theorem witness_PtpClock_more : (let s := timed [(F.TIME_STAT_STEPPED, 1), (F.TIME_STAT_STATE, 2)]
      s.ptp.gm1 = none ∧ s.ptp.gm2 = none ∧ s.rd F.TIME_STAT_STATE = 2 ∧ s.netUp = true ∧ s.awake = true) ∧
    (-2 ^ 31 : Int) ≤ -2147483648 ∧ (2147483647 : Int) < 2 ^ 31 := by decide

/-! ## States that meet the hypotheses: CAN and the Veneer -/

/-- A module whose CAN channel 1 has a mode, an error state and error counters, and buffers. -/
def canAt (mode es tec rc : Nat) (bufs : List (Nat × Buf)) : State :=
  { wrs up [(F.CH_STAT_MODE 1, mode), (F.CH_STAT_ESTATE 1, es), (F.ERR_CNT_TEC 1, tec), (F.ERR_CNT_REC 1, rc)] with can := { ch0 := {}, ch1 := { bufs := bufs } } }

theorem witness_CanChannels : (let s := { up with pw := { up.pw with doms := List.replicate 14 .off } }; s.awake = true ∧ s.canMode 1 = 0 ∧
      s.pw.phase ≠ .loader ∧ s.dom 11 = .off) ∧
    (canAt 1 0 0 0 []).canMode 1 = 1 ∧ (canAt 2 0 119 127 []).canMode 1 = 2 ∧ (canAt 2 0 119 127 []).rd (F.CH_STAT_ESTATE 1) = 0 ∧
    (canAt 2 0 119 127 []).rd (F.ERR_CNT_TEC 1) + 8 < 128 ∧ (canAt 2 0 119 127 []).rd (F.ERR_CNT_REC 1) < 128 ∧
    (canAt 2 0 127 119 []).rd (F.ERR_CNT_REC 1) < 120 ∧ (canAt 2 0 127 119 []).rd (F.ERR_CNT_TEC 1) < 128 ∧
    (∀ tec ∈ [120, 247], (canAt 2 0 tec 0 []).rd (F.ERR_CNT_TEC 1) = tec) ∧ (∀ tec ∈ [248, 255], (canAt 2 1 tec 0 []).rd (F.ERR_CNT_TEC 1) = tec) ∧
    (canAt 2 1 248 0 []).rd (F.CH_STAT_ESTATE 1) < 2 ∧ ((canAt 3 1 0 0 []).canMode 1 = 3 ∧ (canAt 3 1 0 0 []).rd (F.CH_STAT_ESTATE 1) < 2) ∧
    (canAt 2 2 0 0 []).rd (F.CH_STAT_ESTATE 1) = 2 ∧ ((canAt 2 2 0 0 []).wr (F.CH_CFG_AUTO_REC 1) 1).on (F.CH_CFG_AUTO_REC 1) = true ∧
    (canAt 2 3 0 0 []).rd (F.CH_STAT_ESTATE 1) = 3 ∧ (canAt 2 0 0 0 []).canOnBus 1 = true ∧ (canAt 2 0 0 0 []).on (F.CH_CFG_FD_EN 1) = false := by decide

/-- A buffer that receives identifier 0x123, one that sends it, and a frame. -/
def rxBuf : Buf := { cfg := 0x80000000#32, id := 0x123, mask := 0x7FF }
def txBuf : Buf := { cfg := 0xC0000002#32, id := 0x123, data := [1, 2] ++ List.replicate 62 0#8, pend := true }
def frame123 (rtr : Bool) : CanFrame := ⟨0x123, false, false, false, false, rtr, 2, [7, 8]⟩

theorem witness_CanBuffers :
    (let s := canAt 2 0 100 0 [(3, rxBuf), (5, txBuf)]; s.canOnBus 1 = true ∧ (frame123 false).fdf = false ∧ s.rd (F.ERR_CNT_REC 1) = 0 ∧
      (List.range 64).find? (fun k => (s.canBuf 1 k).accepts (frame123 false)) = some 3 ∧ bRING.get (s.canBuf 1 3).cfg ≠ 1 ∧ s.canMode 1 = 2 ∧
      s.canNext 1 = some 5 ∧ s.rd (F.ERR_CNT_TEC 1) ≤ 128 ∧ s.winSel 1 2 = 0 ∧ s.canNext 1 ≠ some (s.winSel 1 2)) ∧
    (let s := canAt 2 0 100 0 []; (List.range 64).find? (fun k => (s.canBuf 1 k).accepts (frame123 false)) = none) ∧ (frame123 true).rtr = true ∧
    (let y := (canAt 2 0 0 0 [(0, { txBuf with pend := false })]).canBuf 1 0; bDIR.get y.cfg = 1 ∧ bEN.get y.cfg = 1 ∧ bFDF.get y.cfg = 0 ∧
      bBRS.get y.cfg = 0 ∧ y.pend = false) ∧ bDIR.get rxBuf.cfg = 0 ∧
    (canAt 2 0 0 0 [(0, txBuf)]).canNext 1 = some ((canAt 2 0 0 0 [(0, txBuf)]).winSel 1 2) ∧ (63#32).toNat ≤ 63 ∧ 63 < (64#32).toNat ∧
    up.on (F.CH_CFG_EN 1) = false ∧ nbtBad (up.word (W.NBT 1)) = false ∧ nbtBad 0 = true := by decide

/-- A started Veneer with rows 7 and 8 to rewrite, at 25 °C. -/
def veneer (v : Veneer) : State := { up.wr F.VN_STAT_BAND 4 with vn := v }
def shown : Veneer := { started := true, temp := some 2500, checked := true, rewrite := [7, 8] }
def updating (done : Nat) (late : Bool) : Veneer := { shown with updating := true, pairOn := true, mask := [7, 8], total := 5, done := done, late := late }
def vrec (p : Bool) (cur : Tab (List Nat)) : VnRec :=
  let r : VnRec := { seq := 1, inProgress := p, mask := [7], band := 1, pairs := 2, cur := cur }
  { r with crc := r.crc32 }
def recorded (p : Bool) (cur : Tab (List Nat)) : State := { up with mram := { up.mram with vnRecA := some (vrec p cur) } }

theorem witness_VeneerDisplay : up.awake = true ∧ (let v := shown; v.started = true ∧ v.temp = some 2500 ∧ v.updating = false ∧ v.checked = true ∧
      v.stopped = false ∧ v.nextMask ≠ [] ∧ v.clearing = 0) ∧
    (let v := updating 2 false; v.updating = true ∧ v.pairOn = true ∧ (veneer v).pw.phase ≠ .powerFail ∧ v.done + 1 < v.total ∧ v.stopped = false ∧
      v.tempOut = false ∧ v.late = false) ∧ (let v := updating 4 false; v.total ≤ v.done + 1 ∧ v.mask.length ≤ 300 ∧ v.total ≤ 32) ∧
    (veneer { updating 2 false with temp := some 9000 }).vnTempOut = true ∧ ({ updating 2 false with tempOut := true } : Veneer).tempOut = true ∧
    ((updating 2 true).late = true ∧ (updating 2 true).tempOut = false) ∧ shown.driveBad = false ∧ shown.endNs = none ∧
    ({ shown with driveBad := true } : Veneer).driveBad = true ∧ (0 : Nat) + 100 * 1000000 ≤ ({ up with ns := 100000000 } : State).ns ∧
    ({ updating 2 false with clearing := 2 } : Veneer).clearing = 2 ∧
    up.on F.FC_JIG_STAT_ARMED = false ∧ (up.wr F.VN_CFG_FULL_EVERY 4).rd F.VN_CFG_FULL_EVERY ≠ 0 ∧ up.vn.started = false ∧
    up.vnRec = none ∧
    (let v := { shown with clearing := 1 }; v.clearing = 1 ∧ v.offer = none ∧ v.updating = false) := by decide

theorem witness_VeneerDisplay_rec : (recorded true []).vnRec = some (vrec true []) ∧ (vrec true []).inProgress = true ∧ (recorded false []).vn.started = false ∧
    (recorded false []).vnRec = some (vrec false []) ∧ (vrec false []).inProgress = false ∧ (vrec false []).cur = (recorded false []).mram.vnMirror ∧
    (recorded false [(7, [1])]).vnRec = some (vrec false [(7, [1])]) ∧ (vrec false [(7, [1])]).cur ≠ (recorded false [(7, [1])]).mram.vnMirror := by decide +kernel

theorem witness_VeneerDisplay_crc : shown.tempBad = false ∧ (veneer shown).vnCrcCur + 1 ≠ (veneer shown).vnCrcCur := by
  refine ⟨by decide, ?_⟩
  intro h; exact absurd h (by simp)

theorem witness_CanChannels_more : (canAt 1 0 0 0 []).dom 11 = .run ∧ up.dom 11 = .run ∧ up.canMode 1 = 0 ∧ up.pw.phase ≠ .loader ∧
    (canAt 2 0 119 127 []).rd (F.ERR_CNT_REC 1) = 127 ∧ (canAt 3 1 0 0 []).canMode 1 = 3 ∧ (canAt 2 2 0 0 []).rd (F.CH_STAT_ESTATE 1) = 2 := by decide

/-- A buffer that a ring takes over, on a module whose program has no ring 17. -/
def ringBuf : Buf := { rxBuf with cfg := rxBuf.cfg ||| bRING.set 0 1 }
def noRing (s : State) : State := { s with prog := some { img with rings := [] } }

theorem witness_CanBuffers_more : (let s := canAt 2 0 100 0 [(3, ringBuf)]; s.canOnBus 1 = true ∧ bRING.get (s.canBuf 1 3).cfg = 1 ∧
      (List.range 64).find? (fun k => (s.canBuf 1 k).accepts (frame123 false)) = some 3 ∧ (s.wr F.MOD_STAT_ROLE roleUnsync).isActive = false ∧
      (noRing s).isActive = true ∧ (noRing s).ringDecl 17 = none ∧ (noRing s).canOnBus 1 = true) ∧
    (canAt 2 0 0 0 [(0, { rxBuf with seq := 9 })]).winSel 1 2 = 0 ∧ (up.wr (F.CH_CFG_EN 1) 1).on (F.CH_CFG_EN 1) = true ∧
    (up.wr (F.CH_CFG_SAM 1) 1).on (F.CH_CFG_SAM 1) = true := by decide

/-! ## States that meet the hypotheses: protection, faults, the recorder -/

/-- A rule set of master 3: area S readable only from 0x0010 to 0x001F, M writable not at all from 8 to 15, and a module with it. -/
def ruled : State :=
  { up with prot := { staged := [(192, 0x8E000000#32), (193, 0x001F0010#32)], active := [(192, 0xCE000000#32), (193, 0x001F0010#32)] } }

theorem witness_ProtectionUnit : (let a := sysAccess 3 0 true 0x1400 false; a.write = true ∧ a.area = 7 ∧ a.first = 0x1400 ∧ a.last = 0x1400) ∧
    (let a := sysAccess 3 0 true 0x1FFF false; a.first = 0x1FFF ∧ a.last = 0x1FFF ∧ a.master ≠ 0) ∧
    (let a := sysAccess 3 0 true 0x15 false; hardRule a = none ∧ ruleCovers a (ruleOf ruled.prot.active 3 0) = true ∧
      ruleTouches a (ruleOf ruled.prot.active 3 0) = true ∧ ruleStraddles a (ruleOf ruled.prot.active 3 0) = false ∧
      verdict ruled.prot.active a = .denied 0) ∧
    (let a := sysAccess 3 0 true 0x25 false; hardRule a = none ∧
      ∀ k < 32, ruleCovers a (ruleOf ruled.prot.active 3 k) = true → ruleTouches a (ruleOf ruled.prot.active 3 k) = false) ∧
    (let a : Access := { sysAccess 3 0 true 0x0F false with last := 0x10 }; hardRule a = none ∧ ruleCovers a (ruleOf ruled.prot.active 3 0) = true ∧
      ruleStraddles a (ruleOf ruled.prot.active 3 0) = true) := by decide +kernel

theorem witness_ProtectionUnit_words : ruled.awake = true ∧ (0x8E000000#32 &&& 0x01FF0000#32) = 0#32 ∧ ruleBad 0x8E000000 0x001F0010 = false ∧
    ruleBad 0x8E000000 0x0010001F = true ∧ (4#32).toNat ≤ 4 ∧ 4 < F.PR_MSEL.get 5#32 ∧
    verdict ruled.prot.active (sysAccess 3 6 true (W.VN_TAG 5) false) = .allowed ∧ verdict ruled.prot.active (sysAccess 3 6 true 0x10 false) = .denied 0 ∧
    (ruled.setRt 1 { waitEpoch := some 3 }).rt 1 = { waitEpoch := some 3 } ∧ ruled.on F.PR_STAT_FIRST_VIOL = false := by decide +kernel

theorem witness_FaultFires : up.Calm ∧ up.on F.FC_JIG_STAT_ARMED = false ∧ up.fc.stack = [] ∧ up.rd F.FC_CFG_FAULT_TASK = 0x7F ∧ up.awake = true ∧
    up.recd.staging.length < 8191 ∧ tget (0, 0, 0) up.recd.rates (0x100 + 63) = (0, 0, 0) ∧
    (∀ l, up.rateLimit (0x100 + 63) = some l → 0 < l) ∧ up.reaction 63 ≤ 1 := by
  refine ⟨by unfold State.Calm State.Settled; decide, by decide, by decide, by decide, by decide, by decide, by decide, ?_, by decide⟩
  intro l h; have e : up.rateLimit (0x100 + 63) = some 20 := by decide
  rw [e] at h; cases h; decide

/-- A handling of a class on the collector's stack. -/
def handled (cls : Nat) (ended : Bool) : State := { up with fc := { up.fc with stack := [⟨cls, 30, 40, 1, ended⟩] } }

/-- A firing of source 30, and a module where its reaction is 4. -/
def firing : Raise := ⟨30, 0, 0, 0, false, false⟩
def react4 : State := up.setWord (W.FC_REACT 3) 0x04000000#32

theorem witness_FaultCollector : (up.pw.phase ≠ .safeHold ∧ up.pw.phase ≠ .powerFail ∧ up.isActive = true ∧ firing.jig = false ∧ up.fc.resetWindow = false) ∧
    up.reaction 30 ≠ 4 ∧ react4.reaction 30 = 4 ∧ react4.on F.FC_STAT_TRAP = false ∧ (react4.wr F.FC_STAT_TRAP 1).on F.FC_STAT_TRAP = true ∧
    (handled 2 false).fc.stack = [⟨2, 30, 40, 1, false⟩] ∧ nests 4 = true ∧ (handled 2 true).fc.queue = [] ∧
    up.fcTaskBad 0x7F = false ∧ up.fcTaskBad 40 = false ∧ up.fcTaskBad 41 = true ∧ F.FC_CFG_FAULT_TASK.get 0x28007F#32 = 0x7F ∧
    F.FC_CFG_TRAP_TASK.get 0x28007F#32 = 40 ∧ up.on F.FC_JIG_STAT_ARMED = false ∧ up.role ≠ roleLoader ∧ F.FC_JIG_CHECKER.get 0x00010001#32 ≠ 0 ∧
    F.FC_JIG_COUNT.get 0x00010101#32 ≠ 0 ∧ State.reset.role = roleLoader := by decide +kernel

/-- The recorder with a rate count of a code: written and suppressed. -/
def rated (x : Nat) : State := { up with recd := { up.recd with rates := [(0x8001, 20, x, 7)] } }

theorem witness_EventRecorder : up.awake = true ∧ up.on F.REC_STAT_FROZEN = false ∧ up.recd.lost = 0 ∧ (up.wr F.REC_STAT_FROZEN 1).on F.REC_STAT_FROZEN = true ∧
    (rated 3).recd.rates = [(0x8001, 20, 3, 7)] ∧ (rated 0).recd.rates = [(0x8001, 20, 0, 7)] ∧ up.recd.staging.length < 8191 ∧
    (0x8000#32).toNat < 2 ^ 16 ∧ up.rateLimit 0x8000 = some 20 ∧ (tget (0, 0, 0) up.recd.rates 0x8000).1 < 20 := by decide

theorem witness_FaultCollector_more : (13 : Nat) ≠ 14 ∧ (63 : Nat) ≠ 15 ∧ F.FC_JIG_CHECKER.get 0x00000001#32 = 0 ∧ F.FC_JIG_COUNT.get 0x00010000#32 = 0 ∧
    F.PR_MSEL.get 4#32 ≤ 4 ∧ ({ react4 with fc := { up.fc with resetWindow := true } } : State).fc.resetWindow = true ∧
    (handled 2 true).fc.stack = [⟨2, 30, 40, 1, true⟩] := by decide +kernel

/-! ## States that meet the hypotheses: system rings, firmware, the bench port, power -/

/-- Ring `r` of the active with one descriptor posted, whose fields are given as (offset, bytes). -/
def descOf (kind : Nat) (l : List (Nat × List Byte)) : List Byte :=
  l.foldl (fun d e => d.take e.1 ++ e.2 ++ d.drop (e.1 + e.2.length)) (leBytes 1 kind ++ List.replicate 31 0#8)
def postedOn (r : Nat) (d : List Byte) : State :=
  { wrs up [(F.RNG_PI r, 1), (F.UC_CFG_HART_EN 3, 1)] with
    sr := { up.sr with slots := [(65536 * r, d)] }
    sch := { up.sch with tasks := [(0, { st := .cycle })] }
    plant := { up.plant with sessions := [(4, session .read)] } }
def acycD : List Byte := descOf 1 [(8, leBytes 2 9), (10, [1]), (16, leBytes 2 4), (20, leBytes 4 64)]
def hartD : List Byte := descOf 2 [(8, [3]), (10, [2]), (12, leBytes 2 40), (20, leBytes 4 64), (24, leBytes 4 128)]
def histD : List Byte := descOf 3 [(8, leBytes 4 0), (12, leBytes 2 8), (20, leBytes 4 64)]
def messD : List Byte := descOf 4 [(8, leBytes 2 4), (10, leBytes 2 3), (20, leBytes 4 64)]

theorem witness_RingsAndCrc : ∀ e ∈ [(0, acycD, true), (0, hartD, false), (4, hartD, true), (5, histD, true), (6, messD, true)],
    let s := postedOn e.1 e.2.1; s.awake = true ∧ s.isActive = true ∧ ringPosted e.1 = true ∧ s.ringCi e.1 = s.ringDi e.1 ∧ s.ringCi e.1 ≠ s.ringPi e.1 ∧
      tget [] s.sr.slots (65536 * e.1 + s.ringCi e.1) = e.2.1 ∧ s.dGood e.1 e.2.1 = e.2.2 ∧ s.noCycle = false ∧
      (e.1 = 4 → s.on (F.UC_CFG_HART_EN (dNat e.2.1 8 1)) = true) ∧ (e.1 = 6 → (tfind s.plant.sessions (dNat e.2.1 8 2)).isSome = true ∧
        dNat e.2.1 8 2 ≠ 0xFFFF ∧ 1 ≤ dNat e.2.1 10 2 ∧
        verdict s.prot.active (memAccess 2 0 false (dLoc (dNat e.2.1 20 4)) (dNat e.2.1 10 2) false) = .allowed) := by decide +kernel

/-- A message of ring 6 on its way, and a delivered ring with records. -/
def messSent : State := { (postedOn 6 messD).wr (F.RNG_CI 6) 1 with sr := { up.sr with slots := [(65536 * 6, messD)], message := some ([4], 0) } }
def delivered : State := wrs up [(F.RNG_PI 16, 5), (F.RNG_CI 16, 2)]

theorem witness_RingsAndCrc_more : messSent.sr.message = some ([4], 0) ∧ messSent.taken 6 = some messD ∧ messSent.noCycle = false ∧ ringDelivered 16 = true ∧
    ((5#32).toNat + 65536 - delivered.ringCi 16) % 65536 ≤ (delivered.ringPi 16 + 65536 - delivered.ringCi 16) % 65536 ∧
    ¬((6#32).toNat + 65536 - delivered.ringCi 16) % 65536 ≤ (delivered.ringPi 16 + 65536 - delivered.ringCi 16) % 65536 ∧
    up.sr.feeds.length < 256 ∧ up.sr.feeds = [] ∧
    ({ up.sr with feeds := [.bytes 7 (leBytes 1 (0x31#32).toNat)] } : SysRings).feeds = .bytes 7 (leBytes 1 (0x31#32).toNat) :: [] := by decide +kernel

/-- A module in the loader that holds an update, and one whose boot check comes. -/
def updates (m : Manifest) : State := { up with pw := { up.pw with phase := .loader }, upd := { up.upd with target := some m } }
def boots (g : Nat) (origin : Nat) (offered : Bool) (m : Option Manifest) : State :=
  { up with
    pw := { up.pw with phase := .loading }
    upd := { up.upd.putGlue ⟨g, origin, 1, factorySet.crc⟩ with offered := offered, manifest := m } }

/-- The factory set with another version of part 2. -/
def newSet : Manifest := { factorySet with entries := factorySet.entries.map fun (e : ManifestEntry) => if e.part = 2 then { e with length := 64 } else e }

theorem witness_FirmwareUpdate : up.awake = true ∧ up.netUp = true ∧ factorySet.formatOk = true ∧ up.partnerUnfit factorySet = false ∧
    ({ factorySet with format := 2 } : Manifest).formatOk = false ∧
    ((updates newSet).pw.phase = .loader ∧ (updates newSet).pair.cloning = false ∧ 64 ≤ slotSize 2 ∧ slotSize 2 ≠ 0 ∧
      ({ updates newSet with upd := { (updates newSet).upd with slots := tput 2 (63, 0) up.upd.slots } } : State).partsLeft newSet ≠ [] ∧
      ({ updates newSet with upd := { (updates newSet).upd with slots := tput 2 (64, 0) up.upd.slots } } : State).partsLeft newSet = []) ∧
    (∀ g ∈ [1, 2, 3], (boots g 0 false (some factorySet)).pw.phase = .loading ∧ (boots g 0 false (some factorySet)).upd.offered = false) ∧
    (boots 2 0 true none).upd.offered = true ∧ (boots 2 0 false none).upd.manifest = none := by decide +kernel

/-- Checks 2 to 4 of the factory set: its CRC is the Glue-up record's, and every slot holds its part. The signature's validity is a free value. -/
theorem witness_FirmwareUpdate_crc : factorySet.crc = (boots 2 0 false (some factorySet)).upd.glue.crc ∧ factorySet.crc ≠ factorySet.crc + 1 :=
  by
  unfold boots
  generalize factorySet.crc = c
  generalize some factorySet = m
  refine ⟨?_, fun h => absurd h (by simp)⟩
  have e : ∀ (u : Upd) x y, ({ u with offered := x, manifest := y } : Upd).glue = u.glue := fun _ _ _ => rfl
  show c = ({ up.upd.putGlue ⟨2, 0, 1, c⟩ with offered := false, manifest := m } : Upd).glue.crc
  rw [e, Laws.putGlue_glue]

theorem witness_FirmwareUpdate_boot : (∀ e ∈ factorySet.entries, (boots 2 0 false (some factorySet)).slotHolds e = true) ∧
    (boots 2 0 false (some factorySet)).upd.mrtDigest = (boots 2 0 false (some factorySet)).upd.mrtFw ∧
    (newSet.entries.find? (fun e => !(boots 2 0 false (some newSet)).slotHolds e)).map (·.part) = some 2 := by decide +kernel

/-- A loader that asks its partner for a set, and the healthy partner of such a loader. -/
def wantsClone : State :=
  { wrs (paired roleLoader roleActive) [(F.SLOT_STAT_VALID, 1), (F.PAIR_STAT_PRESENT, 1)] with
    pw := { up.pw with phase := .loader }, upd := { up.upd with failReason := 3 }
    pair := { up.pair with partner := some { hbOf roleActive with glue := 3 } } }
def givesClone : State := (paired roleActive roleLoader).wr F.PAIR_STAT_PRESENT 1

theorem witness_FirmwareUpdate_clone : (let s := wantsClone; s.pw.phase = .loader ∧ s.on F.SLOT_STAT_VALID = true ∧ s.upd.failReason ≠ 0 ∧ s.upd.target = none ∧
      s.pair.cloning = false ∧ s.upd.cloneFails < 3 ∧ s.cloneSource = true) ∧
    (let s := givesClone; s.awake = true ∧ s.pw.phase ≠ .loader ∧ s.on F.DT_STAT_LINK_UP = true ∧ s.on F.PAIR_STAT_PRESENT = true ∧
      s.partnerRole = roleLoader ∧ s.upd.glue.state = 3 ∧ s.upd.manifest = some factorySet) ∧
    (up.upd.stopping = false ∧ up.role = roleSolo ∧ up.ocPhase = 0 ∧ givesClone.role ≠ roleSolo ∧ (paired roleUnsync roleActive).role ≠ roleActive) ∧
    ({ up with upd := { up.upd with stopping := true } } : State).upd.stopping = true := by decide +kernel

/-- A bench session at a lock level. -/
def bench (lock : Nat) : State := { wrs up [(F.BENCH_STAT_SESSION, 1), (F.BENCH_STAT_LOCK, lock)] with upd := { up.upd with lock := lock } }
def benchHalted : State := { bench 0 with lp := { up.lp with halted := true }, sch := { up.sch with running := some 0 } }

theorem witness_BenchPort : up.on F.BENCH_STAT_SESSION = false ∧ (∀ l ∈ [0, 1, 2], (bench l).on F.BENCH_STAT_SESSION = true ∧
      (bench l).rd F.BENCH_STAT_LOCK = l ∧ (bench l).upd.lock = l) ∧
    (let a := 2 * 2 ^ 44 + 40; (bench 0).benchFits (benchLoc a) = true ∧ verdict up.prot.active (memAccess 4 0 true (benchLoc a) 4 false) = .allowed ∧
      verdict up.prot.active (memAccess 4 0 false (benchLoc a) 4 false) = .allowed ∧
      verdict [(256, 0x84000000#32), (257, 0xFFFF0000#32)] (memAccess 4 0 true (benchLoc a) 4 false) ≠ .allowed) ∧
    (bench 0).haltRefusal = none ∧ (bench 0).lp.halted = false ∧ (bench 0).lp.win = none ∧ ((bench 0).wr F.MOD_STAT_ROLE roleActive).role = roleActive ∧
    benchHalted.lp.halted = true ∧ benchHalted.sch.running.isSome = true ∧ benchHalted.sch.held = [] ∧ (bench 2).role ≠ roleLoader ∧
    ((bench 2).wr F.MOD_STAT_ROLE roleLoader).role = roleLoader := by decide +kernel

/-- A module one of whose clock domains has a mode. -/
def domAt (d : Nat) (m : DomMode) : State := up.setDom d m

theorem witness_SupervisorAndClocks : up.awake = true ∧ up.dom 7 = .run ∧ (∀ m ∈ [DomMode.gated, .parked, .off, .startingGated, .startingParked, .run],
      (domAt 4 m).dom 4 = m ∧ (domAt 4 m).awake = true) ∧ (domBound 4).isSome = true ∧ (domAt 4 .run).domBusy 4 = false ∧
    (100 : Nat) < (-101 : Int).natAbs ∧ (100 : Int).natAbs ≤ 100 ∧
    ((domAt 4 .run).setWord W.DOM_PARK 0xFFF#32).word W.DOM_PARK = 0xFFF#32 := by decide +kernel

/-- The module without power, with feeds, and a phase of it. -/
def fed : State := wrs State.reset [(F.SLOT_STAT_VALID, 1), (F.FEED_A_MV, 24000)]
def inPhase (p : Phase) : State := { up with pw := { up.pw with phase := p }, mram := { up.mram with areas := [some img, none] } }
def failing (step : Nat) (pair : Bool) : State := { up with pw := { up.pw with phase := .powerFail, pfStep := step }, vn := { up.vn with pairOn := pair } }

theorem witness_PowerUpAndDown : fed.pw.phase = .held ∧ fed.pw.kind ≠ 5 ∧ fed.pw.kind < 6 ∧ fed.on F.SLOT_STAT_VALID = true ∧ 19200 ≤ fed.rd F.FEED_A_MV ∧
    3 / 2 ≠ 5 ∧ 3 / 2 ≠ 7 ∧ up.awake = true ∧ up.pw.phase = .running ∧ up.ocPhase = 0 ∧ up.pw.tasksBegan = true ∧
    (∀ k ∈ [1, 2, 3, 5], (failing k true).pw.phase = .powerFail ∧ (failing k true).pw.pfStep = k ∧ (failing k true).pw.pfEarly = false ∧
      (failing k true).vn.pairOn = true) ∧ tfind (inSession [(4, session .engineer)]).plant.sessions 4 = some (session .engineer) ∧
    (bench 0).on F.BENCH_STAT_SESSION = true ∧ (inPhase .checked).pw.phase = .checked ∧
    nth none (inPhase .checked).mram.areas (inPhase .checked).mram.area = some img := by decide +kernel

/-- A module about to start its program warm, and one whose start task runs. -/
def readied : State := { (inPhase .ready).wr F.HOLDUP_CHARGED 1 with pair := { up.pair with startMode := 1 } }
def starts : State := { up.wr F.SCH_STAT_STATE 1 with sch := { up.sch with tasks := [(96, { st := .cycle })] } }

theorem witness_PowerUpAndDown_start : readied.pw.phase = .ready ∧ readied.on F.HOLDUP_CHARGED = true ∧ readied.isActive = true ∧ readied.prog = some img ∧
    readied.pair.startMode = 1 ∧ readied.declared 96 = false ∧ (readied.wr F.MOD_STAT_ROLE roleSync).isActive = false ∧
    starts.rd F.SCH_STAT_STATE = 1 ∧ starts.sch.tasks.find? (fun (e : Nat × TaskRt) => isStart e.1 && e.2.st == .cycle) = some (96, { st := .cycle }) ∧
    up.prog = some img ∧ ({ up.pw with alvArmed := true } : Power).alvArmed = true := by decide +kernel

/-- The same with an ENGINEER session open. -/
def engineered (s : State) : State := { s with plant := { s.plant with sessions := engineers } }

theorem witness_FirmwareUpdate_sessions : (engineered up).engineerOpen = true ∧ up.engineerOpen = false ∧ (engineered up).awake = true ∧ (engineered up).netUp = true ∧
    (engineered (updates newSet)).engineerOpen = true ∧ (engineered up).role = roleSolo ∧ (engineered up).upd.stopping = false ∧
    (engineered givesClone).role = roleActive ∧ (engineered givesClone).pair.ptnDetached = false ∧ (engineered givesClone).on F.PAIR_STAT_PRESENT = true ∧
    ((engineered givesClone).wr F.PAIR_STAT_PRESENT 0).on F.PAIR_STAT_PRESENT = false ∧ givesClone.dtMute = false := by decide +kernel

theorem witness_FirmwareUpdate_mortise : (let s : State := { boots 2 0 true (some factorySet) with mrt := opened }
      s.upd.offered = true ∧ s.pw.phase = .loading ∧ s.mrt.works = true ∧ s.mrt.sealOpen = true ∧ s.mrt.audit.length < 1024 ∧ s.mrt.prove.busy = false) ∧
    (boots 2 0 true (some factorySet)).mrt.works = false := by decide +kernel

theorem witness_BenchPort_more : (bench 0).noCycle = true ∧ (bench 0).sr.jobs = [] ∧ (bench 0).benchFits (benchLoc (10 * 2 ^ 44 + 40)) = false ∧
    8 ≤ (benchLoc (10 * 2 ^ 44 + 40)).area ∧ (let k : Loc := { benchLoc (10 * 2 ^ 44 + 40) with area := 2 }; (bench 0).benchFits k = true ∧
      verdict (bench 0).prot.active (memAccess 4 0 false k 4 false) = .allowed) ∧
    (let s : State := { bench 0 with sch := { up.sch with tasks := [(0, { st := .cycle })], running := some 0 } }
     s.noCycle = false ∧ s.lp.halted = false ∧ s.haltRefusal = none ∧ s.lp.win = none ∧ (s.rt 0).owed = false) ∧
    (let s : State := { due 2 with words := (bench 0).words }; s.lp.win.isSome = true ∧ s.haltRefusal = none ∧ s.on F.BENCH_STAT_SESSION = true) ∧
    (engineered (bench 1)).engineerOpen = true ∧ (engineered (bench 1)).upd.lock = 1 ∧ (engineered (bench 2)).role ≠ roleLoader ∧
    benchOpenWord (W.BENCH_STAT) = true ∧ benchOpenWord 0x42 = false := by decide +kernel

/-- Conditions that the collector holds, and a hold-up measurement in progress. -/
def holds (l : List Nat) : State := { up with fc := { up.fc with conds := l } }

theorem witness_SupervisorAndClocks_more : up.pw.phase ≠ .powerFail ∧ up.pw.phase ≠ .aonOnly ∧ up.on F.HOLDUP_TESTING = false ∧
    (up.wr F.HOLDUP_TESTING 1).on F.HOLDUP_TESTING = true ∧ 206 ∉ (holds [106]).fc.conds ∧ 106 ∈ (holds [106]).fc.conds ∧ 106 ∉ up.fc.conds ∧
    (∀ e ∈ (domAt 6 .off).sch.tasks, e.2.ending = false) ∧ ({ domAt 6 .off with lp := { up.lp with waiting := some 6 } } : State).lp.waiting = some 6 ∧
    up.lp.waiting ≠ some 6 ∧ (up.wr (F.CH_CFG_EN 0) 1).on (F.CH_CFG_EN 0) = true ∧ up.on (F.CH_CFG_EN 0) = false ∧ up.on (F.CH_CFG_EN 1) = false ∧
    (domBound 4).isSome = true ∧ (domBound 6).isSome = true := by decide +kernel

theorem witness_PowerUpAndDown_more : fed.fed = true ∧ (failing 4 true).pw.pfStep = 4 ∧ (failing 4 true).vn.pairOn = true ∧ (failing 3 true).pw.pfEarly = false ∧
    (let s : State := { fed with pw := { fed.pw with kind := 2, phase := .aonOnly } }; s.pw.phase = .aonOnly ∧ s.pw.kind = 2 ∧ s.fed = true) ∧
    readied.dom 2 = .run ∧ readied.dom 5 = .run ∧ (∀ x ∈ img.tasks, x.id < 98) ∧ (up.wr F.RESYNC_STAT_PHASE 6).rd F.RESYNC_STAT_PHASE = 6 ∧
    up.pw.phase ≠ .safeHold ∧ up.pw.phase ≠ .powerFail := by decide +kernel

/-! ## Terms that the checks of WellFormed refuse -/

theorem test_wf_strap : (Instr.slotIdInvalidLoader 16).wf = false ∧ (Instr.slotIdInvalidLoader 15).wf = true := by decide
theorem test_wf_domain : (Instr.domainStartRequest 0).wf = false ∧ (Instr.domainStartRequest 15).wf = false ∧ (Instr.domainStartRequest 14).wf = true := by decide
theorem test_wf_task : (Instr.watchdogExpiry 98).wf = false ∧ (Instr.watchdogExpiry 97).wf = true := by decide
theorem test_wf_di : (Instr.diFilteredChange 16 true 0).wf = false ∧ (Instr.diFilteredChange 15 true 0).wf = true := by decide
theorem test_wf_counter : (Instr.cntClr 4).wf = false ∧ (Instr.cntClr 3).wf = true := by decide
theorem test_wf_do : (Instr.doShortOff 8).wf = false ∧ (Instr.doShortOff 7).wf = true := by decide
theorem test_wf_uc : (Instr.ucSettleComplete 8).wf = false ∧ (Instr.ucSettleComplete 7).wf = true := by decide
theorem test_wf_can : (Instr.canChannelEnable 2).wf = false ∧ (Instr.canChannelEnable 1).wf = true := by decide
theorem test_wf_window : (Instr.tx 0 4).wf = false ∧ (Instr.tx 0 3).wf = true := by decide
theorem test_wf_region : (Instr.regionRender 4).wf = false ∧ (Instr.regionRender 3).wf = true := by decide
theorem test_wf_ring : (Instr.descriptorTake 32).wf = false ∧ (Instr.descriptorTake 31).wf = true := by decide
theorem test_wf_context : (Instr.crcIn8 8 0).wf = false ∧ (Instr.crcIn8 7 0).wf = true := by decide
theorem test_wf_source : (Instr.faultFire 64 0 0 0).wf = false ∧ (Instr.faultFire 63 0 0 0).wf = true := by decide
theorem test_wf_pulse : (Instr.mpPulseEdge 4 0 0 0).wf = false ∧ (Instr.mpPulseEdge 3 0 0 0).wf = true := by decide
theorem test_wf_detector : (Instr.proverDetectorEdge 2 0).wf = false ∧ (Instr.proverDetectorEdge 1 0).wf = true := by decide
theorem test_wf_part : (Instr.firmwarePart 0 4 0).wf = false ∧ (Instr.firmwarePart 8 4 0).wf = false ∧ (Instr.firmwarePart 7 4 0).wf = true := by decide
theorem test_wf_space : (Instr.debugRead 16 0).wf = false ∧ (Instr.debugRead 15 0).wf = true := by decide
theorem test_wf_address : (Instr.debugRead 0 (2 ^ 48)).wf = false ∧ (Instr.debugRead 0 (2 ^ 48 - 1)).wf = true := by decide
theorem test_wf_level : (Instr.lockLevelChange 3 true).wf = false ∧ (Instr.lockLevelChange 2 true).wf = true := by decide
theorem test_wf_react : (Instr.fcReactWrite 8 0).wf = false ∧ (Instr.fcReactWrite 7 0).wf = true := by decide

/-! ## Results that the spec prints -/

/-- The operand of a word of a listing: AREA in bits [25:22], OPERAND in [21:0], and the second word. -/
def listed (w w2 : Word) : Opnd := ⟨(w >>> 22).setWidth 4, w.setWidth 22, w2⟩

/-- The report of passes that agree. -/
def agreeing : PassReport := ⟨.same, .same, .same⟩

/-- The instruction that a word spells, and the word after it where the spec prints one; else the cause. -/
def spelled (w w2 : Word) : Except Nat Instr := codeInstr agreeing w w2

/-- Table 3-16, R75 and R89: LD I:2.0, JC 0x40A, ONE, SET S:0x0102.13, LDC GT. -/
theorem test_code_bits : (spelled 0x04000010 0).toOption = some (.ld ⟨0, 0x10, 0⟩) ∧ (spelled 0x5400040A 0).toOption = some (.jc 0 0x40A) ∧
    (spelled 0x4C000020 0).toOption = some (.one ⟨0, 0, 0⟩) ∧ (spelled 0x45C0204D 0).toOption = some (.set ⟨7, 0x204D, 0⟩) ∧
    (spelled 0x4C000044 0).toOption = some (.ldc ⟨0, 0, 4⟩) := by decide +kernel

/-- Tables 4-6 and 4-20: CLRS, LDA and MULS of a long constant, DIVS, SAT 32, STA, TON T:17, ST M:4.2. -/
theorem test_code_words : (spelled 0xAC1D0000 0).toOption = some (.clrs ⟨0, 0⟩) ∧
    (spelled 0x6A2DC6C0 0xFC000001).toOption = some (.lda ⟨8, 0x2DC6C0, 0xFC000001⟩) ∧
    (spelled 0x92200000 0xFC000008).toOption = some (.muls ⟨8, 0x200000, 0xFC000008⟩) ∧ (spelled 0x9A007530 0).toOption = some (.divs ⟨8, 30000, 0⟩) ∧
    (spelled 0xAC160002 0).toOption = some (.sat ⟨0, 2⟩) ∧ (spelled 0x70900200 0).toOption = some (.sta ⟨2, 0x100200, 0⟩) ∧
    (spelled 0xB1400011 0).toOption = some (.ton 5 17) ∧ (spelled 0x3C800022 0).toOption = some (.st ⟨2, 0x22, 0⟩) := by decide +kernel

/-- R83, R89, R114, R129: an OP that no table assigns is ILLEGAL_OPCODE (1), a function that its OP does not have ILLEGAL_FIELD (3), or, with
AREA not 0, ILLEGAL_AREA (2). -/
theorem test_code_illegal : (match spelled 0x00000000 0 with | .error c => c | .ok _ => 0) = 1 ∧
    (match spelled 0xE4000000 0 with | .error c => c | .ok _ => 0) = 1 ∧ (match spelled 0x4C000070 0 with | .error c => c | .ok _ => 0) = 3 ∧
    (match spelled 0xAC210000 0 with | .error c => c | .ok _ => 0) = 3 ∧ (match spelled 0xAC610000 0 with | .error c => c | .ok _ => 0) = 2 ∧
    (match spelled 0x640B0000 0 with | .error c => c | .ok _ => 0) = 3 := by decide +kernel

/-- What one command leaves, where it leaves a next state. -/
def after (i : Instr) (s : State) : Option State :=
  match exec i s with
  | .next t => some t
  | _ => none

/-- Registers of task 0 after one instruction. -/
def regsAfter (i : Instr) (s : State) : Option Regs := (after i s).map (fun (t : State) => t.regs 0)

/-- Table 3-16: 0x1480_0021 is OR M:4.1, 0x2400_000C AND( I:1.4; the extended OR D17:6.5 is 0x14E0_0035, 0xFC00_0011. -/
theorem test_listing_bits : bitOperand (lp.lpCtx 0) (listed 0x14800021 0) bitReadAreas = .ok (.mem ⟨2, 0, 4⟩ 1) ∧
    bitOperand (lp.lpCtx 0) (listed 0x2400000C 0) bitReadAreas = .ok (.mem ⟨0, 0, 1⟩ 4) ∧
    bitOperand ({ lp with prog := some { img with blocks := [(17, 64)] } }.lpCtx 0) (listed 0x14E00035 0xFC000011) bitReadAreas = .ok (.mem ⟨3, 17, 6⟩ 5) := by
  refine ⟨by rfl, by rfl, by rfl⟩

/-- Tables 4-6 and 4-15: LDA I:0x0100 signed, MULS K:16,777,216 (long), DIVS K:30,000, STA M:0x0200, LDA K:3,000,000 (long). -/
theorem test_listing_words : wordOperand (lp.lpCtx 0) (listed 0x68140100 0) [0, 1, 2, 3, 4, 5, 6, 7, 8] false = .ok (.mem ⟨0, 0, 0x100⟩ 4 true) ∧
    immediate (lp.lpCtx 0) (listed 0x92200000 0xFC000008) = .ok (.const 16777216) ∧
    immediate (lp.lpCtx 0) (listed 0x9A007530 0) = .ok (.const 30000) ∧
    wordOperand (lp.lpCtx 0) (listed 0x70900200 0) storeAreas true = .ok (.mem ⟨2, 0, 0x200⟩ 4 false) ∧
    immediate (lp.lpCtx 0) (listed 0x6A2DC6C0 0xFC000001) = .ok (.const 3000000) := by refine ⟨by rfl, by rfl, by rfl, by rfl, by rfl⟩

/-- Table 3-17: AND( I:1.4 from BA 1 leaves BA 0 and pushes (1, 0, AND); the close leaves 1 ∧ (1 ⊕ 0). -/
theorem test_trace_nest : (regsAfter (.andNest (listed 0x2400000C 0)) (lpWith { regs0 with ba := true })).map (fun r => (r.ba, r.ns)) = some (false, [9#4]) ∧
    (regsAfter (.closeBracket ⟨0, 0, 0⟩) (lpWith { regs0 with ba := true, ns := [9#4] })).map (fun r => (r.ba, r.ns)) = some (true, []) := by decide +kernel

/-- Table 4-6, a count of 12,345: MULS gives 207,114,731,520, DIVS 6,903,824 and the remainder 11,520. -/
theorem test_scaling_normal :
    (regsAfter (.muls (listed 0x92200000 0xFC000008)) (lpWith { regs0 with wa := 12345#64 })).map (fun r => r.wa) = some 207114731520#64 ∧
    (regsAfter (.divs (listed 0x9A007530 0)) (lpWith { regs0 with wa := 207114731520#64 })).map (fun r => (r.wa, r.wb, r.sov)) = some (6903824#64, 11520#64, false) := by
  decide +kernel

/-- Table 4-6, a failed station: SAT 32 (argument 2) clips 1,200,959,900,072 to 0x7FFF_FFFF and sets SOV; LDC OV then loads 1. -/
theorem test_scaling_clipped :
    (regsAfter (.sat ⟨0, 2#16⟩) (lpWith { regs0 with wa := 1200959900072#64 })).map (fun r => (r.wa, r.sov)) = some (0x7FFFFFFF#64, true) ∧
    (regsAfter (.ldc ⟨0, 0, 8⟩) (lpWith { regs0 with sov := true })).map (fun r => r.ba) = some true := by decide +kernel

/-- Table 16-5: the check values over "123456789". -/
def digits9 : List Byte := (List.range 9).map (fun i => BitVec.ofNat 8 (0x31 + i))

theorem test_crc_presets :
    crcResult 0x0#32 (digits9.foldl (crcFeedByte 0x0#32) 0) = 0xF4 ∧
    crcResult 0x1#32 (digits9.foldl (crcFeedByte 0x1#32) 0xFFFF) = 0x29B1 := by decide +kernel

/-- The CRC-32 and CRC-32C of Table 16-5, and the CRC-64 of spec/06 R497. -/
theorem test_crc_checks : crc32 digits9 = 0xCBF43926#32 ∧ crc32c digits9 = 0xE3069283#32 ∧ crc64 digits9 = 0x995DC9BBDF1939FA#64 := by decide +kernel
end Sys2Proof.Tests
end

section
/-! SUPPORT. Bit logic (spec/03): what each shape of instruction does where its task is ready, which instructions have which shape, and the
statements about loads, nesting, the accumulator functions and the jumps. -/

namespace Sys2Proof.BitLogic

open Sys2Proof Sys2Proof.Machine Sys2Proof.Laws

/-! ## From a shape's outcome to what the instruction does -/

section Outcome

variable {s u : State} {t : Nat} {i : Instr}

theorem lpDoes_of_applyEff {e : Eff} {P : Eff → Prop} (hi : exec i s = .next (settle u)) (hu : u = s.applyEff t (s.curWin t) e) (hP : P e) :
    s.LpDoes t i P :=
  ⟨e, by rw [hi, hu], hP⟩

theorem lpFaults_of_applyFault {cause base : Nat} (hi : exec i s = .next (settle u)) (hu : u = s.applyFault t (s.curWin t) cause base) :
    s.LpFaults t i cause base := by
  rw [State.LpFaults, hi, hu]

end Outcome

/-! ## The shapes with a bit operand (R84–R86) -/

/-- The effect that an instruction with a bit operand starts from: IP past its words, and what the read has cost. -/
def readEff (s : State) (t : Nat) (o : Opnd) (s1 : State) (x : Nat) (sv : List Nat) : Eff :=
  { (s.lpCtx t).eff (o.words false) with s := s1, cyc := o.words false, extra := x, svc := sv }

section BitOperand

variable {s s1 : State} {t x : Nat} {o : Opnd} {b : BitTgt} {v : Bool} {sv : List Nat}

theorem withBit_got (f : LpCtx → Bool → Eff → LpRes) (hb : bitOperand (s.lpCtx t) o bitReadAreas = .ok b)
    (hv : readBit (s.lpCtx t) b = .got v s1 x sv) : withBit o f (s.lpCtx t) = f (s.lpCtx t) v (readEff s t o s1 x sv) := by
  rw [withBit, hb]
  dsimp only
  rw [hv]
  rfl

theorem combine_applyEff (f : Bool → Bool → Bool) (hr : s.LpReady t 0) (hb : bitOperand (s.lpCtx t) o bitReadAreas = .ok b)
    (hv : readBit (s.lpCtx t) b = .got v s1 x sv) :
    combine f o s = s.applyEff t (s.curWin t) ((readEff s t o s1 x sv).setBA (f (s.regs t).ba v)) :=
  lpInstr_ok hr (withBit_got _ hb hv)

/-- A nest-open pushes its entry before BA takes the operand's bit. -/
theorem nestOpen_applyEff (neg : Bool) (op : Nat) (hr : s.LpReady t 0) (hb : bitOperand (s.lpCtx t) o bitReadAreas = .ok b)
    (hv : readBit (s.lpCtx t) b = .got v s1 x sv) (hd : (s.regs t).ns.length < 16) :
    nestOpen neg op o s = s.applyEff t (s.curWin t)
      (let e := readEff s t o s1 x sv
       let entry := BitVec.ofNat 4 (8 * bitNat (s.regs t).ba + 4 * bitNat neg + op)
       { e with r := { e.r with ns := entry :: e.r.ns }, feed := e.feed ++ feedNS entry.toNat }.setBA v) := by
  refine lpInstr_ok hr ?_
  rw [hb]
  exact (if_neg (Nat.not_le.mpr hd)).trans (withBit_got _ hb hv)

theorem nestOpen_overflow (neg : Bool) (op : Nat) (hr : s.LpReady t 0) (hb : bitOperand (s.lpCtx t) o bitReadAreas = .ok b)
    (hd : 16 ≤ (s.regs t).ns.length) : nestOpen neg op o s = s.applyFault t (s.curWin t) cNestOverflow (o.words false) := by
  refine lpInstr_fault (s1 := s) hr ?_
  rw [hb]
  exact if_pos hd

end BitOperand

/-! ## The functions of OP 0x13 (R85, R86, R89, R90) -/

section Fn13

variable {s : State} {t : Nat} {o : FnOpnd} {f : LpCtx → Eff → LpRes} {conds : Bool}

theorem fn13_illegalArea (hr : s.LpReady t 0) (ha : o.area ≠ 0) : fn13 conds f o s = s.applyFault t (s.curWin t) cIllegalArea 1 :=
  lpInstr_fault hr (if_pos ha)

theorem fn13_illegalField (hr : s.LpReady t 0) (ha : o.area = 0) (hf : o.rest ≠ 0 ∨ (if conds then 10 ≤ o.cond.toNat else o.cond ≠ 0)) :
    fn13 conds f o s = s.applyFault t (s.curWin t) cIllegalField 1 :=
  lpInstr_fault hr ((if_neg (not_not_intro ha)).trans (if_pos hf))

/-- A function whose fields are in order does what it says, from the effect of passing one word. -/
theorem fn13_body (ha : o.area = 0) (hf : ¬ (o.rest ≠ 0 ∨ (if conds then 10 ≤ o.cond.toNat else o.cond ≠ 0))) :
    fn13 conds f o s = lpInstr 1 0 (fun c => f c (c.eff 1)) s :=
  congrArg (lpInstr 1 0 · s) (funext fun _ => (if_neg (not_not_intro ha)).trans (if_neg hf))

/-- A function that takes no condition, with AREA and all its fields 0. -/
theorem fn13_plain : fn13 false f ⟨0, 0, 0⟩ s = lpInstr 1 0 (fun c => f c (c.eff 1)) s :=
  fn13_body rfl (fun h => h.elim (· rfl) (· rfl))

/-- A function that takes a condition, with one of the ten codes of Table 3-9. -/
theorem fn13_cond {k : BitVec 4} (hk : k.toNat < 10) : fn13 true f ⟨0, 0, k⟩ s = lpInstr 1 0 (fun c => f c (c.eff 1)) s :=
  fn13_body rfl (fun h => h.elim (· rfl) hk.not_ge)

/-- The parts of a nest entry are read back as they were packed (R85). -/
theorem nestEntry_parts : ∀ op < 4, ∀ saved neg : Bool,
    let n := BitVec.ofNat 4 (8 * bitNat saved + 4 * bitNat neg + op)
    n.getLsbD 3 = saved ∧ n.getLsbD 2 = neg ∧ n.toNat % 4 = op := by decide

theorem closeBracket_underflow {c : LpCtx} (e : Eff) (hn : c.r.ns = []) : closeBracket c e = .fault cNestUnderflow c.s := by
  obtain ⟨s, t, ⟨ba, wa, wb, sov, nf, zf, cf, ns, dsel, ip⟩, calls⟩ := c
  obtain rfl : ns = [] := hn
  rfl

theorem closeBracket_entry {c : LpCtx} (e : Eff) {saved neg : Bool} {op : Nat} {rest : List (BitVec 4)} (hop : op < 4)
    (hn : c.r.ns = BitVec.ofNat 4 (8 * bitNat saved + 4 * bitNat neg + op) :: rest) :
    closeBracket c e =
      let r := c.r.ba != neg
      .ok ({ e with r := { e.r with ns := rest }, feed := e.feed ++ feedNS 0xFF }.setBA
        (if op = 1 then saved && r else if op = 2 then saved || r else saved != r)) := by
  obtain ⟨hs, hg, ho⟩ := nestEntry_parts op hop saved neg
  rw [closeBracket, hn]
  dsimp only
  rw [hs, hg, ho]

end Fn13

/-! ## Jumps (R93, R94) -/

section Jump

variable {s : State} {t : Nat} {taken : Bool → Bool} {k : BitVec 22}

/-- A jump that is taken makes the target IP, and the path records where the jump stood. -/
theorem jump_taken (hr : s.LpReady t 0) (hb : taken (s.regs t).ba = true) (hk : k.toNat < s.codeLen) :
    jump taken 0 k s = s.applyEff t (s.curWin t)
      { s := s, r := { s.regs t with ip := k }, calls := (s.rt t).calls, path := [(s.regs t).ip.toNat], cyc := 3 } :=
  lpInstr_ok hr ((if_neg (not_not_intro rfl)).trans ((if_pos hb).trans (if_neg (Nat.not_le.mpr hk))))

theorem jump_not_taken (hr : s.LpReady t 0) (hb : taken (s.regs t).ba = false) :
    jump taken 0 k s = s.applyEff t (s.curWin t) ((s.lpCtx t).eff 1) :=
  lpInstr_ok hr ((if_neg (not_not_intro rfl)).trans (if_neg (ne_true_of_eq_false hb)))

theorem jump_outOfRange (hr : s.LpReady t 0) (hb : taken (s.regs t).ba = true) (hk : s.codeLen ≤ k.toNat) :
    jump taken 0 k s = s.applyFault t (s.curWin t) cJumpRange 3 := by
  have ht : s.lpTask = some t := hr.1
  refine (lpInstr_fault (s1 := s) hr ((if_neg (not_not_intro rfl)).trans ((if_pos hb).trans (if_pos hk)))).trans ?_
  rw [ht]
  exact congrArg (s.applyFault t (s.curWin t) cJumpRange) (if_pos hb)

theorem jump_illegalArea {a : BitVec 4} (hr : s.LpReady t 0) (ha : a ≠ 0) :
    jump taken a k s = s.applyFault t (s.curWin t) cIllegalArea (if taken (s.regs t).ba then 3 else 1) := by
  have ht : s.lpTask = some t := hr.1
  refine (lpInstr_fault (s1 := s) hr (if_pos ha)).trans ?_
  rw [ht]
  rfl

end Jump

/-! ## The instructions of each shape -/

/-- XORN is written with a complement in the model and as equality in Table 3-8. -/
theorem exec_xorn (o : Opnd) (s : State) : exec (.xorn o) s = .next (settle (combine (fun a b => a == b) o s)) := by
  have h : (fun a b : Bool => a ^^ !b) = fun a b => a == b := funext₂ fun a b => by cases a <;> cases b <;> rfl
  rw [← h]
  rfl

/-- Table 3-8: what each load or combine instruction makes of BA and the operand's bit. -/
theorem exec_combine (o : Opnd) (s : State) :
    ∀ p ∈ ([(.ld, fun _ b => b), (.ldn, fun _ b => !b), (.and, fun a b => a && b), (.andn, fun a b => a && !b), (.or, fun a b => a || b),
      (.orn, fun a b => a || !b), (.xor, fun a b => a != b), (.xorn, fun a b => a == b)] : List ((Opnd → Instr) × (Bool → Bool → Bool))),
    exec (p.1 o) s = .next (settle (combine p.2 o s)) := by
  iterate 7 refine List.forall_mem_cons.2 ⟨rfl, ?_⟩
  exact List.forall_mem_singleton.2 (exec_xorn o s)

/-- Table 3-10: NEG and OP of each nest-open instruction. -/
theorem exec_nestOpen (o : Opnd) (s : State) :
    ∀ p ∈ ([(.andNest, false, 1), (.andnNest, true, 1), (.orNest, false, 2), (.ornNest, true, 2), (.xorNest, false, 3),
      (.xornNest, true, 3)] : List ((Opnd → Instr) × Bool × Nat)),
    exec (p.1 o) s = .next (settle (nestOpen p.2.1 p.2.2 o s)) := by
  iterate 6 refine List.forall_mem_cons.2 ⟨rfl, ?_⟩
  exact List.forall_mem_nil _

theorem exec_closeBracket (o : FnOpnd) (s : State) : exec (.closeBracket o) s = .next (settle (fn13 false closeBracket o s)) := rfl

/-- Table 3-11: the functions of BA alone. -/
theorem exec_acc (o : FnOpnd) (s : State) :
    ∀ p ∈ ([(.not, fun a _ => !a), (.one, fun _ _ => true), (.zero, fun _ _ => false)] : List ((FnOpnd → Instr) × (Bool → Bool → Bool))),
    exec (p.1 o) s = .next (settle (fn13 false (fun c e => .ok (e.setBA (p.2 c.r.ba false))) o s)) := by
  iterate 3 refine List.forall_mem_cons.2 ⟨rfl, ?_⟩
  exact List.forall_mem_nil _

/-- Table 3-11: the functions of BA and a condition. -/
theorem exec_fnCond (o : FnOpnd) (s : State) :
    ∀ q ∈ ([(.ldc, fun _ k => k), (.andc, fun a k => a && k), (.orc, fun a k => a || k)] : List ((FnOpnd → Instr) × (Bool → Bool → Bool))),
    exec (q.1 o) s = .next (settle (fnCond q.2 o s)) := by
  iterate 3 refine List.forall_mem_cons.2 ⟨rfl, ?_⟩
  exact List.forall_mem_nil _

/-- The functions of OP 0x13 that take no condition. -/
theorem exec_plainFn (o : FnOpnd) (s : State) :
    ∀ p ∈ ([.closeBracket, .not, .one, .zero] : List (FnOpnd → Instr)), ∃ f, exec (p o) s = .next (settle (fn13 false f o s)) := by
  iterate 4 refine List.forall_mem_cons.2 ⟨⟨_, rfl⟩, ?_⟩
  exact List.forall_mem_nil _

/-- The functions of OP 0x13 that take a condition. -/
theorem exec_condFn (o : FnOpnd) (s : State) :
    ∀ q ∈ ([.ldc, .andc, .orc] : List (FnOpnd → Instr)), ∃ f, exec (q o) s = .next (settle (fn13 true f o s)) := by
  iterate 3 refine List.forall_mem_cons.2 ⟨⟨_, rfl⟩, ?_⟩
  exact List.forall_mem_nil _

/-- Table 3-13: when each jump is taken. -/
theorem exec_jump (a : BitVec 4) (k : BitVec 22) (s : State) :
    ∀ p ∈ ([(.jmp, fun _ => true), (.jc, fun a => a), (.jcn, fun a => !a)] : List ((BitVec 4 → BitVec 22 → Instr) × (Bool → Bool))),
    exec (p.1 a k) s = .next (settle (jump p.2 a k s)) := by
  iterate 3 refine List.forall_mem_cons.2 ⟨rfl, ?_⟩
  exact List.forall_mem_nil _

/-! ## The statements -/

/-- A function of OP 0x13 that writes BA and nothing else, once its fields are in order. -/
theorem lpDoes_setBA {s u : State} {t : Nat} {i : Instr} (g : Regs → Bool) (hr : s.LpReady t 0) (hi : exec i s = .next (settle u))
    (hu : u = lpInstr 1 0 (fun c => .ok ((c.eff 1).setBA (g c.r))) s) :
    s.LpDoes t i fun e => e.only s t s { (s.regs t).past 1 with ba := g (s.regs t) } ∧ e.cyc = 1 :=
  lpDoes_of_applyEff hi (hu.trans (lpInstr_ok hr rfl)) ⟨⟨rfl, rfl, rfl, rfl, rfl, rfl⟩, rfl⟩

/-- The ten conditions (Table 3-9). -/
theorem cond_table (r : Regs) : (List.range 10).map r.cond =
    [r.zf, !r.zf, r.nf, !r.nf, !r.nf && !r.zf, r.nf || r.zf, r.cf, !r.cf, r.sov, !r.sov] := rfl

/-- Settles O7: each instruction of Table 3-8 is a `combine`, whose effect starts from the operand's read. -/
theorem loadAndCombine : Obligations.LoadAndCombine := by
  intro p hp s t o b v s1 x sv hr hb hv
  exact lpDoes_of_applyEff (exec_combine o s p hp) (combine_applyEff p.2 hr hb hv) ⟨⟨rfl, rfl, rfl, rfl, rfl, rfl⟩, rfl, rfl⟩

/-- Settles O8: a nest-open pushes its entry or overflows, and ")" reads back the parts of the entry that it pops or underflows. -/
theorem nesting : Obligations.Nesting := by
  refine ⟨fun p hp s t o b v s1 x sv hr hb hv => ⟨fun hd => ?push, fun hd => ?overflow⟩,
    fun s t hr => ⟨fun hn => ?underflow, fun saved neg op rest _ hop hn => ?pop⟩⟩
  case push =>
    exact lpDoes_of_applyEff (exec_nestOpen o s p hp) (nestOpen_applyEff _ _ hr hb hv hd) ⟨⟨rfl, rfl, rfl, rfl, rfl, rfl⟩, rfl, rfl⟩
  case overflow => exact lpFaults_of_applyFault (exec_nestOpen o s p hp) (nestOpen_overflow _ _ hr hb hd)
  case underflow =>
    exact lpFaults_of_applyFault (exec_closeBracket _ s) (fn13_plain.trans (lpInstr_fault hr (closeBracket_underflow _ hn)))
  case pop =>
    exact lpDoes_of_applyEff (exec_closeBracket _ s) (fn13_plain.trans (lpInstr_ok hr (closeBracket_entry _ (Nat.lt_succ_of_le hop) hn)))
      ⟨⟨rfl, rfl, rfl, rfl, rfl, rfl⟩, rfl⟩

/-- Settles O9: the functions of OP 0x13 write BA where their fields are in order, and fault as Table 3-15 orders where they are not. -/
theorem accumulator : Obligations.Accumulator := by
  refine ⟨fun p hp q hq s t k hr hk => ⟨?plain, ?cond⟩, cond_table, fun p hp q hq s t o hr => ?refused⟩
  case plain => exact lpDoes_setBA (fun r => p.2 r.ba false) hr (exec_acc _ s p hp) fn13_plain
  case cond => exact lpDoes_setBA (fun r => q.2 r.ba (r.cond k.toNat)) hr (exec_fnCond _ s q hq) (fn13_cond hk)
  case refused =>
    obtain ⟨f, hf⟩ := exec_plainFn o s p hp
    obtain ⟨g, hg⟩ := exec_condFn o s q hq
    refine ⟨fun ha => ⟨?_, ?_⟩, fun ha hbad => ?_, fun ha hbad => ?_⟩
    · exact lpFaults_of_applyFault hf (fn13_illegalArea hr ha)
    · exact lpFaults_of_applyFault hg (fn13_illegalArea hr ha)
    · exact lpFaults_of_applyFault hf (fn13_illegalField hr ha hbad)
    · exact lpFaults_of_applyFault hg (fn13_illegalField hr ha hbad)

/-- Settles O12: a jump is taken, falls through, or is refused for its target or its AREA. -/
theorem jumps : Obligations.Jumps := by
  intro p hp s t k hr
  refine ⟨fun hb hk => ?taken, fun hb hk => ?range, fun hb => ?fallThrough, fun a ha => ?area⟩
  case taken => exact lpDoes_of_applyEff (exec_jump 0 k s p hp) (jump_taken hr hb hk) ⟨rfl, rfl, rfl, rfl, rfl⟩
  case range => exact lpFaults_of_applyFault (exec_jump 0 k s p hp) (jump_outOfRange hr hb hk)
  case fallThrough =>
    exact lpDoes_of_applyEff (exec_jump 0 k s p hp) (jump_not_taken hr hb) ⟨⟨rfl, rfl, rfl, rfl, rfl, rfl⟩, rfl⟩
  case area => exact lpFaults_of_applyFault (exec_jump a k s p hp) (jump_illegalArea hr ha)

end Sys2Proof.BitLogic
end
